-- ==== Sys2Proof/Word.lean ====
section
/-! DEFINITION. The word types of the DLN6224: bytes, the 16-bit cycle and sequence numbers, audio samples,
the 32-bit counts, and the index types of its tables (00_scope.md, "Conventions" and "Capacities at a Glance"). -/

namespace Sys2Proof

/-- One byte of a parcel, a chain frame, a return slot or a table entry. -/
abbrev Byte := BitVec 8

/-- A cycle number, a due cycle or an announcement sequence number: 16 bits, wrapping at 65536. -/
abbrev Word16 := BitVec 16

/-- An audio sample: a signed 16-bit integer in two's complement. -/
abbrev Pcm := BitVec 16

/-- A counter: an unsigned 32-bit count. -/
abbrev Count := BitVec 32

/-- A seat chain, 0..5. -/
abbrev ChainIx := Fin 6

/-- A berth position on a chain, 0..7. -/
abbrev PosIx := Fin 8

/-- A berth index, 0..47: chain × 8 + position. -/
abbrev BerthIx := Fin 48

/-- A stream number, 0..31. -/
abbrev StreamIx := Fin 32

/-- A program-audio ring, 0..15. -/
abbrev RingIx := Fin 16

/-- An announcement channel, 0 or 1. -/
abbrev ChannelIx := Fin 2

/-- A level code 0..15, which names a multiplier through the gain table. -/
abbrev Level := Fin 16

end Sys2Proof
end

