-- ==== Sys2Proof/Syntax.lean ====
section
/-! DEFINITION. The commands of the DLN6224: one constructor per row of spec/opcode_table.json, with the operands
the row's event brings. A row that is a parcel carries the parcel's header bytes and its payload, so that a parcel
of the wrong shape is a command too. -/

namespace Sys2Proof

/-- The two backbone ports. -/
inductive Port where
  /-- the upstream port U, toward the head-end -/
  | upstream
  /-- the through port T, toward the next distributor -/
  | through
deriving DecidableEq, Repr

/-- The parcel kinds of ch. 11. -/
inductive Kind where
  | cycleMark | programAudio | videoSegment | announceCue | announceAudio | command | reply
deriving DecidableEq, Repr

/-- A whole parcel (R144): the header bytes and the payload. Its length field and its check are determined by
these (R144 checks 4 and 5), so a parcel that has passed the receive checks is exactly this (log 13). -/
structure Parcel where
  target  : Byte
  origin  : Byte
  kind    : Kind
  flags   : Byte
  payload : List Byte
deriving DecidableEq, Repr

/-- The header bytes of a received parcel whose kind the command's row fixes. -/
structure Header where
  target : Byte
  origin : Byte
  flags  : Byte
deriving DecidableEq, Repr

/-- A return slot as it was taken in: 22 bytes. -/
abbrev SlotBytes := Vector Byte 22

/-- The eight return slots of a window, by position; `none` is a slot not taken in (R134). -/
abbrev ReturnSlots := Vector (Option SlotBytes) 8

/-- What a chain has taken in of its open return window by the moment its next frame begins (R134). -/
structure WindowReturn where
  chain : ChainIx
  slots : ReturnSlots
deriving DecidableEq, Repr

/-- What the lines show at a cycle start: the two quiet lines (`true` active), the temperature sensor (read only when
the cycle start is a seconds tick), and the return slots taken in of the windows that the frames of this cycle start
close, in the order in which these windows are taken (R37, R134; log 9). A chain that is not named has taken in none. -/
structure LineSample where
  qa      : Bool
  qb      : Bool
  sensor  : Int
  returns : List WindowReturn := []
deriving DecidableEq, Repr

/-- The input pins and line signals of the part, as they stand. `true` is active, or a valid line signal. -/
structure Pins where
  qa           : Bool
  qb           : Bool
  straps       : BitVec 4
  sensor       : Int
  upstreamLine : Bool
  throughLine  : Bool
  chainLines   : Vector Bool 6
deriving DecidableEq, Repr

/-- The payload of an ANNOUNCE CUE of the right length, less its cue type, which the row gives (ch. 11). -/
structure CueBody where
  channel      : Byte
  cls          : Byte
  zone         : Byte
  stop         : Byte
  caption      : Byte
  sequence     : Word16
  leadOverride : Word16
deriving DecidableEq, Repr

/-- The commands: one constructor per row of the table of operations and events. -/
inductive Instr where
  /-- CYCLE_MARK: a mark parcel; `elapsed` is the time in microseconds since the event before it. -/
  | cycleMark (h : Header) (elapsed : Nat) (lines : LineSample) (payload : List Byte)
  /-- SELF_START: 1.1 ms have passed since the last cycle start. -/
  | selfStart (lines : LineSample)
  /-- SECONDS_TICK: the seconds divider reaches 1000; `sensor` is what the on-die sensor shows. -/
  | secondsTick (sensor : Int)
  /-- QUIET_LINE_ACCEPTED: the levels that QA and QB show at an eighth consecutive sample. -/
  | quietLineAccepted (qa qb : Bool)
  /-- MARK_LOSS: the missed-mark run reaches 50. -/
  | markLoss
  /-- BACKBONE_SIGNAL_LOST -/
  | backboneSignalLost
  /-- BACKBONE_DOWN: a period without a valid upstream signal reaches 10 ms. -/
  | backboneDown
  /-- BACKBONE_SIGNAL_RETURN -/
  | backboneSignalReturn
  /-- PROGRAM_AUDIO -/
  | programAudio (h : Header) (payload : List Byte)
  /-- VIDEO_SEGMENT -/
  | videoSegment (h : Header) (payload : List Byte)
  /-- START_CUE: an ANNOUNCE CUE of 10 bytes with cue type 01h. -/
  | startCue (h : Header) (cue : CueBody)
  /-- END_CUE: an ANNOUNCE CUE of 10 bytes with cue type 02h. -/
  | endCue (h : Header) (cue : CueBody)
  /-- CANCEL_CUE: an ANNOUNCE CUE of 10 bytes with cue type 03h. -/
  | cancelCue (h : Header) (cue : CueBody)
  /-- LEAD_EXPIRY: the lead remaining of channel `a` reaches 0. -/
  | leadExpiry (a : ChannelIx)
  /-- ANNOUNCE_STALL: the stall run of channel `a` reaches 200. -/
  | announceStall (a : ChannelIx)
  /-- ANNOUNCE_AUDIO -/
  | announceAudio (h : Header) (payload : List Byte)
  /-- CHAIN_FRAME_COMPLETE: the frame on the line of chain `r.chain` finishes; `r.slots` is what was taken in of the
  return window that a frame waiting behind it closes as it begins. -/
  | chainFrameComplete (r : WindowReturn)
  /-- RETURN_WINDOW_CLOSE: the oldest open return window of chain `c` closes with these slots. -/
  | returnWindowClose (c : ChainIx) (slots : ReturnSlots)
  /-- BERTH_PRESENT: the fourth consecutive valid return of berth `b`. -/
  | berthPresent (b : BerthIx)
  /-- BERTH_ABSENT: the sixteenth consecutive missing return of berth `b`. -/
  | berthAbsent (b : BerthIx)
  /-- IDLE_DIM: the idle seconds of berth `b` reach its idle-to-dim. -/
  | idleDim (b : BerthIx)
  /-- IDLE_SLEEP: the idle seconds of berth `b` reach its idle-to-sleep. -/
  | idleSleep (b : BerthIx)
  /-- NO_ANSWER: the query in flight of chain `c` has waited its eighth window. -/
  | noAnswer (c : ChainIx)
  /-- CHAIN_LINK_DOWN: the receiver of chain `c` loses its valid line signal. -/
  | chainLinkDown (c : ChainIx)
  /-- CHAIN_LINK_UP: the receiver of chain `c` holds a valid line signal again. -/
  | chainLinkUp (c : ChainIx)
  /-- RECEIVE_CHECK_FAILURE: a parcel as it ended on the line of a port; `clean` is whether the line delimited it
  cleanly. -/
  | receiveCheckFailure (port : Port) (clean : Bool) (bytes : List Byte)
  /-- WRONG_DIRECTION: a REPLY parcel arrives on port U. -/
  | wrongDirection (h : Header) (payload : List Byte)
  /-- FORWARD_COMMAND: a COMMAND parcel addressed to another target. -/
  | forwardCommand (h : Header) (payload : List Byte)
  /-- THROUGH_ARRIVAL: a parcel that passed the receive checks of port T. -/
  | throughArrival (p : Parcel)
  /-- THROUGH_LINK_DOWN -/
  | throughLinkDown
  /-- THROUGH_LINK_UP -/
  | throughLinkUp
  /-- THROUGH_SEND_COMPLETE -/
  | throughSendComplete
  /-- UPSTREAM_SEND_COMPLETE -/
  | upstreamSendComplete
  /-- UNKNOWN_COMMAND: a COMMAND parcel whose payload is empty or whose code names no command. -/
  | unknownCommand (h : Header) (payload : List Byte)
  /-- IDENTIFY, code 01h -/
  | identify (h : Header) (body : List Byte)
  /-- LOAD_ENTRIES, code 02h -/
  | loadEntries (h : Header) (body : List Byte)
  /-- READ_ENTRIES, code 03h -/
  | readEntries (h : Header) (body : List Byte)
  /-- OPEN_STREAM, code 04h -/
  | openStream (h : Header) (body : List Byte)
  /-- CLOSE_STREAM, code 05h -/
  | closeStream (h : Header) (body : List Byte)
  /-- RESET_BERTH, code 06h -/
  | resetBerth (h : Header) (body : List Byte)
  /-- SET_BERTH_ACTIVE, code 07h -/
  | setBerthActive (h : Header) (body : List Byte)
  /-- READ_COUNTERS, code 08h -/
  | readCounters (h : Header) (body : List Byte)
  /-- CLEAR_COUNTERS, code 09h -/
  | clearCounters (h : Header) (body : List Byte)
  /-- READ_ATTENTION, code 0Ah -/
  | readAttention (h : Header) (body : List Byte)
  /-- CLEAR_ATTENTION, code 0Bh -/
  | clearAttention (h : Header) (body : List Byte)
  /-- READ_CALLS, code 0Ch -/
  | readCalls (h : Header) (body : List Byte)
  /-- ACKNOWLEDGE_CALLS, code 0Dh -/
  | acknowledgeCalls (h : Header) (body : List Byte)
  /-- CLEAR_FAULTS, code 0Eh -/
  | clearFaults (h : Header) (body : List Byte)
  /-- ENTER_SERVICE, code 0Fh -/
  | enterService (h : Header) (body : List Byte)
  /-- ENTER_CONFIGURATION, code 10h -/
  | enterConfiguration (h : Header) (body : List Byte)
  /-- BERTH_QUERY, code 11h -/
  | berthQuery (h : Header) (body : List Byte)
  /-- FETCH_QUERY_RESULTS, code 12h -/
  | fetchQueryResults (h : Header) (body : List Byte)
  /-- ABORT_QUERIES, code 13h -/
  | abortQueries (h : Header) (body : List Byte)
  /-- RESTART, code 14h -/
  | restart (h : Header) (body : List Byte)
  /-- POWER_ON_RESET: a power-on reset begins. -/
  | powerOnReset
  /-- RESET_PIN: the reset pin is asserted. -/
  | resetPin
  /-- END_OF_RESET: a reset ends, with the pins and lines as they are then found. -/
  | endOfReset (pins : Pins)
  /-- CUE_BAD_PAYLOAD: an ANNOUNCE CUE of the wrong length or with an unlisted cue type. -/
  | cueBadPayload (h : Header) (payload : List Byte)
deriving DecidableEq, Repr

end Sys2Proof
end

