-- ==== Sys2Proof/Machine/Bytes.lean ====
section
/-! DEFINITION. Numbers and bytes: the big-endian fields of ch. 11, the cycle distance (00_scope.md, R6),
saturating counters, and the 16-bit check of R145. -/

namespace Sys2Proof.Machine

/-- The number that a field of bytes holds, most significant byte first (00_scope.md, "Byte order"). -/
def beNat (bs : List Byte) : Nat := bs.foldl (fun acc b => acc * 256 + b.toNat) 0

/-- The `n` bytes of a field that holds `v`, most significant byte first. -/
def beBytes : Nat → Nat → List Byte
  | 0, _ => []
  | n + 1, v => BitVec.ofNat 8 (v / 256 ^ n) :: beBytes n v

/-- Byte `i` of a payload, 0 where the payload ends before it (the callers have judged the length). -/
def byteAt (bs : List Byte) (i : Nat) : Byte := bs.getD i 0

/-- The number held in the `n` bytes from offset `off`. -/
def fieldAt (bs : List Byte) (off n : Nat) : Nat := beNat ((bs.drop off).take n)

/-- The 16-bit word at offset `off`. -/
def wordAt (bs : List Byte) (off : Nat) : Word16 := BitVec.ofNat 16 (fieldAt bs off 2)

/-- The distance from `b` to `a` (R6): (a − b) mod 65536 read as a signed number. -/
def cycleDistance (a b : Word16) : Int := (a - b).toInt

/-- The offset of sequence `s` from the next expected sequence `e` (ch. 5): (s − e) mod 65536, unsigned. -/
def seqOffset (s e : Word16) : Nat := (s - e).toNat

/-- A count increased by `k`, saturating at its largest value (R17 and the counter rule of every chapter). -/
def addCount (c : Count) (k : Nat) : Count :=
  if c.toNat + k < 2 ^ 32 then BitVec.ofNat 32 (c.toNat + k) else BitVec.allOnes 32

/-- A count increased by 1, saturating. -/
def bump (c : Count) : Count := addCount c 1

/-- The four bytes of a count in a READ COUNTERS reply. -/
def countBytes (c : Count) : List Byte := beBytes 4 c.toNat

/-- One bit of the check computation (R145). -/
def checkBit (r : Word16) (b : Bool) : Word16 :=
  if r.msb != b then (r <<< 1) ^^^ 0x8005#16 else r <<< 1

/-- One byte of the check computation, most significant bit first (R145). -/
def checkByte (r : Word16) (b : Byte) : Word16 :=
  [7, 6, 5, 4, 3, 2, 1, 0].foldl (fun r i => checkBit r (b.getLsbD i)) r

/-- The 16-bit check over a run of bytes: the register starts at FFFFh and is not inverted (R145). -/
def checkOf (bs : List Byte) : Word16 := bs.foldl checkByte 0xFFFF#16

end Sys2Proof.Machine
end

