-- ==== Sys2Proof/Machine/Records.lean ====
section
/-! DEFINITION. The records that State is made of: one type for each table, ring, queue, port and counter group of
the spec, plain data throughout. -/

namespace Sys2Proof.Machine

/-- The two modes (R154). -/
inductive Mode where
  | configuration | service
deriving DecidableEq, Repr

/-- What holds the part in reset (R166). -/
inductive ResetHold where
  /-- a power-on reset, until the supply is good -/
  | powerOn
  /-- the reset pin, for as long as it is held -/
  | pin
deriving DecidableEq, Repr

/-! ### Cycle timer and fault monitor (ch. 1) -/

/-- A quiet-line sampler (R9): the accepted level (`true` active) and the change run 0..7. -/
structure Sampler where
  accepted : Bool
  run      : Nat
deriving DecidableEq, Repr

/-- The cycle timer (ch. 1). `sinceStart` is in microseconds. -/
structure Timer where
  cycle      : Word16
  sinceStart : Nat
  missedRun  : Nat
  firstMark  : Bool
  divider    : Nat
  qa         : Sampler
  qb         : Sampler
deriving DecidableEq, Repr

/-- One bit for each of the three faults: the flags (R11), or the fault mask (R15). -/
structure FaultBits where
  markLoss     : Bool
  overheat     : Bool
  backboneDown : Bool
deriving DecidableEq, Repr

/-- The fault monitor (ch. 1). `overheat` and `backboneDown` are the conditions of R13 and R14; `noSignal` is the
running period without a valid upstream signal, in microseconds. -/
structure FaultMonitor where
  temperature  : Int
  overheat     : Bool
  flags        : FaultBits
  noSignal     : Option Nat
  backboneDown : Bool
deriving DecidableEq, Repr

/-- The counts of the part group (R17, R53, R126), in the order of R162. -/
structure PartCounts where
  marksTaken        : Count
  earlyMarks        : Count
  slips             : Count
  selfStarts        : Count
  markLossRaises    : Count
  overheatRaises    : Count
  backboneDownRaises : Count
  qaChanges         : Count
  qbChanges         : Count
  regimeChanges     : Count
  noDemand          : Count
  unplaced          : Count
  storeFull         : Count
deriving DecidableEq, Repr

/-! ### Berths, profiles (ch. 2, 3) -/

/-- Presence of a berth (R20). -/
inductive Presence where
  | absent | joining | present
deriving DecidableEq, Repr

/-- The awake state (R29). -/
inductive Awake where
  | asleep | awake | dimmed
deriving DecidableEq, Repr

/-- The regime (R43). -/
inductive Regime where
  | day | night
deriving DecidableEq, Repr

/-- The quiet source (R43). -/
inductive QuietSource where
  | none | a | b | either
deriving DecidableEq, Repr

/-- The mode of a quiet line (R40). -/
inductive QuietMode where
  | follow | forceOn | forceOff
deriving DecidableEq, Repr

/-- A set of the seven active-settings fields (R44). -/
structure Settings where
  headphoneCeiling : Level
  speakerCeiling   : Level
  onBrightness     : Fin 16
  dimBrightness    : Fin 16
  glideStep        : Fin 256
  idleToDim        : Fin 1024
  idleToSleep      : Fin 1024
deriving DecidableEq, Repr

/-- A profile: its day set and its night set (R44). -/
structure Profile where
  day   : Settings
  night : Settings
deriving DecidableEq, Repr

/-- The configured part of a berth record (ch. 2). Bit `i` of `allowed` stands for stream `i`. -/
structure BerthConfig where
  profile      : Fin 4
  quietSource  : QuietSource
  allowed      : BitVec 32
  alightStop   : Option (Fin 64)
  defaultAudio : Option StreamIx
  defaultVideo : Option StreamIx
  defaultLevel : Level
deriving DecidableEq, Repr

/-- A berth record: its configured part and its live part (ch. 2). -/
structure Berth where
  config     : BerthConfig
  presence   : Presence
  validRun   : Nat
  missingRun : Nat
  awake      : Awake
  idle       : Nat
  audio      : Option StreamIx
  video      : Option StreamIx
  level      : Level
  headphone  : Bool
  unitFault  : Bool
  regime     : Regime
  settings   : Settings
  governing  : Option ChannelIx
  ducked     : Bool
  ap         : Nat
  ad         : Nat
deriving DecidableEq, Repr

/-! ### Streams and rings (ch. 4) -/

/-- A stereo frame. -/
structure Stereo where
  left  : Pcm
  right : Pcm
deriving DecidableEq, Repr

/-- A program audio block, and equally an audio slot: 48 stereo frames. -/
abbrev ProgramBlock := Vector Stereo 48

/-- An announcement audio block: 48 mono samples. -/
abbrev SpeechBlock := Vector Pcm 48

/-- The kind of an open stream (R54). -/
inductive StreamKind where
  | programAudio | programVideo | captionVideo
deriving DecidableEq, Repr

/-- A presented block (R54, R73): absent, silence, or a block. -/
inductive Presented (α : Type) where
  | absent
  | silence
  | block (b : α)
deriving DecidableEq, Repr

/-- The counts of a stream (R69). -/
structure StreamCounts where
  accepted  : Count
  late      : Count
  early     : Count
  duplicate : Count
  underrun  : Count
deriving DecidableEq, Repr

/-- A stream entry (R54). `kind` is `none` exactly while the stream is CLOSED. -/
structure StreamEntry where
  kind      : Option StreamKind
  ring      : Option RingIx
  presented : Presented ProgramBlock
  counts    : StreamCounts
deriving DecidableEq, Repr

/-- A program-audio ring (R55): 16 slots, each empty or a due cycle with its block. -/
abbrev Ring := Vector (Option (Word16 × ProgramBlock)) 16

/-! ### Announcements (ch. 5) -/

/-- The announcement classes, from highest to lowest (ch. 5). -/
inductive Class where
  | emergency | safety | service | courtesy
deriving DecidableEq, Repr

/-- A class entry (R72). -/
structure ClassEntry where
  duckTarget : Fin 257
  duckStep   : Fin 256
  level      : Level
  lead       : Fin 256
deriving DecidableEq, Repr

/-- The states of an announcement channel (R73). -/
inductive ChannelState where
  | idle | ducking | lead | playing
deriving DecidableEq, Repr

/-- The counts of a channel (R94). -/
structure ChannelCounts where
  accepted    : Count
  stale       : Count
  duplicate   : Count
  gapCycles   : Count
  cuesRefused : Count
deriving DecidableEq, Repr

/-- A channel's ring (R73): 256 slots, each empty or a sequence with its block. -/
abbrev SpeechRing := Vector (Option (Word16 × SpeechBlock)) 256

/-- A channel record (R73). Bit `b` of `reach` stands for berth `b`. -/
structure Channel where
  state        : ChannelState
  cls          : Option Class
  reach        : BitVec 48
  caption      : Option StreamIx
  leadOverride : Option (Fin 256)
  nextSeq      : Word16
  lastSeq      : Option Word16
  lead         : Nat
  stall        : Nat
  ring         : SpeechRing
  presented    : Presented SpeechBlock
  counts       : ChannelCounts
deriving DecidableEq, Repr

/-! ### Segment store (ch. 7) -/

/-- A segment slot in use (R110); its length is the number of its bytes. -/
structure Segment where
  bytes  : List Byte
  stream : StreamIx
  due    : Word16
  refs   : Nat
deriving DecidableEq, Repr

/-- An entry of a video queue (R111). -/
structure VideoEntry where
  slot   : Fin 256
  stream : StreamIx
  due    : Word16
  length : Nat
deriving DecidableEq, Repr

/-! ### Chains and queries (ch. 8) -/

/-- How a screen is lit (R132). -/
inductive Screen where
  | off | dim | on
deriving DecidableEq, Repr

/-- A control word (R132). -/
structure ControlWord where
  screen     : Screen
  brightness : Fin 16
  video      : Option StreamIx
  caption    : Option StreamIx
  alert      : Option Class
  lamp       : Bool
deriving DecidableEq, Repr

/-- The eight-byte argument of a query. -/
abbrev QueryArg := Vector Byte 8

/-- The sixteen answer bytes of a return slot. -/
abbrev AnswerBytes := Vector Byte 16

/-- A queued query (R135). -/
structure Query where
  pos  : PosIx
  code : Byte
  arg  : QueryArg
deriving DecidableEq, Repr

/-- The query in flight (R135): its token 1..15, whether it is placed, the windows it has waited. -/
structure InFlight where
  query  : Query
  token  : Nat
  placed : Bool
  waited : Nat
deriving DecidableEq, Repr

/-- How a query ended (R135). -/
inductive QueryOutcome where
  | answered | noAnswer | absent
deriving DecidableEq, Repr

/-- A query result (R135). -/
structure QueryResult where
  chain   : ChainIx
  pos     : PosIx
  code    : Byte
  outcome : QueryOutcome
  answer  : Option AnswerBytes
deriving DecidableEq, Repr

/-- A segment in a frame's video area: its descriptor fields and its bytes (R119). -/
structure VideoItem where
  stream : StreamIx
  due    : Word16
  bytes  : List Byte
deriving DecidableEq, Repr

/-- The query field of a frame that carries a query (R133). -/
structure QueryField where
  token : Nat
  query : Query
deriving DecidableEq, Repr

/-- A chain frame (R130, R131). -/
structure ChainFrame where
  chain    : ChainIx
  cycle    : Word16
  mode     : Mode
  controls : Vector ControlWord 8
  audio    : Vector ProgramBlock 8
  query    : Option QueryField
  video    : List VideoItem
deriving DecidableEq, Repr

/-- An open return window (R134): the cycle of its frame, and whether the query in flight was placed in its frame
or in one before it, so that the close of this window counts for it (R138; log 9). -/
structure Window where
  cycle  : Word16
  judges : Bool
deriving DecidableEq, Repr

/-- The counts of a chain (R39, R109, R126, R141), in the order of R162. -/
structure ChainCounts where
  presenceGained   : Count
  presenceLost     : Count
  keysApplied      : Count
  keysDiscarded    : Count
  callsPlaced      : Count
  headphoneChanges : Count
  unitFaults       : Count
  mixClips         : Count
  oversize         : Count
  queueFull        : Count
  sent             : Count
  lateDiscards     : Count
  flushed          : Count
  framesSent       : Count
  framesSkipped    : Count
  linkDowns        : Count
  returnsValid     : Count
  returnsMissing   : Count
  returnsInvalid   : Count
  queriesSent      : Count
  answered         : Count
  noAnswer         : Count
  absentOutcomes   : Count
  foreignTokens    : Count
  queriesDiscarded : Count
deriving DecidableEq, Repr

/-- A seat chain: its table entry (R127), link (R128), video queues and wait count (R111), chain port (R130, R134)
and query engine (R135). -/
structure Chain where
  enabled   : Bool
  budget    : Nat
  ratio     : Nat
  link      : Bool
  priority  : List VideoEntry
  program   : List VideoEntry
  wait      : Nat
  line      : Option ChainFrame
  waiting   : Option ChainFrame
  windows   : List Window
  queries   : List Query
  inFlight  : Option InFlight
  nextToken : Nat
  results   : List QueryResult
  counts    : ChainCounts
deriving DecidableEq, Repr

/-! ### Backbone ports (ch. 9) -/

/-- The identity read from the straps (R142). -/
structure Node where
  strap   : BitVec 4
  address : Byte
  fault   : Bool
deriving DecidableEq, Repr

/-- The counts of the six receive checks with the parcels received (R144, R152). -/
structure ReceiveCounts where
  received : Count
  framing  : Count
  runts    : Count
  oversize : Count
  checks   : Count
  lengths  : Count
  kinds    : Count
deriving DecidableEq, Repr

/-- The counts of port U (R152). -/
structure UpstreamCounts where
  receive          : ReceiveCounts
  wrongDirection   : Count
  notInService     : Count
  unusedStream     : Count
  badPayload       : Count
  queueFull        : Count
  parcelsSent      : Count
  repliesSent      : Count
  repliesDiscarded : Count
deriving DecidableEq, Repr

/-- The counts of port T (R152). -/
structure ThroughCounts where
  receive         : ReceiveCounts
  wrongDirection  : Count
  queueFull       : Count
  parcelsSent     : Count
  discardedAtDown : Count
deriving DecidableEq, Repr

/-- The two sources of the upstream arbiter (R150). -/
inductive Source where
  | reply | forward
deriving DecidableEq, Repr

/-- A reply parcel, with whether it is the reply of the pending RESTART (R166). -/
structure Reply where
  parcel  : Parcel
  restart : Bool
deriving DecidableEq, Repr

/-- What the upstream transmitter sends. -/
inductive Sending where
  | reply (r : Reply)
  | forward (p : Parcel)
deriving DecidableEq, Repr

/-- The upstream port (ch. 9). `sending` is `none` while the transmitter is idle. -/
structure UpstreamPort where
  queue      : List Parcel
  slot       : Option Reply
  sending    : Option Sending
  lastServed : Source
  counts     : UpstreamCounts
deriving DecidableEq, Repr

/-- The through port (ch. 9). -/
structure ThroughPort where
  link    : Bool
  queue   : List Parcel
  sending : Option Parcel
  counts  : ThroughCounts
deriving DecidableEq, Repr

/-! ### Management (ch. 10) -/

/-- The part settings record (R157). -/
structure PartSettings where
  recoveryStep  : Fin 256
  threshold     : Nat
  faultMask     : FaultBits
  attentionMask : BitVec 16
  modeQA        : QuietMode
  modeQB        : QuietMode
deriving DecidableEq, Repr

/-- Management's own state (ch. 10): mode, part settings, the latched attention flags and restart-pending. -/
structure Management where
  mode           : Mode
  settings       : PartSettings
  presence       : Vector Bool 6
  stall          : Vector Bool 2
  restartPending : Bool
deriving DecidableEq, Repr

end Sys2Proof.Machine
end

