-- ==== Sys2Proof/Machine/Defaults.lean ====
section
/-! DEFINITION. The values that every reset gives each block, block by block, from the reset rule of its owner
(R7, R11, R19, R50, R68, R93, R109, R125, R127, R135, R142, R151, R157, R163). -/

namespace Sys2Proof.Machine

/-- Gain[n], the gain table of 00_scope.md ("Levels", R96). -/
def gain (n : Level) : Nat :=
  [0, 2, 3, 4, 6, 8, 11, 16, 23, 32, 45, 64, 91, 128, 181, 256].getD n.val 0

/-- R7. -/
def Timer.initial : Timer :=
  { cycle := 0, sinceStart := 0, missedRun := 0, firstMark := true, divider := 0,
    qa := { accepted := false, run := 0 }, qb := { accepted := false, run := 0 } }

/-- No fault bit set. -/
def FaultBits.clear : FaultBits := { markLoss := false, overheat := false, backboneDown := false }

/-- R17, R53, R126: every count is 0 after any reset. -/
def PartCounts.zero : PartCounts :=
  { marksTaken := 0, earlyMarks := 0, slips := 0, selfStarts := 0, markLossRaises := 0, overheatRaises := 0,
    backboneDownRaises := 0, qaChanges := 0, qbChanges := 0, regimeChanges := 0, noDemand := 0, unplaced := 0,
    storeFull := 0 }

/-- The day set of R44. -/
def Settings.day : Settings :=
  { headphoneCeiling := 13, speakerCeiling := 10, onBrightness := 15, dimBrightness := 8, glideStep := 8,
    idleToDim := 0, idleToSleep := 0 }

/-- The night set of R44. -/
def Settings.night : Settings :=
  { headphoneCeiling := 11, speakerCeiling := 6, onBrightness := 9, dimBrightness := 3, glideStep := 4,
    idleToDim := 120, idleToSleep := 480 }

/-- R44: all four profiles after reset. -/
def Profile.initial : Profile := { day := .day, night := .night }

/-- R19, R50: every berth record after reset. -/
def Berth.initial : Berth :=
  { config :=
      { profile := 0, quietSource := .none, allowed := 0, alightStop := none, defaultAudio := none,
        defaultVideo := none, defaultLevel := 8 }
    presence := .absent, validRun := 0, missingRun := 0, awake := .asleep, idle := 0, audio := none,
    video := none, level := 8, headphone := false, unitFault := false, regime := .day, settings := .day,
    governing := none, ducked := false, ap := 0, ad := 256 }

/-- Silence: 48 stereo frames of zeros. -/
def ProgramBlock.silent : ProgramBlock := Vector.replicate 48 { left := 0, right := 0 }

/-- Silence: 48 samples of 0. -/
def SpeechBlock.silent : SpeechBlock := Vector.replicate 48 0

/-- R69. -/
def StreamCounts.zero : StreamCounts := { accepted := 0, late := 0, early := 0, duplicate := 0, underrun := 0 }

/-- R68: every stream after reset. -/
def StreamEntry.initial : StreamEntry :=
  { kind := none, ring := none, presented := .absent, counts := .zero }

/-- A ring with every slot empty (R68). -/
def Ring.empty : Ring := Vector.replicate 16 none

/-- R72: the class table after reset, in the order EMERGENCY, SAFETY, SERVICE, COURTESY. -/
def ClassEntry.table : Vector ClassEntry 4 :=
  #v[{ duckTarget := 0, duckStep := 0, level := 15, lead := 20 },
     { duckTarget := 32, duckStep := 16, level := 13, lead := 50 },
     { duckTarget := 64, duckStep := 8, level := 12, lead := 100 },
     { duckTarget := 128, duckStep := 4, level := 11, lead := 100 }]

/-- R71, R93: zone 0 holds all 48 berths, the others none. -/
def zonesInitial : Vector (BitVec 48) 16 := (Vector.replicate 16 0).set 0 (BitVec.allOnes 48)

/-- R94. -/
def ChannelCounts.zero : ChannelCounts :=
  { accepted := 0, stale := 0, duplicate := 0, gapCycles := 0, cuesRefused := 0 }

/-- A channel's ring with every slot empty. -/
def SpeechRing.empty : SpeechRing := Vector.replicate 256 none

/-- R93: each channel after reset. -/
def Channel.initial : Channel :=
  { state := .idle, cls := none, reach := 0, caption := none, leadOverride := none, nextSeq := 0, lastSeq := none,
    lead := 0, stall := 0, ring := .empty, presented := .absent, counts := .zero }

/-- R39, R109, R126, R141. -/
def ChainCounts.zero : ChainCounts :=
  { presenceGained := 0, presenceLost := 0, keysApplied := 0, keysDiscarded := 0, callsPlaced := 0,
    headphoneChanges := 0, unitFaults := 0, mixClips := 0, oversize := 0, queueFull := 0, sent := 0,
    lateDiscards := 0, flushed := 0, framesSent := 0, framesSkipped := 0, linkDowns := 0, returnsValid := 0,
    returnsMissing := 0, returnsInvalid := 0, queriesSent := 0, answered := 0, noAnswer := 0, absentOutcomes := 0,
    foreignTokens := 0, queriesDiscarded := 0 }

/-- R127, R128, R135, R125: a chain after reset, its link as its line is found. -/
def Chain.initial (line : Bool) : Chain :=
  { enabled := true, budget := 8192, ratio := 4, link := line, priority := [], program := [], wait := 0,
    line := none, waiting := none, windows := [], queries := [], inFlight := none, nextToken := 1, results := [],
    counts := .zero }

/-- R152. -/
def ReceiveCounts.zero : ReceiveCounts :=
  { received := 0, framing := 0, runts := 0, oversize := 0, checks := 0, lengths := 0, kinds := 0 }

/-- R152, port U. -/
def UpstreamCounts.zero : UpstreamCounts :=
  { receive := .zero, wrongDirection := 0, notInService := 0, unusedStream := 0, badPayload := 0, queueFull := 0,
    parcelsSent := 0, repliesSent := 0, repliesDiscarded := 0 }

/-- R152, port T. -/
def ThroughCounts.zero : ThroughCounts :=
  { receive := .zero, wrongDirection := 0, queueFull := 0, parcelsSent := 0, discardedAtDown := 0 }

/-- R151: the upstream port after reset. -/
def UpstreamPort.initial : UpstreamPort :=
  { queue := [], slot := none, sending := none, lastServed := .forward, counts := .zero }

/-- R151, R143: the through port after reset, its link as its line is found. -/
def ThroughPort.initial (line : Bool) : ThroughPort :=
  { link := line, queue := [], sending := none, counts := .zero }

/-- The number of bits set in a strap value. -/
def strapBits (v : BitVec 4) : Nat := ([0, 1, 2, 3].filter fun i => v.getLsbD i).length

/-- R142: a strap value is valid when it has an even number of bits set and is neither 0 nor 15. -/
def strapValid (v : BitVec 4) : Bool := strapBits v % 2 == 0 && v != 0 && v != 15

/-- R142: the identity that a strap value gives. -/
def Node.ofStraps (v : BitVec 4) : Node :=
  if strapValid v then { strap := v, address := 0xA0#8 + v.setWidth 8, fault := false }
  else { strap := v, address := 0xAF#8, fault := true }

/-- R157: the part settings after any reset. -/
def PartSettings.initial : PartSettings :=
  { recoveryStep := 4, threshold := 95, faultMask := .clear, attentionMask := 0, modeQA := .follow,
    modeQB := .follow }

/-- R154, R157, R163, R166: management after any reset. -/
def Management.initial : Management :=
  { mode := .configuration, settings := .initial, presence := Vector.replicate 6 false,
    stall := Vector.replicate 2 false, restartPending := false }

/-- R10: a sensor value held as a reading, within −40..150. -/
def clampReading (v : Int) : Int := max (-40) (min 150 v)

/-- R13: the OVERHEAT condition after a judgement of `reading` against `threshold`. -/
def overheatAfter (threshold : Nat) (before : Bool) (reading : Int) : Bool :=
  if before then !decide (reading ≤ (threshold : Int) - 5) else decide ((threshold : Int) ≤ reading)

/-- R10, R11, R13, R14: the fault monitor at the end of a reset: no condition holds, the sensor is read and
OVERHEAT judged on it against 95 (log 23), and a period without signal begins if the upstream line has none. -/
def FaultMonitor.initial (sensor : Int) (line : Bool) : FaultMonitor :=
  let reading := clampReading sensor
  let hot := overheatAfter 95 false reading
  { temperature := reading, overheat := hot, flags := { FaultBits.clear with overheat := hot },
    noSignal := if line then none else some 0, backboneDown := false }

/-- R17, R13: the counts of the part group at the end of a reset: 0, but for the OVERHEAT raise that the reading
of the end of the reset makes. -/
def PartCounts.initial (sensor : Int) : PartCounts :=
  { PartCounts.zero with
    overheatRaises := if overheatAfter 95 false (clampReading sensor) then 1 else 0 }

/-- What the pins and lines are in `State.reset`, where the spec gives no level: quiet lines inactive, straps 5 (the
address A5h of ch. 9's worked sequence), sensor 0, every line signal valid. DESIGN CHOICE, unsafe (log 5). -/
def Pins.initial : Pins :=
  { qa := false, qb := false, straps := 5, sensor := 0, upstreamLine := true, throughLine := true,
    chainLines := Vector.replicate 6 true }

end Sys2Proof.Machine
end

