-- ==== Sys2Proof/Machine/State.lean ====
section
/-! DEFINITION. The state of the part: every table, ring, queue, port, counter, mode and pin the spec names, and
the queue of waiting commands. The values after a reset are those of Machine/Defaults.lean. -/

namespace Sys2Proof.Machine

/-- No command stops the part with a fault: the spec counts what it drops and refuses by a reply. Safe. -/
inductive Fault where
deriving DecidableEq, Repr

/-- A command that the model gives no meaning. No arm of `exec` answers it. -/
inductive Refusal where
  /-- raised by `exec` for a command without a meaning; safe -/
  | notModelled (mnemonic : String)
deriving DecidableEq, Repr

/-- The state of the DLN6224. -/
structure State where
  /-- the input pins and line signals, as they stand -/
  pins      : Pins
  /-- what holds the part in reset, if anything (R166) -/
  held      : Option ResetHold
  /-- cycle timer (R7) -/
  timer     : Timer
  /-- fault monitor (R11) -/
  faults    : FaultMonitor
  /-- management (ch. 10) -/
  mgmt      : Management
  /-- the counts of the part group (R162) -/
  counts    : PartCounts
  /-- berth table (R18) -/
  berths    : Vector Berth 48
  /-- call list, oldest first (R37) -/
  calls     : List BerthIx
  /-- the audio slot of each berth for the current cycle (R97) -/
  slots     : Vector ProgramBlock 48
  /-- profile table (R44) -/
  profiles  : Vector Profile 4
  /-- stream table (R54) -/
  streams   : Vector StreamEntry 32
  /-- ring pool (R55) -/
  rings     : Vector Ring 16
  /-- zone table (R71); bit `b` of a zone stands for berth `b` -/
  zones     : Vector (BitVec 48) 16
  /-- class table (R72) -/
  classes   : Vector ClassEntry 4
  /-- announcement channels (R73) -/
  channels  : Vector Channel 2
  /-- segment store (R110); `none` is a free slot -/
  store     : Vector (Option Segment) 256
  /-- seat chains (R127) -/
  chains    : Vector Chain 6
  /-- strap value, node address, strap fault indication (R142) -/
  node      : Node
  /-- upstream port (ch. 9) -/
  up        : UpstreamPort
  /-- through port (ch. 9) -/
  thru      : ThroughPort
  /-- how many free orderings have been drawn: the model's own field (log 3, log 4) -/
  draws     : Nat
  /-- the commands that are waiting, first in first out -/
  pending   : List Instr
deriving DecidableEq, Repr

/-- The part at the end of a reset, with its pins and lines as they are then found (R166): each block holds the
values of its owner's reset rule. -/
def State.afterReset (pins : Pins) : State :=
  { pins := pins, held := none, timer := .initial,
    faults := .initial pins.sensor pins.upstreamLine, mgmt := .initial,
    counts := .initial pins.sensor,
    berths := Vector.replicate 48 .initial, calls := [], slots := Vector.replicate 48 ProgramBlock.silent,
    profiles := Vector.replicate 4 .initial, streams := Vector.replicate 32 .initial,
    rings := Vector.replicate 16 Ring.empty, zones := zonesInitial, classes := ClassEntry.table,
    channels := Vector.replicate 2 .initial, store := Vector.replicate 256 none,
    chains := Vector.ofFn fun c => .initial pins.chainLines[c], node := .ofStraps pins.straps,
    up := .initial, thru := .initial pins.throughLine, draws := 0, pending := [] }

/-- The machine right after reset. -/
def State.reset : State := State.afterReset Pins.initial

end Sys2Proof.Machine
end

