-- ==== Sys2Proof/Machine/Ops.lean ====
section
/-! DEFINITION. The named operations over State that every meaning is written with: one berth, chain, stream or
channel changed; a count increased; the berths of a chain; a reset taken. -/

namespace Sys2Proof.Machine

/-- The chain of a berth: its index divided by 8 (02, introduction). -/
def chainOf (b : BerthIx) : ChainIx := ⟨b.val / 8, by omega⟩

/-- The position of a berth on its chain: its index mod 8. -/
def posOf (b : BerthIx) : PosIx := ⟨b.val % 8, by omega⟩

/-- Berth 8c + p. -/
def berthAt (c : ChainIx) (p : PosIx) : BerthIx := ⟨c.val * 8 + p.val, by omega⟩

/-- The berth record `b` changed by `f`. -/
def State.modBerth (s : State) (b : BerthIx) (f : Berth → Berth) : State :=
  { s with berths := s.berths.set b (f s.berths[b]) }

/-- Every berth record changed by `f`, each from the state before. -/
def State.mapBerths (s : State) (f : BerthIx → Berth → Berth) : State :=
  { s with berths := Vector.ofFn fun b => f b s.berths[b] }

/-- The chain `c` changed by `f`. -/
def State.modChain (s : State) (c : ChainIx) (f : Chain → Chain) : State :=
  { s with chains := s.chains.set c (f s.chains[c]) }

/-- Every chain changed by `f`, each from the state before. -/
def State.mapChains (s : State) (f : ChainIx → Chain → Chain) : State :=
  { s with chains := Vector.ofFn fun c => f c s.chains[c] }

/-- The counts of chain `c` changed by `f`. -/
def State.countChain (s : State) (c : ChainIx) (f : ChainCounts → ChainCounts) : State :=
  s.modChain c fun ch => { ch with counts := f ch.counts }

/-- The stream entry `v` changed by `f`. -/
def State.modStream (s : State) (v : StreamIx) (f : StreamEntry → StreamEntry) : State :=
  { s with streams := s.streams.set v (f s.streams[v]) }

/-- The counts of stream `v` changed by `f`. -/
def State.countStream (s : State) (v : StreamIx) (f : StreamCounts → StreamCounts) : State :=
  s.modStream v fun e => { e with counts := f e.counts }

/-- The channel record `a` changed by `f`. -/
def State.modChannel (s : State) (a : ChannelIx) (f : Channel → Channel) : State :=
  { s with channels := s.channels.set a (f s.channels[a]) }

/-- The counts of channel `a` changed by `f`. -/
def State.countChannel (s : State) (a : ChannelIx) (f : ChannelCounts → ChannelCounts) : State :=
  s.modChannel a fun ch => { ch with counts := f ch.counts }

/-- The counts of the part group changed by `f`. -/
def State.countPart (s : State) (f : PartCounts → PartCounts) : State := { s with counts := f s.counts }

/-- The cycle timer changed by `f`. -/
def State.modTimer (s : State) (f : Timer → Timer) : State := { s with timer := f s.timer }

/-- The fault monitor changed by `f`. -/
def State.modFaults (s : State) (f : FaultMonitor → FaultMonitor) : State := { s with faults := f s.faults }

/-- Management's own state changed by `f`. -/
def State.modMgmt (s : State) (f : Management → Management) : State := { s with mgmt := f s.mgmt }

/-- The upstream port changed by `f`. -/
def State.modUp (s : State) (f : UpstreamPort → UpstreamPort) : State := { s with up := f s.up }

/-- The through port changed by `f`. -/
def State.modThru (s : State) (f : ThroughPort → ThroughPort) : State := { s with thru := f s.thru }

/-- The counts of port U changed by `f`. -/
def State.countU (s : State) (f : UpstreamCounts → UpstreamCounts) : State :=
  s.modUp fun u => { u with counts := f u.counts }

/-- The counts of port T changed by `f`. -/
def State.countT (s : State) (f : ThroughCounts → ThroughCounts) : State :=
  s.modThru fun t => { t with counts := f t.counts }

/-- Whether the part is in SERVICE (R154). -/
def State.serving (s : State) : Bool := s.mgmt.mode == .service

/-- Whether berth `b` is PRESENT. -/
def State.present (s : State) (b : BerthIx) : Bool := s.berths[b].presence == .present

/-- The PRESENCE attention flag of chain `c` latched (R163). -/
def State.latchPresence (s : State) (c : ChainIx) : State :=
  s.modMgmt fun m => { m with presence := m.presence.set c true }

/-- The ANNOUNCE STALL attention flag of channel `a` latched (R163). -/
def State.latchStall (s : State) (a : ChannelIx) : State :=
  s.modMgmt fun m => { m with stall := m.stall.set a true }

/-- A reset taken whole at one event, with the pins and lines as State holds them (R166). The queue of commands
waiting outside the part and the model's draw counter stay. -/
def State.resetNow (s : State) : State :=
  { State.afterReset s.pins with pending := s.pending, draws := s.draws }

/-- A meaning of a part that is not held in reset; a part held in reset takes no event (R166, log 6). -/
def running (s : State) (f : State → State) : Host.Outcome State Fault Refusal :=
  .next (if s.held.isNone then f s else s)

end Sys2Proof.Machine
end

