-- ==== Sys2Proof/Machine/Flags.lean ====
section
/-! DEFINITION. The fault flags (R11 to R14), program hold (R15) and the attention set (R163, R164). -/

namespace Sys2Proof.Machine

/-- R11: the MARK LOSS flag raised, and counted if it was clear. -/
def State.raiseMarkLoss (s : State) : State :=
  if s.faults.flags.markLoss then s
  else (s.modFaults fun f => { f with flags := { f.flags with markLoss := true } }).countPart
    fun k => { k with markLossRaises := bump k.markLossRaises }

/-- R11: the OVERHEAT flag raised, and counted if it was clear. -/
def State.raiseOverheat (s : State) : State :=
  if s.faults.flags.overheat then s
  else (s.modFaults fun f => { f with flags := { f.flags with overheat := true } }).countPart
    fun k => { k with overheatRaises := bump k.overheatRaises }

/-- R11: the BACKBONE DOWN flag raised, and counted if it was clear. -/
def State.raiseBackboneDown (s : State) : State :=
  if s.faults.flags.backboneDown then s
  else (s.modFaults fun f => { f with flags := { f.flags with backboneDown := true } }).countPart
    fun k => { k with backboneDownRaises := bump k.backboneDownRaises }

/-- R13: OVERHEAT judged on the reading held, against the threshold held; the flag is raised when the condition
comes to hold. -/
def State.judgeOverheat (s : State) : State :=
  let hot := overheatAfter s.mgmt.settings.threshold s.faults.overheat s.faults.temperature
  let s1 := s.modFaults fun f => { f with overheat := hot }
  if hot && !s.faults.overheat then s1.raiseOverheat else s1

/-- R10: the sensor read, clamped and held, and OVERHEAT judged on the new reading. -/
def State.readTemperature (s : State) (sensor : Int) : State :=
  (s.modFaults fun f => { f with temperature := clampReading sensor }).judgeOverheat

/-- R14: the BACKBONE DOWN condition comes to hold, and its flag is raised. -/
def State.backboneFails (s : State) : State :=
  (s.modFaults fun f => { f with backboneDown := true }).raiseBackboneDown

/-- Whether the MARK LOSS condition holds (R12): the missed-mark run is 50 or more. -/
def State.markLossHolds (s : State) : Bool := decide (50 ≤ s.timer.missedRun)

/-- R11: each raised flag whose condition has ended is cleared; the others stay raised. -/
def State.clearFaults (s : State) : State :=
  s.modFaults fun f =>
    { f with
      flags :=
        { markLoss := f.flags.markLoss && s.markLossHolds
          overheat := f.flags.overheat && f.overheat
          backboneDown := f.flags.backboneDown && f.backboneDown } }

/-- R15: program hold is in force in SERVICE while a fault flag is raised and not masked. -/
def State.programHold (s : State) : Bool :=
  let f := s.faults.flags
  let m := s.mgmt.settings.faultMask
  s.serving &&
    ((f.markLoss && !m.markLoss) || (f.overheat && !m.overheat) || (f.backboneDown && !m.backboneDown))

/-- Three fault bits as a byte: bit 0 MARK LOSS, bit 1 OVERHEAT, bit 2 BACKBONE DOWN (ch. 11). -/
def faultByte (f : FaultBits) : Byte :=
  (if f.markLoss then 1#8 else 0) ||| (if f.overheat then 2#8 else 0) ||| (if f.backboneDown then 4#8 else 0)

/-- The fault bits of a byte; the bits above are not examined (R167). -/
def faultBits (b : Byte) : FaultBits :=
  { markLoss := b.getLsbD 0, overheat := b.getLsbD 1, backboneDown := b.getLsbD 2 }

/-- Whether attention flag `i` is raised (R163), in the numbering of ch. 11: bit 0 CALL, bits 1..6 QUERY 0..5, bit 7
FAULT, bits 8..13 PRESENCE 0..5, bits 14..15 ANNOUNCE STALL 0..1. -/
def State.attentionFlag (s : State) (i : Fin 16) : Bool :=
  if i.val = 0 then !s.calls.isEmpty
  else if h : i.val < 7 then !s.chains[i.val - 1].results.isEmpty
  else if i.val = 7 then
    s.faults.flags.markLoss || s.faults.flags.overheat || s.faults.flags.backboneDown
  else if h : i.val < 14 then s.mgmt.presence[i.val - 8]
  else s.mgmt.stall[i.val - 14]

/-- The 16-bit set of which bit `i` is `f i`. -/
def bitSet16 (f : Fin 16 → Bool) : BitVec 16 :=
  (List.finRange 16).foldl (fun acc i => if f i then acc ||| (1#16 <<< i.val) else acc) 0

/-- The attention set (R163). -/
def State.attentionSet (s : State) : BitVec 16 := bitSet16 s.attentionFlag

/-- R164: the flags that are both raised and set in the attention mask. -/
def State.attentionReported (s : State) : BitVec 16 :=
  s.attentionSet &&& s.mgmt.settings.attentionMask

/-- R164: each named flag that is latched is cleared; the level flags are passed over. -/
def State.clearAttention (s : State) (named : BitVec 16) : State :=
  s.modMgmt fun m =>
    { m with
      presence := Vector.ofFn fun c => m.presence[c] && !named.getLsbD (8 + c.val)
      stall := Vector.ofFn fun a => m.stall[a] && !named.getLsbD (14 + a.val) }

end Sys2Proof.Machine
end

