-- ==== Sys2Proof/Machine/Quiet.lean ====
section
/-! DEFINITION. Quiet regime and profiles (ch. 3): effective levels, regime evaluation, the copy of settings. -/

namespace Sys2Proof.Machine

/-- R40: the effective level of a quiet line, from its mode and its accepted level. -/
def effectiveLevel (mode : QuietMode) (accepted : Bool) : Bool :=
  match mode with
  | .follow => accepted
  | .forceOn => true
  | .forceOff => false

/-- The effective level of QA. -/
def State.effectiveQA (s : State) : Bool := effectiveLevel s.mgmt.settings.modeQA s.timer.qa.accepted

/-- The effective level of QB. -/
def State.effectiveQB (s : State) : Bool := effectiveLevel s.mgmt.settings.modeQB s.timer.qb.accepted

/-- R43: the regime that a quiet source and the two effective levels form. -/
def formRegime (source : QuietSource) (qa qb : Bool) : Regime :=
  match source with
  | .none => .day
  | .a => if qa then .night else .day
  | .b => if qb then .night else .day
  | .either => if qa || qb then .night else .day

/-- The set of a profile that a regime names (R44). -/
def profileSet (p : Profile) (r : Regime) : Settings :=
  match r with
  | .day => p.day
  | .night => p.night

/-- R45: all seven active settings written from the set of the berth's regime in its configured profile. -/
def State.copied (s : State) (b : Berth) : Berth :=
  { b with settings := profileSet s.profiles[b.config.profile] b.regime }

/-- The regime that an evaluation forms for a berth (R43). -/
def State.formedRegime (s : State) (b : Berth) : Regime :=
  formRegime b.config.quietSource s.effectiveQA s.effectiveQB

/-- R43: a berth after its regime has been evaluated: unchanged, or with the new regime and its copied set. -/
def State.evaluated (s : State) (b : Berth) : Berth :=
  if s.formedRegime b = b.regime then b else s.copied { b with regime := s.formedRegime b }

/-- R43: the evaluation of one berth, with the regime-change count (R53). -/
def State.evaluateBerth (s : State) (b : BerthIx) : State :=
  (s.modBerth b s.evaluated).countPart fun k =>
    { k with
      regimeChanges := addCount k.regimeChanges (if s.formedRegime s.berths[b] = s.berths[b].regime then 0 else 1) }

/-- R43: the evaluation of every berth; each change is counted once (R53). -/
def State.evaluateAll (s : State) : State :=
  (s.mapBerths fun _ b => s.evaluated b).countPart fun k =>
    { k with
      regimeChanges :=
        addCount k.regimeChanges
          ((List.finRange 48).filter fun b => s.formedRegime s.berths[b] ≠ s.berths[b].regime).length }

/-- R53: the counts of effective-level changes, against the levels `qa` and `qb` that stood before. -/
def State.countLevelChanges (s : State) (qa qb : Bool) : State :=
  s.countPart fun k =>
    { k with
      qaChanges := addCount k.qaChanges (if s.effectiveQA = qa then 0 else 1)
      qbChanges := addCount k.qbChanges (if s.effectiveQB = qb then 0 else 1) }

/-- R41: the hand-over after an acceptance, with the effective levels that stood before it: every berth is evaluated
once if an effective level has changed. -/
def State.quietHandOver (s : State) (qa qb : Bool) : State :=
  if s.effectiveQA = qa ∧ s.effectiveQB = qb then s else (s.countLevelChanges qa qb).evaluateAll

/-- R46: the copy into every berth whose configured profile is `p`. -/
def State.copyProfile (s : State) (p : Fin 4) : State :=
  s.mapBerths fun _ b => if b.config.profile = p then s.copied b else b

/-- R47: at ENTER SERVICE every berth is evaluated, and then copied into whether or not its regime changed. -/
def State.enterServiceSettings (s : State) : State :=
  let s1 := s.evaluateAll
  s1.mapBerths fun _ b => s1.copied b

/-- R9: one sample of a quiet line: the new sampler. -/
def sampled (p : Sampler) (level : Bool) : Sampler :=
  if level = p.accepted then { p with run := 0 }
  else if p.run < 7 then { p with run := p.run + 1 }
  else { accepted := level, run := 0 }

end Sys2Proof.Machine
end

