-- ==== Sys2Proof/Machine/Announce.lean ====
section
/-! DEFINITION. Announcement channels (ch. 5): governing, release, lead, play-out, the entries into LEAD, PLAYING
and IDLE, the taking of cues and of announcement audio, captions. -/

namespace Sys2Proof.Machine

/-- The index of a class in the class table: EMERGENCY, SAFETY, SERVICE, COURTESY as 0..3. A lower index is a
higher class. -/
def Class.index : Class → Fin 4
  | .emergency => 0
  | .safety => 1
  | .service => 2
  | .courtesy => 3

/-- Whether class `x` is higher than class `y`. -/
def Class.higher (x y : Class) : Bool := decide (x.index < y.index)

/-- Whether a channel carries an announcement: DUCKING, LEAD or PLAYING. -/
def Channel.busy (ch : Channel) : Bool := ch.state != .idle

/-- R79: the class with which a channel competes for berth `b`; `none` when it does not. -/
def Channel.claim (ch : Channel) (b : BerthIx) : Option Class :=
  if ch.busy && ch.reach.getLsbD b.val then ch.cls else none

/-- R79: the channel that governs berth `b` if the berth is PRESENT: the higher class, channel 0 on a tie. -/
def State.chooseGoverning (s : State) (b : BerthIx) : Option ChannelIx :=
  match s.channels[0].claim b, s.channels[1].claim b with
  | none, none => none
  | some _, none => some 0
  | none, some _ => some 1
  | some x, some y => if y.higher x then some 1 else some 0

/-- R79: berth `b` after the governing announcement has been recomputed. -/
def State.regoverned (s : State) (b : BerthIx) (r : Berth) : Berth :=
  if r.presence = .present then
    { r with
      governing := s.chooseGoverning b
      ducked := if s.chooseGoverning b = r.governing then r.ducked else false }
  else r

/-- R79: the governing announcement of every PRESENT berth recomputed. -/
def State.recomputeGoverning (s : State) : State := s.mapBerths s.regoverned

/-- R81: whether every PRESENT berth that channel `a` governs carries the ducked mark. -/
def State.releaseHolds (s : State) (a : ChannelIx) : Bool :=
  (List.finRange 48).all fun b =>
    !(s.present b && s.berths[b].governing == some a) || s.berths[b].ducked

/-- R83: channel `a` enters PLAYING. -/
def State.enterPlaying (s : State) (a : ChannelIx) : State :=
  (s.modChannel a fun ch =>
    { ch with state := .playing, lead := 0, stall := 0, presented := .silence }).recomputeGoverning

/-- The entry of a class in the class table. -/
def State.classEntry (s : State) (c : Class) : ClassEntry := s.classes[c.index]

/-- R82: the lead with which channel `a` enters LEAD: its override, else the lead of its class. -/
def State.leadOf (s : State) (a : ChannelIx) : Nat :=
  match s.channels[a].leadOverride, s.channels[a].cls with
  | some m, _ => m.val
  | none, some c => (s.classEntry c).lead.val
  | none, none => 0

/-- R82: channel `a` enters LEAD, or PLAYING at once when its lead is 0. -/
def State.enterLead (s : State) (a : ChannelIx) : State :=
  if s.leadOf a = 0 then s.enterPlaying a
  else (s.modChannel a fun ch => { ch with state := .lead, lead := s.leadOf a }).recomputeGoverning

/-- R81: channel `a` evaluates its release: in DUCKING with the condition holding it enters LEAD. -/
def State.evaluateRelease (s : State) (a : ChannelIx) : State :=
  if s.channels[a].state = .ducking ∧ s.releaseHolds a = true then s.enterLead a else s

/-- R81: each channel in DUCKING evaluates its release. -/
def State.evaluateReleases (s : State) : State := (s.evaluateRelease 0).evaluateRelease 1

/-- R79 and R81: governing recomputed, and the release of each channel in DUCKING evaluated. -/
def State.settleGoverning (s : State) : State := s.recomputeGoverning.evaluateReleases

/-- The other channel. -/
def otherChannel (a : ChannelIx) : ChannelIx := if a = 0 then 1 else 0

/-- The record of a channel that has entered IDLE (R88): the next expected sequence and the counts stay. -/
def Channel.idled (ch : Channel) : Channel :=
  { Channel.initial with nextSeq := ch.nextSeq, counts := ch.counts }

/-- R88: channel `a` enters IDLE. -/
def State.enterIdle (s : State) (a : ChannelIx) : State :=
  ((s.modChannel a Channel.idled).recomputeGoverning).evaluateRelease (otherChannel a)

/-! ### Cues -/

/-- Whether a byte is an absent code or a number below `n`. -/
def codeBelowOrAbsent (b : Byte) (n : Nat) : Bool := decide (b.toNat < n) || b == 0xFF

/-- The class that a cue's class byte names. -/
def classOf (b : Byte) : Option Class :=
  if b = 0 then some .emergency else if b = 1 then some .safety
  else if b = 2 then some .service else if b = 3 then some .courtesy else none

/-- The stream that a byte names, or none (FFh, or a byte a validity check has refused). -/
def streamOf (b : Byte) : Option StreamIx := if h : b.toNat < 32 then some ⟨b.toNat, h⟩ else none

/-- The stop that a byte names, or none. -/
def stopOf (b : Byte) : Option (Fin 64) := if h : b.toNat < 64 then some ⟨b.toNat, h⟩ else none

/-- The channel that a byte names, if any. -/
def channelOf (b : Byte) : Option ChannelIx := if h : b.toNat < 2 then some ⟨b.toNat, h⟩ else none

/-- The lead override that a word names, or none (FFFFh). -/
def overrideOf (w : Word16) : Option (Fin 256) := if h : w.toNat < 256 then some ⟨w.toNat, h⟩ else none

/-- R74: whether the fields of a START cue, less its channel, are all listed codes. -/
def startFieldsGood (q : CueBody) : Bool :=
  (classOf q.cls).isSome && decide (q.zone.toNat < 16) && codeBelowOrAbsent q.stop 64 &&
    codeBelowOrAbsent q.caption 32 && (decide (q.leadOverride.toNat < 256) || q.leadOverride == 0xFFFF)

/-- R75: whether a berth of the zone belongs to the reach of an announcement of class `c` for stop `stop`. -/
def reached (c : Class) (stop : Option (Fin 64)) (b : Berth) : Bool :=
  match c with
  | .emergency => true
  | .safety => true
  | .service => b.awake != .asleep || (stop.isSome && b.config.alightStop == stop)
  | .courtesy => b.regime == .day || b.awake != .asleep

/-- The set of the berths for which `f` holds. -/
def berthSet (f : BerthIx → Bool) : BitVec 48 :=
  (List.finRange 48).foldl (fun acc b => if f b then acc ||| (1#48 <<< b.val) else acc) 0

/-- The zone that a zone byte 0..15 names. -/
def State.zoneAt (s : State) (z : Byte) : BitVec 48 := s.zones[z.toNat % 16]'(Nat.mod_lt _ (by decide))

/-- R75: the snapshot of reach. -/
def State.snapshot (s : State) (c : Class) (zone : BitVec 48) (stop : Option (Fin 64)) : BitVec 48 :=
  berthSet fun b => zone.getLsbD b.val && reached c stop s.berths[b]

/-- R29: a berth woken; a berth that is not PRESENT keeps ASLEEP. -/
def Berth.woken (b : Berth) : Berth :=
  if b.presence = .present then { b with awake := .awake, idle := 0 } else b

/-- R76: berth `b` after the wakes of a cue of class `c`. -/
def wakeFor (c : Class) (zone : BitVec 48) (stop : Option (Fin 64)) (b : BerthIx) (r : Berth) : Berth :=
  match c with
  | .emergency => if zone.getLsbD b.val then r.woken else r
  | .service =>
    if zone.getLsbD b.val ∧ stop.isSome ∧ r.config.alightStop = stop then
      { r.woken with config := { r.config with alightStop := none } }
    else r
  | .safety => r
  | .courtesy => r

/-- R77: the record of a channel that begins an announcement. -/
def Channel.begun (ch : Channel) (c : Class) (reach : BitVec 48) (q : CueBody) : Channel :=
  { ch with
    state := .ducking, cls := some c, reach := reach, caption := streamOf q.caption,
    leadOverride := overrideOf q.leadOverride, nextSeq := q.sequence, lastSeq := none, lead := 0, stall := 0,
    presented := .absent }

/-- R75 to R77: channel `a` takes the snapshot, applies the wakes and begins the announcement. -/
def State.beginAnnouncement (s : State) (a : ChannelIx) (c : Class) (q : CueBody) : State :=
  let zone := s.zoneAt q.zone
  let stop := stopOf q.stop
  let reach := s.snapshot c zone stop
  ((s.mapBerths (wakeFor c zone stop)).modChannel a fun ch => ch.begun c reach q).settleGoverning

/-- R78: what a preemption discards: the ring, the last sequence, and the ducked mark of each governed berth. -/
def State.cancelForPreemption (s : State) (a : ChannelIx) : State :=
  (s.modChannel a fun ch => { ch with ring := .empty, lastSeq := none }).mapBerths fun _ b =>
    if b.governing = some a then { b with ducked := false } else b

/-- R78, R86, R87: a cue ignored is counted. -/
def State.refuseCue (s : State) (a : ChannelIx) : State :=
  s.countChannel a fun k => { k with cuesRefused := bump k.cuesRefused }

/-- R75, R78: a good START cue of class `c` taken by channel `a`. -/
def State.takeStart (s : State) (a : ChannelIx) (c : Class) (q : CueBody) : State :=
  match s.channels[a].state, s.channels[a].cls with
  | .idle, _ => s.beginAnnouncement a c q
  | _, none => s.refuseCue a
  | _, some cur =>
    if c.higher cur then (s.cancelForPreemption a).beginAnnouncement a c q else s.refuseCue a

/-- Whether the ring of a channel holds, in slot `i`, a block whose offset from `e` exceeds `d` (R86). -/
def beyond (e : Word16) (d : Int) (x : Option (Word16 × SpeechBlock)) : Bool :=
  match x with
  | none => false
  | some (q, _) => decide (d < (seqOffset q e : Int))

/-- R86: an END cue with last sequence `l` taken by channel `a`. -/
def State.takeEnd (s : State) (a : ChannelIx) (l : Word16) : State :=
  let ch := s.channels[a]
  if ch.busy = true ∧ ch.lastSeq = none then
    let d := cycleDistance l ch.nextSeq
    if d < 0 then s.enterIdle a
    else
      s.modChannel a fun ch =>
        { ch with
          lastSeq := some l
          ring := Vector.ofFn fun i => if beyond ch.nextSeq d ch.ring[i] then none else ch.ring[i]
          counts := { ch.counts with
            stale := addCount ch.counts.stale (ch.ring.toList.filter (beyond ch.nextSeq d)).length } }
  else s.refuseCue a

/-- R87: a CANCEL cue taken by channel `a`. -/
def State.takeCancel (s : State) (a : ChannelIx) : State :=
  if s.channels[a].busy then s.enterIdle a else s.refuseCue a

/-! ### Play-out -/

/-- The slot of a channel's ring in which sequence `q` is filed: q mod 256 (R73). -/
def speechSlot (q : Word16) : Fin 256 := ⟨q.toNat % 256, Nat.mod_lt _ (by decide)⟩

/-- The block that a channel's ring holds for sequence `q`, if it holds it. -/
def Channel.held (ch : Channel) (q : Word16) : Option SpeechBlock :=
  match ch.ring[speechSlot q] with
  | some (x, blk) => if x = q then some blk else none
  | none => none

/-- R86: whether a channel's last block has been presented: the distance from E to L is negative. -/
def Channel.ended (ch : Channel) : Bool :=
  match ch.lastSeq with
  | none => false
  | some l => decide (cycleDistance l ch.nextSeq < 0)

/-- R85: channel `a` reaches the stall limit: ANNOUNCE STALL is latched and the channel enters IDLE. -/
def State.stallOut (s : State) (a : ChannelIx) : State := (s.latchStall a).enterIdle a

/-- R84, R85: channel `a` presents silence for want of the expected block. -/
def State.presentGap (s : State) (a : ChannelIx) : State :=
  let s1 := s.modChannel a fun ch =>
    { ch with
      presented := .silence, stall := ch.stall + 1,
      counts := { ch.counts with gapCycles := bump ch.counts.gapCycles } }
  if 200 ≤ s1.channels[a].stall then s1.stallOut a else s1

/-- R84 to R86: the work of a channel in PLAYING at a cycle start. -/
def State.presentSpeech (s : State) (a : ChannelIx) : State :=
  let ch := s.channels[a]
  if ch.ended then s.enterIdle a
  else
    match ch.held ch.nextSeq with
    | some blk =>
      s.modChannel a fun ch =>
        { ch with
          presented := .block blk, ring := ch.ring.set (speechSlot ch.nextSeq) none,
          nextSeq := ch.nextSeq + 1, stall := 0 }
    | none => s.presentGap a

/-- R82: the work of a channel in LEAD at a cycle start. -/
def State.countLead (s : State) (a : ChannelIx) : State :=
  if s.channels[a].lead ≤ 1 then s.enterPlaying a
  else s.modChannel a fun ch => { ch with lead := ch.lead - 1 }

/-- The work of channel `a` at a cycle start that found it in state `st` (R82, R84): a channel that has entered LEAD
or PLAYING at this cycle start has no work in it. -/
def State.channelCycle (s : State) (a : ChannelIx) (st : ChannelState) : State :=
  match st with
  | .lead => s.countLead a
  | .playing => s.presentSpeech a
  | .idle => s
  | .ducking => s

/-- The work of both channels at a cycle start (R82 to R86); none in CONFIGURATION (R91). -/
def State.channelsCycle (s : State) : State :=
  if s.serving then
    (s.channelCycle 0 s.channels[0].state).channelCycle 1 s.channels[1].state
  else s

/-! ### Announcement audio (R89) -/

/-- The `j`-th block of 48 mono samples of an ANNOUNCE AUDIO payload. -/
def speechBlockAt (payload : List Byte) (j : Nat) : SpeechBlock :=
  Vector.ofFn fun i => wordAt payload (4 + 96 * j + 2 * i.val)

/-- R89: whether a block of sequence `q` lies in the window of a channel. -/
def Channel.inWindow (ch : Channel) (q : Word16) : Bool :=
  let o := seqOffset q ch.nextSeq
  decide (o ≤ 255) &&
    match ch.lastSeq with
    | none => true
    | some l => decide ((o : Int) ≤ cycleDistance l ch.nextSeq)

/-- R89: one announcement block judged and stored, or discarded and counted. -/
def Channel.takeBlock (ch : Channel) (q : Word16) (blk : SpeechBlock) : Channel :=
  if ch.inWindow q then
    match ch.ring[speechSlot q] with
    | none =>
      { ch with
        ring := ch.ring.set (speechSlot q) (some (q, blk))
        counts := { ch.counts with accepted := bump ch.counts.accepted } }
    | some _ => { ch with counts := { ch.counts with duplicate := bump ch.counts.duplicate } }
  else { ch with counts := { ch.counts with stale := bump ch.counts.stale } }

/-- R89: the blocks of a parcel of `k` blocks whose first sequence is `first`, judged in order. -/
def Channel.takeBlocks (ch : Channel) (payload : List Byte) (first : Word16) (k : Nat) : Channel :=
  (List.range k).foldl (fun ch j => ch.takeBlock (first + BitVec.ofNat 16 j) (speechBlockAt payload j)) ch

/-! ### Captions (R90) -/

/-- R90: the stream that an active caption reference of channel `a` names. -/
def State.activeCaption (s : State) (a : ChannelIx) : Option StreamIx :=
  let ch := s.channels[a]
  if ch.state = .lead ∨ ch.state = .playing then
    ch.caption.bind fun v => if s.streams[v].kind = some .captionVideo then some v else none
  else none

/-- The class of the announcement that governs a berth. -/
def State.governingClass (s : State) (b : Berth) : Option Class := b.governing.bind fun a => s.channels[a].cls

/-- Whether a berth is governed by an EMERGENCY announcement (R34, R132). -/
def State.emergencyGoverned (s : State) (b : Berth) : Bool := s.governingClass b == some .emergency

end Sys2Proof.Machine
end

