-- ==== Sys2Proof/Machine/Queries.lean ====
section
/-! DEFINITION. The query engine of a chain (ch. 8): starting, ending, answering, waiting and discarding queries. -/

namespace Sys2Proof.Machine

/-- The token after a token: from 15 to 1 (R137). -/
def tokenAfter (t : Nat) : Nat := if t = 15 then 1 else t + 1

/-- R137: queries started from the head of a queue for as long as none is in flight and fewer than 4 results are
held. A target that is not PRESENT ends ABSENT at once. -/
def startLoop (present : PosIx → Bool) (c : ChainIx) : List Query → Chain → Chain
  | [], ch => { ch with queries := [] }
  | q :: qs, ch =>
    if ch.inFlight.isSome ∨ 4 ≤ ch.results.length then { ch with queries := q :: qs }
    else if present q.pos then
      { ch with
        queries := qs
        inFlight := some { query := q, token := ch.nextToken, placed := false, waited := 0 }
        nextToken := tokenAfter ch.nextToken
        counts := { ch.counts with queriesSent := bump ch.counts.queriesSent } }
    else
      startLoop present c qs
        { ch with
          results := ch.results ++ [{ chain := c, pos := q.pos, code := q.code, outcome := .absent, answer := none }]
          counts := { ch.counts with absentOutcomes := bump ch.counts.absentOutcomes } }

/-- R137: the engine of chain `c` starts queries as its condition allows. -/
def State.startQueries (s : State) (c : ChainIx) : State :=
  s.modChain c fun ch => startLoop (fun p => s.present (berthAt c p)) c ch.queries ch

/-- The windows of a chain when no query is in flight any more: none of them counts for a later query (R138). -/
def unjudged (ws : List Window) : List Window := ws.map fun w => { w with judges := false }

/-- R138: the query in flight of chain `c` ends with an outcome; its result is appended, the outcome counted by `f`,
and the engine may start the next query. -/
def State.endQuery (s : State) (c : ChainIx) (o : QueryOutcome) (answer : Option AnswerBytes)
    (f : ChainCounts → ChainCounts) : State :=
  match s.chains[c].inFlight with
  | none => s
  | some q =>
    (s.modChain c fun ch =>
      { ch with
        inFlight := none
        windows := unjudged ch.windows
        results := ch.results ++
          [{ chain := c, pos := q.query.pos, code := q.query.code, outcome := o, answer := answer }]
        counts := f ch.counts }).startQueries c

/-- R138: the query in flight ends NO ANSWER. -/
def State.queryUnanswered (s : State) (c : ChainIx) : State :=
  s.endQuery c .noAnswer none fun k => { k with noAnswer := bump k.noAnswer }

/-- R138: the target of the query in flight has entered ABSENT. -/
def State.queryTargetAbsent (s : State) (c : ChainIx) (p : PosIx) : State :=
  match s.chains[c].inFlight with
  | none => s
  | some q =>
    if q.query.pos = p then s.endQuery c .absent none fun k => { k with absentOutcomes := bump k.absentOutcomes }
    else s

/-- R138: a token from a valid return of position `p`; `judges` is whether the closing window counts for the query
in flight. -/
def State.takeToken (s : State) (c : ChainIx) (p : PosIx) (judges : Bool) (token : Byte) (answer : AnswerBytes) :
    State :=
  if token = 0 then s
  else
    match s.chains[c].inFlight with
    | some q =>
      if q.placed = true ∧ judges = true ∧ q.query.pos = p ∧ token.toNat = q.token then
        s.endQuery c .answered (some answer) fun k => { k with answered := bump k.answered }
      else s.countChain c fun k => { k with foreignTokens := bump k.foreignTokens }
    | none => s.countChain c fun k => { k with foreignTokens := bump k.foreignTokens }

/-- R138: after the eight results of a close, a placed query that the window counts for has waited one more
window; at the eighth it ends NO ANSWER. -/
def State.countWindow (s : State) (c : ChainIx) (judges : Bool) : State :=
  match s.chains[c].inFlight with
  | none => s
  | some q =>
    if q.placed = true ∧ judges = true then
      let s1 := s.modChain c fun ch => { ch with inFlight := some { q with waited := q.waited + 1 } }
      if 8 ≤ q.waited + 1 then s1.queryUnanswered c else s1
    else s

/-- How many queries a discard would discard: those queued and the one in flight. -/
def Chain.discardable (ch : Chain) : Nat := ch.queries.length + if ch.inFlight.isSome then 1 else 0

/-- R140: every queued query and the query in flight discarded, without results. -/
def State.discardQueries (s : State) (c : ChainIx) : State :=
  s.modChain c fun ch =>
    { ch with
      queries := [], inFlight := none, windows := unjudged ch.windows
      counts := { ch.counts with queriesDiscarded := addCount ch.counts.queriesDiscarded ch.discardable } }

end Sys2Proof.Machine
end

