-- ==== Sys2Proof/Machine/BerthTable.lean ====
section
/-! DEFINITION. The berth table (ch. 2): presence, join initialisation, keys, the awake state, the idle timer, the
call list, and the steps of one return. -/

namespace Sys2Proof.Machine

/-! ### Selections (R27, R33) -/

/-- Whether stream `v` is open as `k` and in the allowed set: a choice that a berth may select (R27, R33). -/
def State.choosable (s : State) (k : StreamKind) (allowed : BitVec 32) (v : StreamIx) : Bool :=
  s.streams[v].kind == some k && allowed.getLsbD v.val

/-- A default filtered by join initialisation (R27). -/
def State.filterDefault (s : State) (k : StreamKind) (allowed : BitVec 32) (d : Option StreamIx) : Option StreamIx :=
  match d with
  | none => none
  | some v => if s.choosable k allowed v then some v else none

/-- R27: a berth after join initialisation. -/
def State.joined (s : State) (b : Berth) : Berth :=
  { b with
    audio := s.filterDefault .programAudio b.config.allowed b.config.defaultAudio
    video := s.filterDefault .programVideo b.config.allowed b.config.defaultVideo
    level := b.config.defaultLevel
    awake := if b.regime = .day then .awake else .asleep
    idle := 0, ap := 0, ad := 256, ducked := false }

/-- R33: the choices of a berth, in ascending stream number; `none` stands before the first. -/
def State.choices (s : State) (k : StreamKind) (allowed : BitVec 32) : List StreamIx :=
  (List.finRange 32).filter (s.choosable k allowed)

/-- R33: NEXT in the circular order of `none` and the choices. -/
def stepNext (choices : List StreamIx) (cur : Option StreamIx) : Option StreamIx :=
  match cur with
  | none => choices.head?
  | some v => (choices.filter fun w => v < w).head?

/-- R33: PREV in the circular order of `none` and the choices. -/
def stepPrev (choices : List StreamIx) (cur : Option StreamIx) : Option StreamIx :=
  match cur with
  | none => choices.getLast?
  | some v => (choices.filter fun w => w < v).getLast?

/-! ### Keys (R26, R30 to R33, R37) -/

/-- The keys of a berth unit (ch. 11). -/
inductive Key where
  | volumeUp | volumeDown | audioNext | audioPrev | videoNext | videoPrev | screen | touch | call
deriving DecidableEq, Repr

/-- The key that a key code names, if it names one. -/
def keyOf (code : Byte) : Option Key :=
  if code = 1 then some .volumeUp
  else if code = 2 then some .volumeDown
  else if code = 3 then some .audioNext
  else if code = 4 then some .audioPrev
  else if code = 5 then some .videoNext
  else if code = 6 then some .videoPrev
  else if code = 7 then some .screen
  else if code = 8 then some .touch
  else if code = 9 then some .call
  else none

/-- R32: a level one step up, staying at 15. -/
def levelUp (l : Level) : Level := if h : l.val + 1 < 16 then ⟨l.val + 1, h⟩ else l

/-- R32: a level one step down, staying at 0. -/
def levelDown (l : Level) : Level := ⟨l.val - 1, by omega⟩

/-- R31: what a key does to the record of a berth that is AWAKE, after the reset of its idle seconds. -/
def State.keyOnAwake (s : State) (k : Key) (b : Berth) : Berth :=
  match k with
  | .volumeUp => { b with level := levelUp b.level }
  | .volumeDown => { b with level := levelDown b.level }
  | .audioNext => { b with audio := stepNext (s.choices .programAudio b.config.allowed) b.audio }
  | .audioPrev => { b with audio := stepPrev (s.choices .programAudio b.config.allowed) b.audio }
  | .videoNext => { b with video := stepNext (s.choices .programVideo b.config.allowed) b.video }
  | .videoPrev => { b with video := stepPrev (s.choices .programVideo b.config.allowed) b.video }
  | .screen => { b with awake := .asleep }
  | .touch => b
  | .call => b

/-- R30: what a key does to the record of a berth that is ASLEEP: a VIDEO, SCREEN or TOUCH key wakes it. -/
def State.keyOnAsleep (s : State) (k : Key) (b : Berth) : Berth :=
  match k with
  | .volumeUp => { b with level := levelUp b.level }
  | .volumeDown => { b with level := levelDown b.level }
  | .audioNext => { b with audio := stepNext (s.choices .programAudio b.config.allowed) b.audio }
  | .audioPrev => { b with audio := stepPrev (s.choices .programAudio b.config.allowed) b.audio }
  | .videoNext => b.woken
  | .videoPrev => b.woken
  | .screen => b.woken
  | .touch => b.woken
  | .call => b

/-- R30, R31: the record of a berth after a key. -/
def State.keyed (s : State) (k : Key) (b : Berth) : Berth :=
  if b.awake = .asleep then s.keyOnAsleep k b else s.keyOnAwake k { b with awake := .awake, idle := 0 }

/-- R37: the berth appended to the call list if it is not already listed. -/
def State.placeCall (s : State) (b : BerthIx) : State :=
  if b ∈ s.calls then s
  else
    State.countChain { s with calls := s.calls ++ [b] } (chainOf b)
      fun k => { k with callsPlaced := bump k.callsPlaced }

/-- R30, R31: a key considered for berth `b`, applied and counted. -/
def State.applyKey (s : State) (b : BerthIx) (k : Key) : State :=
  let s1 := (s.modBerth b (s.keyed k)).countChain (chainOf b) fun n => { n with keysApplied := bump n.keysApplied }
  if k = .call then s1.placeCall b else s1

/-- R26: one key code of a valid return: passed over, applied, or discarded and counted. -/
def State.takeKey (s : State) (b : BerthIx) (wasPresent : Bool) (code : Byte) : State :=
  if code = 0 then s
  else
    match (if wasPresent && s.serving then keyOf code else none) with
    | some k => s.applyKey b k
    | none => s.countChain (chainOf b) fun n => { n with keysDiscarded := bump n.keysDiscarded }

/-! ### Presence (R21 to R25) -/

/-- R23: berth `b` becomes PRESENT. -/
def State.becomePresent (s : State) (b : BerthIx) : State :=
  let s1 := s.modBerth b fun r =>
    let r1 := { r with presence := .present, validRun := 0 }
    if s.serving then s.joined r1 else r1
  (((s1.latchPresence (chainOf b)).settleGoverning).countChain (chainOf b)
    fun k => { k with presenceGained := bump k.presenceGained })

/-- R24, its first part: the record of a berth that enters ABSENT from JOINING. -/
def Berth.left (b : Berth) : Berth :=
  { b with presence := .absent, headphone := false, unitFault := false, validRun := 0, missingRun := 0 }

/-- R24, steps 1 and 2: the record of a berth that enters ABSENT from PRESENT. -/
def Berth.lost (b : Berth) : Berth :=
  { b.left with awake := .asleep, idle := 0, ap := 0, ad := 256, ducked := false, governing := none }

/-- R24: berth `b` enters ABSENT. -/
def State.enterAbsent (s : State) (b : BerthIx) : State :=
  match s.berths[b].presence with
  | .absent => s
  | .joining => s.modBerth b Berth.left
  | .present =>
    let s1 := s.modBerth b Berth.lost
    let s2 := { s1 with calls := s1.calls.filter (· ≠ b) }
    let s3 := s2.settleGoverning
    let s4 := s3.queryTargetAbsent (chainOf b) (posOf b)
    (s4.latchPresence (chainOf b)).countChain (chainOf b) fun k => { k with presenceLost := bump k.presenceLost }

/-- R25: every berth of chain `c` that is not ABSENT enters ABSENT, in position order. -/
def State.chainAbsent (s : State) (c : ChainIx) : State :=
  (List.finRange 8).foldl (fun s p => s.enterAbsent (berthAt c p)) s

/-! ### Returns (R20 to R22, R26, R35, R36) -/

/-- What a valid return carries (R20). -/
structure ReturnData where
  headphone : Bool
  unitFault : Bool
  key1      : Byte
  key2      : Byte
  token     : Byte
  answer    : AnswerBytes
deriving DecidableEq, Repr

/-- R21, R22: presence advanced by a valid return. -/
def State.advanceValid (s : State) (b : BerthIx) : State :=
  match s.berths[b].presence with
  | .absent => s.modBerth b fun r => { r with presence := .joining, validRun := 1 }
  | .joining =>
    if s.berths[b].validRun < 3 then s.modBerth b fun r => { r with validRun := r.validRun + 1 }
    else s.becomePresent b
  | .present => s.modBerth b fun r => { r with missingRun := 0 }

/-- R21, R22: presence advanced by a missing return. -/
def State.advanceMissing (s : State) (b : BerthIx) : State :=
  match s.berths[b].presence with
  | .absent => s
  | .joining => s.enterAbsent b
  | .present =>
    if s.berths[b].missingRun < 15 then s.modBerth b fun r => { r with missingRun := r.missingRun + 1 }
    else s.enterAbsent b

/-- R35, R36: the headphone and unit fault status of a valid return recorded, and their changes counted. -/
def State.recordStatus (s : State) (b : BerthIx) (headphone unitFault : Bool) : State :=
  let old := s.berths[b]
  (s.modBerth b fun r => { r with headphone := headphone, unitFault := unitFault }).countChain (chainOf b)
    fun k =>
      { k with
        headphoneChanges := addCount k.headphoneChanges (if old.headphone = headphone then 0 else 1)
        unitFaults := addCount k.unitFaults (if unitFault && !old.unitFault then 1 else 0) }

/-- R26: the steps of one valid return. -/
def State.takeReturn (s : State) (b : BerthIx) (judges : Bool) (r : ReturnData) : State :=
  let wasPresent := s.present b
  let s1 := s.advanceValid b
  let s2 := if s1.berths[b].presence = .absent then s1 else s1.recordStatus b r.headphone r.unitFault
  let s3 := (s2.takeKey b wasPresent r.key1).takeKey b wasPresent r.key2
  s3.takeToken (chainOf b) (posOf b) judges r.token r.answer

/-! ### The idle timer (R34) -/

/-- R34: whether the idle timer of a berth advances at a tick in SERVICE. -/
def State.idleRuns (s : State) (b : Berth) : Bool :=
  b.presence == .present && b.awake != .asleep && !s.emergencyGoverned b

/-- R34: the idle seconds after a tick. -/
def idleAfter (b : Berth) : Nat := min 1023 (b.idle + 1)

/-- R34: a berth whose idle timer advances, after the tick. -/
def Berth.ticked (b : Berth) : Berth :=
  let n := idleAfter b
  match b.awake with
  | .awake =>
    if b.settings.idleToDim.val ≠ 0 ∧ b.settings.idleToDim.val ≤ n then { b with awake := .dimmed, idle := 0 }
    else { b with idle := n }
  | .dimmed =>
    if b.settings.idleToSleep.val ≠ 0 ∧ b.settings.idleToSleep.val ≤ n then { b with awake := .asleep, idle := 0 }
    else { b with idle := n }
  | .asleep => b

/-- R34: the idle timers of all berths at a seconds tick. -/
def State.idleTick (s : State) : State :=
  if s.serving then s.mapBerths fun _ b => if s.idleRuns b then b.ticked else b else s

/-- R28: join initialisation of every PRESENT berth, at ENTER SERVICE. -/
def State.joinAll (s : State) : State :=
  s.mapBerths fun _ b => if b.presence = .present then s.joined b else b

/-- R38: the berths of a set removed from the call list. -/
def State.acknowledge (s : State) (named : BitVec 48) : State :=
  { s with calls := s.calls.filter fun b => !named.getLsbD b.val }

/-- R58: the selections of a closed stream set to none. -/
def State.deselect (s : State) (v : StreamIx) : State :=
  s.mapBerths fun _ b =>
    { b with
      audio := if b.audio = some v then none else b.audio
      video := if b.video = some v then none else b.video }

/-- R18, step 1: the configured part replaced, and each selection outside the new allowed set discarded. -/
def reconfigured (cfg : BerthConfig) (b : Berth) : Berth :=
  { b with
    config := cfg
    audio := b.audio.filter fun v => cfg.allowed.getLsbD v.val
    video := b.video.filter fun v => cfg.allowed.getLsbD v.val }

/-- R18: the configured part of berth `b` loaded, with the follow-on of the load. -/
def State.loadBerth (s : State) (b : BerthIx) (cfg : BerthConfig) : State :=
  let old := s.berths[b].config
  let s1 := s.modBerth b (reconfigured cfg)
  let s2 := if cfg.profile = old.profile then s1 else s1.modBerth b s1.copied
  if cfg.quietSource = old.quietSource then s2 else s2.evaluateBerth b

end Sys2Proof.Machine
end

