-- ==== Sys2Proof/Machine/Rings.lean ====
section
/-! DEFINITION. Streams and audio rings (ch. 4): opening and closing, acceptance of program audio, presentation and
underrun, the emptying of rings. -/

namespace Sys2Proof.Machine

/-- Whether some stream owns ring `r`. -/
def State.ringOwned (s : State) (r : RingIx) : Bool :=
  (List.finRange 32).any fun v => s.streams[v].ring == some r

/-- R56: the free ring with the lowest number. -/
def State.freeRing (s : State) : Option RingIx := (List.finRange 16).find? fun r => !s.ringOwned r

/-- The ring of a stream that is OPEN as PROGRAM AUDIO. -/
def State.audioRing (s : State) (v : StreamIx) : Option RingIx :=
  if s.streams[v].kind = some .programAudio then s.streams[v].ring else none

/-- R56: a stream opened as a video kind. -/
def State.openVideo (s : State) (v : StreamIx) (k : StreamKind) : State :=
  s.modStream v fun e => { e with kind := some k, ring := none, presented := .absent }

/-- R56: a stream opened as PROGRAM AUDIO with ring `r`. -/
def State.openAudio (s : State) (v : StreamIx) (r : RingIx) : State :=
  s.modStream v fun e => { e with kind := some .programAudio, ring := some r, presented := .silence }

/-- R57, R58: an OPEN stream closed: its ring emptied and freed, the entry CLOSED, every selection of it none. -/
def State.closeStream (s : State) (v : StreamIx) : State :=
  let s1 :=
    match s.streams[v].ring with
    | some r => { s with rings := s.rings.set r Ring.empty }
    | none => s
  (s1.modStream v fun e => { e with kind := none, ring := none, presented := .absent }).deselect v

/-- R66, R67: every slot of every program-audio ring emptied. -/
def State.emptyRings (s : State) : State := { s with rings := Vector.replicate 16 Ring.empty }

/-- The slot in which a block of due cycle `d` is filed: d mod 16 (R55). -/
def ringSlot (d : Word16) : Fin 16 := ⟨d.toNat % 16, Nat.mod_lt _ (by decide)⟩

/-- The block that ring `g` holds for cycle `n`, if it holds one. -/
def ringBlock (g : Ring) (n : Word16) : Option ProgramBlock :=
  match g[ringSlot n] with
  | some (d, blk) => if d = n then some blk else none
  | none => none

/-- Whether a PRESENT berth has selected audio naming stream `v` (R65). -/
def State.listenedTo (s : State) (v : StreamIx) : Bool :=
  (List.finRange 48).any fun b => s.present b && s.berths[b].audio == some v

/-- R64, R65: stream `v` at the start of cycle `n`. -/
def State.presentedEntry (s : State) (n : Word16) (v : StreamIx) : StreamEntry :=
  let e := s.streams[v]
  match s.audioRing v with
  | none => e
  | some r =>
    match ringBlock s.rings[r] n with
    | some blk => { e with presented := .block blk }
    | none =>
      { e with
        presented := .silence
        counts := { e.counts with
          underrun := addCount e.counts.underrun (if s.serving && s.listenedTo v then 1 else 0) } }

/-- Whether ring `r` is owned by a stream that is OPEN as PROGRAM AUDIO. -/
def State.ringPlays (s : State) (r : RingIx) : Bool := (List.finRange 32).any fun v => s.audioRing v == some r

/-- R64: ring `r` after the presentation of cycle `n`: the slot of the presented block is emptied. -/
def State.playedRing (s : State) (n : Word16) (r : RingIx) : Ring :=
  if s.ringPlays r ∧ (ringBlock s.rings[r] n).isSome then s.rings[r].set (ringSlot n) none else s.rings[r]

/-- R64: every open program-audio stream presents the block of cycle `n`. -/
def State.presentRings (s : State) (n : Word16) : State :=
  { s with streams := Vector.ofFn (s.presentedEntry n), rings := Vector.ofFn (s.playedRing n) }

/-- The `j`-th block of 48 stereo frames of a PROGRAM AUDIO payload. -/
def programBlockAt (payload : List Byte) (j : Nat) : ProgramBlock :=
  Vector.ofFn fun i =>
    { left := wordAt payload (4 + 192 * j + 4 * i.val), right := wordAt payload (4 + 192 * j + 4 * i.val + 2) }

/-- R61, R62: one block of due cycle `d` judged for stream `v` and its ring `r`. -/
def State.takeProgramBlock (s : State) (v : StreamIx) (r : RingIx) (d : Word16) (blk : ProgramBlock) : State :=
  let dist := cycleDistance d s.timer.cycle
  if dist ≤ 0 then s.countStream v fun k => { k with late := bump k.late }
  else if 16 ≤ dist then s.countStream v fun k => { k with early := bump k.early }
  else
    match s.rings[r][ringSlot d] with
    | some _ => s.countStream v fun k => { k with duplicate := bump k.duplicate }
    | none =>
      State.countStream { s with rings := s.rings.set r (s.rings[r].set (ringSlot d) (some (d, blk))) } v
        fun k => { k with accepted := bump k.accepted }

/-- R60, R61: the blocks of a parcel of `k` blocks, the first due in cycle `due`, judged in order. -/
def State.takeProgramBlocks (s : State) (v : StreamIx) (r : RingIx) (payload : List Byte) (due : Word16) (k : Nat) :
    State :=
  (List.range k).foldl (fun s j => s.takeProgramBlock v r (due + BitVec.ofNat 16 j) (programBlockAt payload j)) s

/-- The stream that the first byte of a media payload names; none where the payload holds no byte. -/
def payloadStream (payload : List Byte) : Option StreamIx := payload.head?.bind streamOf

/-- Counted on port U under unused stream (R152). -/
def State.countUnusedStream (s : State) : State :=
  s.countU fun k => { k with unusedStream := bump k.unusedStream }

/-- Counted on port U under bad payload (R152). -/
def State.countBadPayload (s : State) : State := s.countU fun k => { k with badPayload := bump k.badPayload }

/-- The stream and ring that a PROGRAM AUDIO payload names, when the stream is OPEN as PROGRAM AUDIO (R60). -/
def State.audioTarget (s : State) (payload : List Byte) : Option (StreamIx × RingIx) :=
  (payloadStream payload).bind fun v => (s.audioRing v).map fun r => (v, r)

/-- R60: a PROGRAM AUDIO parcel taken by the stream table (log 11). -/
def State.takeProgramAudio (s : State) (payload : List Byte) : State :=
  match s.audioTarget payload with
  | none => s.countUnusedStream
  | some (v, r) =>
    let k := (byteAt payload 1).toNat
    if 1 ≤ k ∧ k ≤ 4 ∧ payload.length = 4 + 192 * k then s.takeProgramBlocks v r payload (wordAt payload 2) k
    else s.countBadPayload

end Sys2Proof.Machine
end

