-- ==== Sys2Proof/Machine/Video.lean ====
section
/-! DEFINITION. Segment store and video queues (ch. 7): arrival, demand, replication, assembly, flushes. -/

namespace Sys2Proof.Machine

/-- The number of entries a video queue can hold (R111). -/
def queueCapacity : Nat := 32

/-- The cost of a segment in a frame: its length plus 8 (R115). -/
def segmentCost (length : Nat) : Nat := length + 8

/-- R113: whether chain `c` demands PROGRAM VIDEO stream `v`. -/
def State.demandsProgram (s : State) (c : ChainIx) (v : StreamIx) : Bool :=
  s.serving && !s.programHold && s.chains[c].enabled && s.chains[c].link &&
    (List.finRange 8).any fun p =>
      let b := s.berths[berthAt c p]
      b.presence == .present && b.awake != .asleep && b.video == some v

/-- R114: whether chain `c` demands CAPTION VIDEO stream `v`. -/
def State.demandsCaption (s : State) (c : ChainIx) (v : StreamIx) : Bool :=
  s.chains[c].enabled && s.chains[c].link &&
    (List.finRange 8).any fun p =>
      let b := s.berths[berthAt c p]
      b.presence == .present && (b.governing.bind s.activeCaption) == some v

/-- The judgement of one chain for a segment (R115). -/
inductive Placement where
  | noDemand | oversize | full | kept
deriving DecidableEq, Repr

/-- R115: chain `c` judged for a segment of stream `v` and length `len`; `caption` tells a CAPTION VIDEO stream. -/
def State.placement (s : State) (caption : Bool) (v : StreamIx) (len : Nat) (c : ChainIx) : Placement :=
  let ch := s.chains[c]
  if !(if caption then s.demandsCaption c v else s.demandsProgram c v) then .noDemand
  else if ch.budget < segmentCost len then .oversize
  else if queueCapacity ≤ (if caption then ch.priority else ch.program).length then .full
  else .kept

/-- R116: the free slot with the lowest number. -/
def State.freeSlot (s : State) : Option (Fin 256) := (List.finRange 256).find? fun i => s.store[i].isNone

/-- An entry appended at the tail of a chain's matching queue. -/
def Chain.append (ch : Chain) (caption : Bool) (e : VideoEntry) : Chain :=
  if caption then { ch with priority := ch.priority ++ [e] } else { ch with program := ch.program ++ [e] }

/-- R115, R116: what an arrival does to one chain: a skip counted, or the entry appended when a slot was taken. -/
def Chain.placed (ch : Chain) (caption : Bool) (p : Placement) (entry : Option VideoEntry) : Chain :=
  match p, entry with
  | .oversize, _ => { ch with counts := { ch.counts with oversize := bump ch.counts.oversize } }
  | .full, _ => { ch with counts := { ch.counts with queueFull := bump ch.counts.queueFull } }
  | .kept, some e => ch.append caption e
  | .kept, none => ch
  | .noDemand, _ => ch

/-- How many chains keep a segment. -/
def keptCount (f : ChainIx → Placement) : Nat := ((List.finRange 6).filter fun c => f c = .kept).length

/-- R115, R116: the arrival of a segment that is judged for replication. -/
def State.replicate (s : State) (caption : Bool) (v : StreamIx) (due : Word16) (bytes : List Byte) : State :=
  let f := s.placement caption v bytes.length
  if ∀ c, f c = .noDemand then s.countPart fun k => { k with noDemand := bump k.noDemand }
  else if keptCount f = 0 then
    (s.mapChains fun c ch => ch.placed caption (f c) none).countPart fun k => { k with unplaced := bump k.unplaced }
  else
    match s.freeSlot with
    | none =>
      (s.mapChains fun c ch => ch.placed caption (f c) none).countPart
        fun k => { k with storeFull := bump k.storeFull }
    | some i =>
      let e : VideoEntry := { slot := i, stream := v, due := due, length := bytes.length }
      let g : Segment := { bytes := bytes, stream := v, due := due, refs := keptCount f }
      State.countStream
        { (s.mapChains fun c ch => ch.placed caption (f c) (some e)) with store := s.store.set i (some g) }
        v fun k => { k with accepted := bump k.accepted }

/-- Whether a stream kind is CAPTION VIDEO; none for a stream that takes no segment (R112). -/
def captionKind (k : Option StreamKind) : Option Bool :=
  match k with
  | some .captionVideo => some true
  | some .programVideo => some false
  | some .programAudio => none
  | none => none

/-- The stream that a VIDEO SEGMENT payload names and whether it carries captions, when the stream is OPEN as a video
kind (R112). -/
def State.videoTarget (s : State) (payload : List Byte) : Option (StreamIx × Bool) :=
  (payloadStream payload).bind fun v => (captionKind s.streams[v].kind).map fun caption => (v, caption)

/-- R112: a VIDEO SEGMENT parcel taken by the segment store. -/
def State.takeVideoSegment (s : State) (payload : List Byte) : State :=
  if payload.length < 5 ∨ 1444 < payload.length then s.countBadPayload
  else
    match s.videoTarget payload with
    | none => s.countUnusedStream
    | some (v, caption) =>
      let d := cycleDistance (wordAt payload 2) s.timer.cycle
      if d ≤ 0 then s.countStream v fun k => { k with late := bump k.late }
      else if 1000 < d then s.countStream v fun k => { k with early := bump k.early }
      else s.replicate caption v (wordAt payload 2) (payload.drop 4)

/-! ### Removal of entries -/

/-- One reference to a slot released (R110): at the last one the slot becomes free. -/
def releaseSlot (store : Vector (Option Segment) 256) (i : Fin 256) : Vector (Option Segment) 256 :=
  match store[i] with
  | none => store
  | some g => store.set i (if g.refs ≤ 1 then none else some { g with refs := g.refs - 1 })

/-- The references of a list of entries released, one after another. -/
def releaseAll (store : Vector (Option Segment) 256) (es : List VideoEntry) : Vector (Option Segment) 256 :=
  es.foldl (fun st e => releaseSlot st e.slot) store

/-- R123: a flush of chain `c`, which counts every entry it removes, at ENTER CONFIGURATION too, although R156 has every
counter keep its value there (DESIGN CHOICE, log 29). -/
def State.flush (s : State) (c : ChainIx) : State :=
  let es := s.chains[c].priority ++ s.chains[c].program
  State.modChain { s with store := releaseAll s.store es } c fun ch =>
    { ch with
      priority := [], program := [], wait := 0
      counts := { ch.counts with flushed := addCount ch.counts.flushed es.length } }

/-- R123: every chain flushed, in order 0..5. -/
def State.flushAll (s : State) : State := (List.finRange 6).foldl State.flush s

/-! ### Assembly (R118 to R121) -/

/-- R118: whether an entry is late at cycle `n`. -/
def entryLate (n : Word16) (e : VideoEntry) : Bool := decide (cycleDistance e.due n < 0)

/-- What serving a queue leaves (R119). -/
structure Served where
  sent   : List VideoEntry
  late   : List VideoEntry
  rest   : List VideoEntry
  budget : Nat
deriving DecidableEq, Repr

/-- R119: one queue served within the remaining budget. -/
def serveQueue (n : Word16) : List VideoEntry → Nat → Served
  | [], budget => { sent := [], late := [], rest := [], budget := budget }
  | e :: es, budget =>
    if entryLate n e then
      let r := serveQueue n es budget
      { r with late := e :: r.late }
    else if segmentCost e.length ≤ budget then
      let r := serveQueue n es (budget - segmentCost e.length)
      { r with sent := e :: r.sent }
    else { sent := [], late := [], rest := e :: es, budget := budget }

/-- R120: the wait count after serving: `before` is the program queue when serving began, `sent` what was sent of
it. -/
def waitAfter (wait : Nat) (before sent : List VideoEntry) : Nat :=
  if before.isEmpty then wait else if sent.isEmpty then min 15 (wait + 1) else 0

/-- The video assembly of one chain for one frame. -/
structure Assembly where
  priority : List VideoEntry
  program  : List VideoEntry
  sent     : List VideoEntry
  late     : List VideoEntry
  wait     : Nat
deriving DecidableEq, Repr

/-- R118 to R120: the assembly of a chain at cycle start `n`: the first late discard, the two queues served in the
order that the wait count and the service ratio set, and the new wait count. -/
def Chain.assemble (ch : Chain) (n : Word16) : Assembly :=
  let pr := ch.priority.dropWhile (entryLate n)
  let pg := ch.program.dropWhile (entryLate n)
  let first := ch.priority.takeWhile (entryLate n) ++ ch.program.takeWhile (entryLate n)
  if ch.wait < ch.ratio then
    let a := serveQueue n pr ch.budget
    let b := serveQueue n pg a.budget
    { priority := a.rest, program := b.rest, sent := a.sent ++ b.sent, late := first ++ a.late ++ b.late,
      wait := waitAfter ch.wait pg b.sent }
  else
    let b := serveQueue n pg ch.budget
    let a := serveQueue n pr b.budget
    { priority := a.rest, program := b.rest, sent := b.sent ++ a.sent, late := first ++ b.late ++ a.late,
      wait := waitAfter ch.wait pg b.sent }

/-- R121: the chain after an assembly. -/
def Chain.afterAssembly (ch : Chain) (a : Assembly) : Chain :=
  { ch with
    priority := a.priority, program := a.program, wait := a.wait
    counts := { ch.counts with
      sent := addCount ch.counts.sent a.sent.length
      lateDiscards := addCount ch.counts.lateDiscards a.late.length } }

/-- The bytes that a slot holds; none for a free slot. -/
def slotBytes (store : Vector (Option Segment) 256) (i : Fin 256) : List Byte :=
  match store[i] with
  | some g => g.bytes
  | none => []

/-- The segments of a video area, in the order sent (R119). -/
def videoItems (store : Vector (Option Segment) 256) (sent : List VideoEntry) : List VideoItem :=
  sent.map fun e => { stream := e.stream, due := e.due, bytes := slotBytes store e.slot }

/-- R118, R121: the state after the assembly of chain `c` for cycle `n`. -/
def State.assembleVideo (s : State) (c : ChainIx) (n : Word16) : State :=
  let a := s.chains[c].assemble n
  State.modChain { s with store := releaseAll s.store (a.late ++ a.sent) } c fun ch => ch.afterAssembly a

/-- The video area of chain `c` for cycle `n` (R119). -/
def State.videoArea (s : State) (c : ChainIx) (n : Word16) : List VideoItem :=
  videoItems s.store (s.chains[c].assemble n).sent

/-- The number of segment slots in use (R126). -/
def State.slotsInUse (s : State) : Nat := (s.store.toList.filter Option.isSome).length

end Sys2Proof.Machine
end

