-- ==== Sys2Proof/Machine/Mix.lean ====
section
/-! DEFINITION. The berth mix (ch. 6): ceiling, targets, moves, ducked mark, announcement level, and the samples. -/

namespace Sys2Proof.Machine

/-- R99: the ceiling of a berth. -/
def Berth.ceiling (b : Berth) : Level :=
  if b.headphone then b.settings.headphoneCeiling else b.settings.speakerCeiling

/-- R100: the program target Tp. -/
def State.programTarget (s : State) (b : Berth) : Nat :=
  if s.programHold then 0 else if b.audio.isNone then 0 else gain (min b.level b.ceiling)

/-- R101: a multiplier moved one step toward a target; a step of 0 jumps. -/
def moveToward (target step cur : Nat) : Nat :=
  if step = 0 then target
  else if cur < target then min target (cur + step)
  else if target < cur then max target (cur - step)
  else cur

/-- The class entry of the announcement that governs a berth. -/
def State.governingEntry (s : State) (b : Berth) : Option ClassEntry := (s.governingClass b).map s.classEntry

/-- R102: the duck target Td. -/
def State.duckTarget (s : State) (b : Berth) : Nat :=
  match s.governingEntry b with
  | some e => e.duckTarget.val
  | none => 256

/-- R102: the duck step d. -/
def State.duckStep (s : State) (b : Berth) : Nat :=
  match s.governingEntry b with
  | some e => e.duckStep.val
  | none => s.mgmt.settings.recoveryStep.val

/-- R101: Ap after the cycle start. -/
def State.nextAp (s : State) (b : Berth) : Nat := moveToward (s.programTarget b) b.settings.glideStep.val b.ap

/-- R102: Ad after the cycle start. -/
def State.nextAd (s : State) (b : Berth) : Nat := moveToward (s.duckTarget b) (s.duckStep b) b.ad

/-- R103: the ducked mark after the cycle start. -/
def State.nextDucked (s : State) (b : Berth) : Bool :=
  (s.governingEntry b).isSome && s.nextAd b == s.duckTarget b

/-- R104: the announcement multiplier Ma. -/
def State.speechMultiplier (s : State) (b : Berth) : Nat :=
  match s.governingClass b with
  | none => 0
  | some .emergency => gain (s.classEntry .emergency).level
  | some c => gain (min (s.classEntry c).level b.ceiling)

/-- R105: the program samples of a berth for the cycle. -/
def State.programSamples (s : State) (b : Berth) : ProgramBlock :=
  match b.audio with
  | none => ProgramBlock.silent
  | some v =>
    match s.streams[v].presented with
    | .block blk => blk
    | .silence => ProgramBlock.silent
    | .absent => ProgramBlock.silent

/-- The block that a channel in PLAYING presents; zeros in every other state (R105). -/
def Channel.speech (ch : Channel) : SpeechBlock :=
  if ch.state = .playing then
    match ch.presented with
    | .block blk => blk
    | .silence => SpeechBlock.silent
    | .absent => SpeechBlock.silent
  else SpeechBlock.silent

/-- R105: the announcement samples of a berth for the cycle. -/
def State.speechSamples (s : State) (b : Berth) : SpeechBlock :=
  match b.governing with
  | none => SpeechBlock.silent
  | some a => s.channels[a].speech

/-- R106, step 1: floor(P × Ap × Ad / 65536). -/
def programTerm (p : Pcm) (ap ad : Nat) : Int := (p.toInt * (ap : Int) * (ad : Int)) / 65536

/-- R106, step 2: floor(A × Ma / 256). -/
def speechTerm (a : Pcm) (ma : Nat) : Int := (a.toInt * (ma : Int)) / 256

/-- R106, step 3: saturation to −32768..32767. -/
def saturate (x : Int) : Int := max (-32768) (min 32767 x)

/-- R106: the sum of the two terms, before saturation. -/
def mixSum (p : Pcm) (ap ad : Nat) (a : Pcm) (ma : Nat) : Int := programTerm p ap ad + speechTerm a ma

/-- R106: an output sample. -/
def mixSample (p : Pcm) (ap ad : Nat) (a : Pcm) (ma : Nat) : Pcm :=
  BitVec.ofInt 16 (saturate (mixSum p ap ad a ma))

/-- Whether saturation changes an output sample (R106). -/
def sampleClips (p : Pcm) (ap ad : Nat) (a : Pcm) (ma : Nat) : Bool :=
  saturate (mixSum p ap ad a ma) != mixSum p ap ad a ma

/-- R106: the 48 stereo frames of a berth's audio slot, from the new Ap and the new Ad. -/
def State.mixedSlot (s : State) (b : Berth) : ProgramBlock :=
  let ps := s.programSamples b
  let as := s.speechSamples b
  Vector.ofFn fun i =>
    { left := mixSample ps[i].left (s.nextAp b) (s.nextAd b) as[i] (s.speechMultiplier b)
      right := mixSample ps[i].right (s.nextAp b) (s.nextAd b) as[i] (s.speechMultiplier b) }

/-- R106: whether saturation changes at least one output sample of a berth in this cycle. -/
def State.mixClips (s : State) (b : Berth) : Bool :=
  let ps := s.programSamples b
  let as := s.speechSamples b
  (List.finRange 48).any fun i =>
    sampleClips ps[i].left (s.nextAp b) (s.nextAd b) as[i] (s.speechMultiplier b) ||
      sampleClips ps[i].right (s.nextAp b) (s.nextAd b) as[i] (s.speechMultiplier b)

/-- R97, steps 2 to 4: the record of a PRESENT berth after the mix. -/
def State.mixedBerth (s : State) (b : Berth) : Berth :=
  { b with ap := s.nextAp b, ad := s.nextAd b, ducked := s.nextDucked b }

/-- R97, R98: the mixer's work at a cycle start. -/
def State.mix (s : State) : State :=
  if s.serving then
    { s with
      berths := Vector.ofFn fun b => if s.present b then s.mixedBerth s.berths[b] else s.berths[b]
      slots := Vector.ofFn fun b => if s.present b then s.mixedSlot s.berths[b] else ProgramBlock.silent
      chains := Vector.ofFn fun c =>
        { s.chains[c] with
          counts := { s.chains[c].counts with
            mixClips := addCount s.chains[c].counts.mixClips
              ((List.finRange 8).filter fun p =>
                s.present (berthAt c p) && s.mixClips s.berths[berthAt c p]).length } } }
  else { s with slots := Vector.replicate 48 ProgramBlock.silent }

end Sys2Proof.Machine
end

