-- ==== Sys2Proof/Machine/Wire.lean ====
section
/-! DEFINITION. Parcels on the line: kind codes and header layout of ch. 11, the receive checks of R144, and the
header flags of R149. -/

namespace Sys2Proof.Machine

/-- The kind byte (ch. 11, "Parcels"). -/
def kindCode : Kind → Byte
  | .cycleMark => 0x01
  | .programAudio => 0x10
  | .videoSegment => 0x11
  | .announceCue => 0x20
  | .announceAudio => 0x21
  | .command => 0x30
  | .reply => 0x31

/-- The kind that a kind byte names, if it names one (R144 check 6). -/
def kindOf (b : Byte) : Option Kind :=
  if b = 0x01 then some .cycleMark
  else if b = 0x10 then some .programAudio
  else if b = 0x11 then some .videoSegment
  else if b = 0x20 then some .announceCue
  else if b = 0x21 then some .announceAudio
  else if b = 0x30 then some .command
  else if b = 0x31 then some .reply
  else none

/-- The parcel that a header and a payload of a given kind make. -/
def parcelOf (k : Kind) (h : Header) (payload : List Byte) : Parcel :=
  { target := h.target, origin := h.origin, kind := k, flags := h.flags, payload := payload }

/-- Header and payload of a parcel as sent (ch. 11): what the check covers. -/
def checkedBytes (p : Parcel) : List Byte :=
  [p.target, p.origin, kindCode p.kind, p.flags] ++ beBytes 2 p.payload.length ++ p.payload

/-- The bytes of a parcel on the line: header, payload and check, the check high byte first (R145). -/
def parcelBytes (p : Parcel) : List Byte :=
  checkedBytes p ++ beBytes 2 (checkOf (checkedBytes p)).toNat

/-- The six receive checks (R144). -/
inductive ReceiveCheck where
  | framing | runt | oversize | check | length | kind
deriving DecidableEq, Repr

/-- The first receive check that a parcel fails, in the order of R144; `none` when it passes every check. -/
def receiveFailure (clean : Bool) (bytes : List Byte) : Option ReceiveCheck :=
  if !clean then some .framing
  else if bytes.length < 8 then some .runt
  else if 1480 < bytes.length then some .oversize
  else if fieldAt bytes (bytes.length - 2) 2 ≠ (checkOf (bytes.take (bytes.length - 2))).toNat then some .check
  else if fieldAt bytes 4 2 ≠ bytes.length - 8 then some .length
  else if (kindOf (byteAt bytes 2)).isNone then some .kind
  else none

/-- The parcel that a run of bytes on the line makes, when it passes every receive check (ch. 11, R144). -/
def readParcel (clean : Bool) (bytes : List Byte) : Option Parcel :=
  match receiveFailure clean bytes, kindOf (byteAt bytes 2) with
  | none, some k =>
    some
      { target := byteAt bytes 0, origin := byteAt bytes 1, kind := k, flags := byteAt bytes 3
        payload := (bytes.drop 6).take (bytes.length - 8) }
  | _, _ => none

/-- The reply-wanted flag: bit 7 of the flags byte. -/
def replyWanted (h : Header) : Bool := h.flags.getLsbD 7

/-- The flags byte of a reply (R149): reply-wanted clear, accepted and attention as given, bit 4 zero, the
command's tag copied. -/
def replyFlags (h : Header) (accepted attention : Bool) : Byte :=
  (if accepted then 0x40#8 else 0) ||| (if attention then 0x20#8 else 0) ||| (h.flags &&& 0x0F#8)

end Sys2Proof.Machine
end

