-- ==== Sys2Proof/Machine/Frames.lean ====
section
/-! DEFINITION. Chain ports (ch. 8): frame assembly and sending, the frame's bytes, return slots and return windows,
link and enable. -/

namespace Sys2Proof.Machine

/-! ### The frame of a cycle (R130 to R133) -/

/-- R132: the control word of berth `b`. -/
def State.controlWord (s : State) (b : BerthIx) : ControlWord :=
  let r := s.berths[b]
  let lit : Screen × Fin 16 :=
    if s.emergencyGoverned r then (.on, 15)
    else
      match r.awake with
      | .asleep => (.off, 0)
      | .dimmed => (.dim, r.settings.dimBrightness)
      | .awake => (.on, r.settings.onBrightness)
  { screen := lit.1, brightness := lit.2
    video := if s.serving && !s.programHold && r.presence == .present && r.awake != .asleep then r.video else none
    caption := r.governing.bind s.activeCaption
    alert := s.governingClass r
    lamp := decide (b ∈ s.calls) }

/-- R133: the query field of the next frame of a chain. -/
def Chain.queryField (ch : Chain) : Option QueryField :=
  ch.inFlight.bind fun q => if q.placed then none else some { token := q.token, query := q.query }

/-- R133: the query in flight recorded as placed. -/
def Chain.placeQuery (ch : Chain) : Chain := { ch with inFlight := ch.inFlight.map fun q => { q with placed := true } }

/-- R130, R131: the frame of cycle `n` for chain `c`. -/
def State.frameOf (s : State) (c : ChainIx) (n : Word16) : ChainFrame :=
  { chain := c, cycle := n, mode := s.mgmt.mode
    controls := Vector.ofFn fun p => s.controlWord (berthAt c p)
    audio := Vector.ofFn fun p => s.slots[berthAt c p]
    query := s.chains[c].queryField
    video := s.videoArea c n }

/-- R130, R134: a frame begun on the line: it is counted as sent and opens its return window
(log 8). -/
def Chain.beginFrame (ch : Chain) (f : ChainFrame) : Chain :=
  { ch with
    line := some f
    windows := ch.windows ++
      [{ cycle := f.cycle, judges := (ch.inFlight.map fun q => q.placed).getD false }]
    counts := { ch.counts with framesSent := bump ch.counts.framesSent } }

/-- R130: the assembled frame goes onto an idle line, or waits behind the frame on the line. -/
def Chain.sendFrame (ch : Chain) (f : ChainFrame) : Chain :=
  if ch.line.isSome then { ch with waiting := some f } else ch.beginFrame f

/-- R130: chain `c` at the start of cycle `n`: no frame when it is disabled or its link is DOWN; the frame skipped
and counted while the previous one still waits; else the frame assembled and sent. -/
def State.chainCycle (s : State) (n : Word16) (c : ChainIx) : State :=
  let ch := s.chains[c]
  if ch.enabled = false ∨ ch.link = false then s
  else if ch.waiting.isSome then s.countChain c fun k => { k with framesSkipped := bump k.framesSkipped }
  else (s.assembleVideo c n).modChain c fun ch => ch.placeQuery.sendFrame (s.frameOf c n)

/-- R130: the six chains at the start of cycle `n`. -/
def State.chainsCycle (s : State) (n : Word16) : State := (List.finRange 6).foldl (fun s c => s.chainCycle n c) s

/-! ### The frame's bytes (ch. 11) -/

/-- A byte that may be absent: FFh for none. -/
def optByte {n : Nat} (x : Option (Fin n)) : Byte := (x.map fun v => BitVec.ofNat 8 v.val).getD 0xFF

/-- The class byte of a cue or a control word; FFh for none. -/
def classByte (c : Option Class) : Byte := optByte (c.map Class.index)

/-- The screen byte. -/
def screenByte (x : Screen) : Byte :=
  match x with
  | .off => 0
  | .dim => 1
  | .on => 2

/-- The mode byte. -/
def modeByte (m : Mode) : Byte :=
  match m with
  | .configuration => 0
  | .service => 1

/-- The 8 bytes of a control word. -/
def controlBytes (w : ControlWord) : List Byte :=
  [screenByte w.screen, BitVec.ofNat 8 w.brightness.val, optByte w.video, optByte w.caption, classByte w.alert,
    if w.lamp then 1 else 0, 0, 0]

/-- The 192 bytes of an audio slot. -/
def slotAudioBytes (b : ProgramBlock) : List Byte :=
  b.toList.flatMap fun f => beBytes 2 f.left.toNat ++ beBytes 2 f.right.toNat

/-- The 24 bytes of the query field. -/
def queryFieldBytes (q : Option QueryField) : List Byte :=
  match q with
  | none => List.replicate 24 0#8
  | some f =>
    [BitVec.ofNat 8 f.token, BitVec.ofNat 8 f.query.pos.val, f.query.code] ++ f.query.arg.toList ++
      List.replicate 13 0#8

/-- A segment in the video area: its 8-byte descriptor and its bytes. -/
def videoItemBytes (x : VideoItem) : List Byte :=
  [BitVec.ofNat 8 x.stream.val, 0] ++ beBytes 2 x.due.toNat ++ beBytes 2 x.bytes.length ++ [0, 0] ++ x.bytes

/-- The size of a video area: the sum of the costs of its segments (R119). -/
def videoSize (xs : List VideoItem) : Nat := (xs.map fun x => segmentCost x.bytes.length).sum

/-- A chain frame from the start of its header to the end of its video area: what its check covers (R131). -/
def frameChecked (f : ChainFrame) : List Byte :=
  [BitVec.ofNat 8 f.chain.val] ++ beBytes 2 f.cycle.toNat ++ [modeByte f.mode] ++ beBytes 2 (videoSize f.video) ++
    beBytes 2 f.video.length ++ List.replicate 8 0#8 ++
    ((List.finRange 8).flatMap fun p => controlBytes f.controls[p] ++ slotAudioBytes f.audio[p]) ++
    queryFieldBytes f.query ++ f.video.flatMap videoItemBytes

/-- The bytes of a chain frame on the line (R130, R131). -/
def frameBytes (f : ChainFrame) : List Byte := frameChecked f ++ beBytes 2 (checkOf (frameChecked f)).toNat

/-! ### Return windows (R134, R138) -/

/-- The judgement of one return slot (R134). -/
inductive SlotResult where
  | missing
  | invalid
  | valid (r : ReturnData)
deriving DecidableEq, Repr

/-- R134: a return slot judged: not taken in, a bad marker or a bad checksum, or valid with what it carries. -/
def judgeSlot (slot : Option SlotBytes) : SlotResult :=
  match slot with
  | none => .missing
  | some v =>
    if v[0] ≠ 0x5A then .invalid
    else if (v.toList.map BitVec.toNat).sum % 256 ≠ 0 then .invalid
    else
      .valid
        { headphone := v[1].getLsbD 0, unitFault := v[1].getLsbD 1, key1 := v[2], key2 := v[3], token := v[4]
          answer := Vector.ofFn fun i => v[i.val + 5] }

/-- R134, R20: the slot of one position judged, counted and handed to the berth table. -/
def State.takeSlot (s : State) (c : ChainIx) (judges : Bool) (p : PosIx) (slot : Option SlotBytes) : State :=
  match judgeSlot slot with
  | .missing =>
    (s.countChain c fun k => { k with returnsMissing := bump k.returnsMissing }).advanceMissing (berthAt c p)
  | .invalid =>
    (s.countChain c fun k => { k with returnsInvalid := bump k.returnsInvalid }).advanceMissing (berthAt c p)
  | .valid r =>
    (s.countChain c fun k => { k with returnsValid := bump k.returnsValid }).takeReturn (berthAt c p) judges r

/-- R134, R138: a return window of chain `c` closes: its eight slots are taken in position order, and then the
query in flight has waited one window more. -/
def State.closeWindow (s : State) (c : ChainIx) (judges : Bool) (slots : ReturnSlots) : State :=
  ((List.finRange 8).foldl (fun s p => s.takeSlot c judges p slots[p]) s).countWindow c judges

/-- R134: the close of the oldest open return window of chain `c` (log 9); no window is open on a chain that is
disabled or whose link is DOWN. -/
def State.returnWindow (s : State) (c : ChainIx) (slots : ReturnSlots) : State :=
  match s.chains[c].windows with
  | [] => s
  | w :: ws => (s.modChain c fun ch => { ch with windows := ws }).closeWindow c w.judges slots

/-- Eight return slots of which none was taken in. -/
def missingSlots : ReturnSlots := Vector.replicate 8 none

/-- R134: the window of a chain that was open when its newest frame began closes with the slots taken in by then; a
chain without such a window closes none. -/
def State.closeWith (s : State) (r : WindowReturn) : State :=
  if 2 ≤ s.chains[r.chain].windows.length then s.returnWindow r.chain r.slots else s

/-- R134: the windows of chain `c` that were open when its newest frame began close with every slot missing. -/
def State.closeSuperseded (s : State) (c : ChainIx) : State :=
  (List.range (s.chains[c].windows.length - 1)).foldl (fun s _ => s.returnWindow c missingSlots) s

/-- R37, R134: the superseded windows of every chain close: those named, with their slots, in the order named, and then
the others, of which no slot was taken in (log 9). -/
def State.closeAllSuperseded (s : State) (returns : List WindowReturn) : State :=
  (List.finRange 6).foldl State.closeSuperseded (returns.foldl State.closeWith s)

/-- R130, R134: the frame on the line of a chain finishes (log 10); a frame that waits behind it begins, at which the
window open before it closes with the slots taken in. -/
def State.frameDone (s : State) (r : WindowReturn) : State :=
  match s.chains[r.chain].line, s.chains[r.chain].waiting with
  | none, _ => s
  | some _, none => s.modChain r.chain fun ch => { ch with line := none }
  | some _, some f =>
    ((s.modChain r.chain fun ch => { ch with waiting := none }.beginFrame f).closeWith r).closeSuperseded r.chain

/-! ### Link and enable (R128, R129) -/

/-- R128, R129: the open return windows of a chain abandoned, and its waiting frame discarded. -/
def Chain.abandon (ch : Chain) : Chain := { ch with windows := [], waiting := none }

/-- R129: the steps of a chain that loses its link or is disabled: queries, berths, queues. A second stop takes them
again (log 26). -/
def State.chainStops (s : State) (c : ChainIx) : State :=
  (((s.modChain c Chain.abandon).discardQueries c).chainAbsent c).flush c

/-- R128: the link of chain `c` goes from UP to DOWN. -/
def State.linkDown (s : State) (c : ChainIx) : State :=
  ((s.modChain c fun ch => { ch with link := false }).chainStops c).countChain c
    fun k => { k with linkDowns := bump k.linkDowns }

/-- The line signal of chain `c` as the pins hold it. -/
def State.setChainLine (s : State) (c : ChainIx) (level : Bool) : State :=
  { s with pins := { s.pins with chainLines := s.pins.chainLines.set c level } }

end Sys2Proof.Machine
end

