-- ==== Sys2Proof/Machine/ChainRows.lean ====
section
/-! DEFINITION. The meanings of the chain rows and the berth rows (ch. 2, 8). BERTH_PRESENT, BERTH_ABSENT, IDLE_DIM,
IDLE_SLEEP and NO_ANSWER come about inside a return window close or a seconds tick; as commands of their own they act
where State stands at their trigger (log 2). -/

namespace Sys2Proof.Machine

/-- CHAIN_FRAME_COMPLETE (R130, R134). -/
def execChainFrameComplete (r : WindowReturn) (s : State) : Host.Outcome State Fault Refusal :=
  running s fun s => s.frameDone r

/-- RETURN_WINDOW_CLOSE (R134, R20, R26, R138). -/
def execReturnWindowClose (c : ChainIx) (slots : ReturnSlots) (s : State) : Host.Outcome State Fault Refusal :=
  running s fun s => s.returnWindow c slots

/-- BERTH_PRESENT (R21, R23), where berth `b` is JOINING with a valid run of 3. -/
def execBerthPresent (b : BerthIx) (s : State) : Host.Outcome State Fault Refusal :=
  running s fun s =>
    if s.berths[b].presence = .joining ∧ 3 ≤ s.berths[b].validRun then s.becomePresent b else s

/-- BERTH_ABSENT (R22, R24), where berth `b` is PRESENT with a missing run of 15. -/
def execBerthAbsent (b : BerthIx) (s : State) : Host.Outcome State Fault Refusal :=
  running s fun s =>
    if s.berths[b].presence = .present ∧ 15 ≤ s.berths[b].missingRun then s.enterAbsent b else s

/-- R34: whether berth `b` dims at its next tick. -/
def State.dims (s : State) (b : Berth) : Bool :=
  s.serving && s.idleRuns b && b.awake == .awake && b.settings.idleToDim != 0 &&
    decide (b.settings.idleToDim.val ≤ idleAfter b)

/-- IDLE_DIM (R34), where the next tick brings the idle seconds of berth `b` to its idle-to-dim. -/
def execIdleDim (b : BerthIx) (s : State) : Host.Outcome State Fault Refusal :=
  running s fun s => if s.dims s.berths[b] then s.modBerth b Berth.ticked else s

/-- R34: whether berth `b` falls asleep at its next tick. -/
def State.sleeps (s : State) (b : Berth) : Bool :=
  s.serving && s.idleRuns b && b.awake == .dimmed && b.settings.idleToSleep != 0 &&
    decide (b.settings.idleToSleep.val ≤ idleAfter b)

/-- IDLE_SLEEP (R34), where the next tick brings the idle seconds of berth `b` to its idle-to-sleep. -/
def execIdleSleep (b : BerthIx) (s : State) : Host.Outcome State Fault Refusal :=
  running s fun s => if s.sleeps s.berths[b] then s.modBerth b Berth.ticked else s

/-- R138: whether the query in flight of a chain waits its eighth window at the next close. -/
def Chain.waitsLast (ch : Chain) : Bool :=
  match ch.inFlight with
  | some q => q.placed && decide (7 ≤ q.waited)
  | none => false

/-- NO_ANSWER (R138), where the query in flight of chain `c` is placed and has waited 7 windows. -/
def execNoAnswer (c : ChainIx) (s : State) : Host.Outcome State Fault Refusal :=
  running s fun s => if s.chains[c].waitsLast then s.queryUnanswered c else s

/-- R128: the line of chain `c` loses its valid signal. -/
def State.chainLineLost (s : State) (c : ChainIx) : State :=
  let s1 := s.setChainLine c false
  if s.chains[c].link then s1.linkDown c else s1

/-- CHAIN_LINK_DOWN (R128, R129). -/
def execChainLinkDown (c : ChainIx) (s : State) : Host.Outcome State Fault Refusal :=
  running s fun s => s.chainLineLost c

/-- R128: the line of chain `c` holds a valid signal again. -/
def State.chainLineBack (s : State) (c : ChainIx) : State :=
  (s.setChainLine c true).modChain c fun ch => { ch with link := true }

/-- CHAIN_LINK_UP (R128). -/
def execChainLinkUp (c : ChainIx) (s : State) : Host.Outcome State Fault Refusal :=
  running s fun s => s.chainLineBack c

end Sys2Proof.Machine
end

