-- ==== Sys2Proof/Config.lean ====
section
/-! DEFINITION. What the spec leaves open at a cycle start, as free values: constants without a body, of which
nothing can be proved. Each is applied to the counter `State.draws`, so that every use is a fresh value. -/

namespace Sys2Proof

/-- R51: the hand-over of a newly accepted quiet level is made at a cycle start, and each reader of the settings it
changes, the idle timer's tick, the mixer and the chain frames, may act before or after it. `0`: before all of them;
`1`: after the tick and before the mixer; `2`: after the mixer and before the tick; `3`: after both and before the
frames; `4`: after the frames. (Assumption log 3.) -/
opaque Config.handoverPlace : Nat → Fin 5

/-- At a cycle start that is also a seconds tick, the idle timers read the governing announcement (R34) and the
channels may change it (R84 to R86); the spec orders neither before the other. `true`: the idle timers act first.
(Assumption log 3.) -/
opaque Config.tickBeforeChannels : Nat → Bool

/-- R16, R108: where the 10 ms of BACKBONE DOWN and the 1.1 ms of a self-start fall due at one moment, either may be
taken first. `true`: BACKBONE DOWN is. (Assumption log 3.) -/
opaque Config.signalBeforeSelfStart : Nat → Bool

end Sys2Proof
end

