-- ==== Sys2Proof/Machine/Cycle.lean ====
section
/-! DEFINITION. The cycle start (ch. 1): marks and self-starts, the cycle start in every block, and the part's time
base. -/

namespace Sys2Proof.Machine

/-- The time after a cycle start from which a mark starts a cycle, in microseconds: 0.9 ms (R2). -/
def markWindow : Nat := 900

/-- The time after a cycle start at which the timer starts a cycle by itself: 1.1 ms (R4). -/
def selfStartTime : Nat := 1100

/-- The length of a period without a signal at which BACKBONE DOWN comes to hold: 10 ms (R14). -/
def signalLimit : Nat := 10000

/-- What a step on an empty queue lets pass: 0.1 ms (log 1). -/
def idleStep : Nat := 100

/-- Time passes: the time since the last cycle start, and a running period without a signal (R2, R14). -/
def State.advanceTime (s : State) (d : Nat) : State :=
  (s.modTimer fun t => { t with sinceStart := t.sinceStart + d }).modFaults fun f =>
    { f with noSignal := f.noSignal.map fun t => min signalLimit (t + d) }

/-- R8: the seconds divider after a cycle start. -/
def dividerAfter (d : Nat) : Nat := if d + 1 < 1000 then d + 1 else 0

/-- R8: whether a cycle start that finds the divider at `d` is also a seconds tick. -/
def tickDue (d : Nat) : Bool := decide (1000 ≤ d + 1)

/-- R1, R8, R9: the cycle timer at the start of cycle `n`. -/
def State.openCycle (s : State) (n : Word16) (lines : LineSample) : State :=
  { s with
    timer :=
      { s.timer with
        cycle := n, sinceStart := 0, divider := dividerAfter s.timer.divider
        qa := sampled s.timer.qa lines.qa, qb := sampled s.timer.qb lines.qb }
    pins := { s.pins with qa := lines.qa, qb := lines.qb, sensor := lines.sensor } }

/-- R8, R10, R34: a seconds tick as the berth table and the channels meet it. Where both act at one cycle start, the
free value `Config.tickBeforeChannels` orders them (log 3). -/
def State.tickAndChannels (s : State) (tick first : Bool) : State :=
  if tick then (if first then s.idleTick.channelsCycle else s.channelsCycle.idleTick) else s.channelsCycle

/-- The work of a cycle start after the channels and before the frames: the mix, and the hand-over of the ducked
marks with the release it brings (R97, R103). -/
def State.mixAndRelease (s : State) : State :=
  let s1 := s.mix
  if s1.serving then s1.evaluateReleases else s1

/-- The cycle start of every block after the timer and the fault monitor, with the quiet hand-over made at `place`
(R51; log 3): before the tick, between tick and mixer, between mixer and tick, between both and the frames, or after
the frames. `qa` and `qb` are the effective levels that stood before the cycle start. -/
def State.cycleWork (s : State) (n : Word16) (tick : Bool) (qa qb : Bool) (place : Fin 5) (first : Bool) : State :=
  let s1 := if place = 0 then s.quietHandOver qa qb else s
  let s2 := (s1.presentRings n).tickAndChannels (tick && place != 2) first
  let s3 := if place = 1 then s2.quietHandOver qa qb else s2
  let s4 := s3.mixAndRelease
  let s5 := if place = 2 ∨ place = 3 then s4.quietHandOver qa qb else s4
  let s6 := if tick && place == 2 then s5.idleTick else s5
  let s7 := s6.chainsCycle n
  if place = 4 then s7.quietHandOver qa qb else s7

/-- Whether the samples of a cycle start accept a new level on a quiet line (R9). -/
def State.acceptsLevel (s : State) (lines : LineSample) : Bool :=
  (sampled s.timer.qa lines.qa).accepted != s.timer.qa.accepted ||
    (sampled s.timer.qb lines.qb).accepted != s.timer.qb.accepted

/-- R1: the start of cycle `n` in every block. `broken` tells a number that is not the successor, at which the rings are
emptied (R66). The free orderings are drawn only where a level is accepted or a tick is due. -/
def State.runCycle (s : State) (n : Word16) (broken : Bool) (lines : LineSample) : State :=
  let tick := tickDue s.timer.divider
  let accepts := s.acceptsLevel lines
  let place := if accepts then Config.handoverPlace s.draws else 0
  let first := if tick then Config.tickBeforeChannels s.draws else true
  let s1 := s.openCycle n lines
  let s2 := if accepts || tick then { s1 with draws := s1.draws + 1 } else s1
  let s3 := if tick then s2.readTemperature lines.sensor else s2
  let s4 := if broken then s3.emptyRings else s3
  s4.cycleWork n tick s.effectiveQA s.effectiveQB place first

/-- R1, R34, R108, R134: the start of cycle `n`, and after it the close of the return windows that the frames begun in it
have superseded, with the slots that the lines bring. The other order, close first, is a RETURN_WINDOW_CLOSE before the
cycle start (log 9). -/
def State.startCycle (s : State) (n : Word16) (broken : Bool) (lines : LineSample) : State :=
  (s.runCycle n broken lines).closeAllSuperseded lines.returns

/-- The successor of the cycle number (R3, R4). -/
def State.successor (s : State) : Word16 := s.timer.cycle + 1

/-- R2: an early mark leaves only its count. -/
def State.earlyMark (s : State) : State := s.countPart fun k => { k with earlyMarks := bump k.earlyMarks }

/-- R2, R3: a mark with number `n` starts a cycle. -/
def State.markStarts (s : State) (n : Word16) (lines : LineSample) : State :=
  let slip := n != s.successor && !s.timer.firstMark
  let s1 := s.modTimer fun t => { t with missedRun := 0, firstMark := false }
  let s2 := s1.countPart fun k =>
    { k with marksTaken := bump k.marksTaken, slips := addCount k.slips (if slip then 1 else 0) }
  s2.startCycle n (n != s.successor) lines

/-- R2: a mark with number `n` judged by the time since the last cycle start. -/
def State.takeMark (s : State) (n : Word16) (lines : LineSample) : State :=
  if markWindow ≤ s.timer.sinceStart then s.markStarts n lines else s.earlyMark

/-- R12: the missed-mark run increased by 1; MARK LOSS comes to hold when this brings it to 50. -/
def State.missMark (s : State) : State :=
  let s1 := s.modTimer fun t => { t with missedRun := min 65535 (t.missedRun + 1) }
  if s.timer.missedRun = 49 then s1.raiseMarkLoss else s1

/-- R4: the timer starts a cycle by itself. -/
def State.selfStart (s : State) (lines : LineSample) : State :=
  let s1 := s.missMark.countPart fun k => { k with selfStarts := bump k.selfStarts }
  s1.startCycle s.successor false lines

/-- The line sample that the pins give when the part's own time base starts a cycle, with no return slot taken in
(log 1, log 9). -/
def State.lineSample (s : State) : LineSample := { qa := s.pins.qa, qb := s.pins.qb, sensor := s.pins.sensor }

/-- R14: whether a period without a signal has reached its limit while the condition does not hold yet. -/
def State.signalLimitReached (s : State) : Bool :=
  s.faults.noSignal == some signalLimit && !s.faults.backboneDown

/-- R4: whether the time since the last cycle start has reached 1.1 ms. -/
def State.selfStartDue (s : State) : Bool := decide (selfStartTime ≤ s.timer.sinceStart)

/-- R4, R14: what falls due at this moment is taken. Where both do, the free value `Config.signalBeforeSelfStart` orders
them (R16; log 3). -/
def State.takeDue (s : State) : State :=
  match s.signalLimitReached, s.selfStartDue with
  | false, false => s
  | true, false => s.backboneFails
  | false, true => s.selfStart s.lineSample
  | true, true =>
    let s1 := { s with draws := s.draws + 1 }
    if Config.signalBeforeSelfStart s.draws then
      let s2 := s1.backboneFails
      s2.selfStart s2.lineSample
    else (s1.selfStart s1.lineSample).backboneFails

/-- R4, R14: the time until the next self-start or BACKBONE DOWN falls due. -/
def State.untilDue (s : State) : Nat :=
  let start := selfStartTime - s.timer.sinceStart
  match s.faults.noSignal with
  | none => start
  | some t => if s.faults.backboneDown then start else min start (signalLimit - t)

/-- R4, R14: `d` microseconds pass, with each self-start and BACKBONE DOWN that falls due before their end taken at its
moment; what falls due at their end is left to the event that comes then (R5, R16). `fuel` bounds the number of
moments. -/
def State.passFuel : Nat → Nat → State → State
  | 0, d, s => s.advanceTime d
  | fuel + 1, d, s =>
    if s.untilDue < d then passFuel fuel (d - s.untilDue) (s.advanceTime s.untilDue).takeDue
    else s.advanceTime d

/-- R4, R14: `d` microseconds pass (log 1). In them one BACKBONE DOWN can fall due, one self-start, and one more for each
whole 1.1 ms. -/
def State.passTime (s : State) (d : Nat) : State := State.passFuel (d / selfStartTime + 3) d s

/-- A step on an empty queue: 0.1 ms pass, and what falls due at their end is taken (log 1). -/
def State.passIdle (s : State) : State := (s.passTime idleStep).takeDue

end Sys2Proof.Machine
end

