-- ==== Sys2Proof/Machine/Ports.lean ====
section
/-! DEFINITION. Backbone ports (ch. 9): receive counts, the forward queues and transmitters, the upstream arbiter,
replies, and the classification of media parcels and commands. -/

namespace Sys2Proof.Machine

/-- The upstream forward queue holds 0..8 parcels (R148). -/
def upstreamCapacity : Nat := 8

/-- The through forward queue holds 0..16 parcels (R148). -/
def throughCapacity : Nat := 16

/-! ### Receive counts (R144, R152) -/

/-- A parcel that passed every check, counted. -/
def ReceiveCounts.pass (k : ReceiveCounts) : ReceiveCounts := { k with received := bump k.received }

/-- A parcel that failed a receive check, counted under it (R144). -/
def ReceiveCounts.fail (k : ReceiveCounts) (c : ReceiveCheck) : ReceiveCounts :=
  match c with
  | .framing => { k with framing := bump k.framing }
  | .runt => { k with runts := bump k.runts }
  | .oversize => { k with oversize := bump k.oversize }
  | .check => { k with checks := bump k.checks }
  | .length => { k with lengths := bump k.lengths }
  | .kind => { k with kinds := bump k.kinds }

/-- A parcel received on port U (R144; log 25). -/
def State.receivedU (s : State) : State := s.countU fun k => { k with receive := k.receive.pass }

/-- A parcel received on port T (R144). -/
def State.receivedT (s : State) : State := s.countT fun k => { k with receive := k.receive.pass }

/-- R144: a parcel on the line of a port, dropped and counted under the first check it fails. -/
def State.dropFailed (s : State) (port : Port) (clean : Bool) (bytes : List Byte) : State :=
  match receiveFailure clean bytes, port with
  | none, _ => s
  | some c, .upstream => s.countU fun k => { k with receive := k.receive.fail c }
  | some c, .through => s.countT fun k => { k with receive := k.receive.fail c }

/-! ### The through transmitter (R148) -/

/-- The through transmitter takes the head of its queue when it is idle and the link is UP. -/
def ThroughPort.pump (t : ThroughPort) : ThroughPort :=
  match t.sending, t.queue with
  | none, p :: ps => if t.link then { t with sending := some p, queue := ps } else t
  | _, _ => t

/-- R143, R148: a parcel queued for the through port: nothing while the link is DOWN, dropped and counted when the
queue is full. -/
def ThroughPort.enqueue (t : ThroughPort) (p : Parcel) : ThroughPort :=
  if t.link = false then t
  else if throughCapacity ≤ t.queue.length then
    { t with counts := { t.counts with queueFull := bump t.counts.queueFull } }
  else { t with queue := t.queue ++ [p] }.pump

/-- R148: the through transmitter completes a parcel and takes the next. -/
def ThroughPort.sent (t : ThroughPort) : ThroughPort :=
  if t.sending.isNone then t
  else
    { t with
      sending := none
      counts := { t.counts with parcelsSent := bump t.counts.parcelsSent } }.pump

/-- R143: the through link goes DOWN: the queue is discarded and counted, and the parcel on the line is cut off. -/
def ThroughPort.down (t : ThroughPort) : ThroughPort :=
  if t.link = false then t
  else
    { t with
      link := false, queue := [], sending := none
      counts := { t.counts with discardedAtDown := addCount t.counts.discardedAtDown t.queue.length } }

/-- A parcel queued for the through port. -/
def State.queueThrough (s : State) (p : Parcel) : State := s.modThru fun t => t.enqueue p

/-! ### The upstream arbiter (R149, R150) -/

/-- R150: an idle upstream transmitter takes one parcel: the only waiting source, or of both the one that the
last-served indicator does not name. A reply and a parcel that become waiting at one moment are two commands, of which
the sender gives first the one that the indicator does not name (log 28). -/
def UpstreamPort.pump (u : UpstreamPort) : UpstreamPort :=
  match u.sending, u.slot, u.queue with
  | some _, _, _ => u
  | none, none, [] => u
  | none, some r, [] => { u with sending := some (.reply r), slot := none, lastServed := .reply }
  | none, none, p :: ps => { u with sending := some (.forward p), queue := ps, lastServed := .forward }
  | none, some r, p :: ps =>
    match u.lastServed with
    | .forward => { u with sending := some (.reply r), slot := none, lastServed := .reply }
    | .reply => { u with sending := some (.forward p), queue := ps, lastServed := .forward }

/-- R148: a parcel queued for the upstream port. -/
def UpstreamPort.enqueue (u : UpstreamPort) (p : Parcel) : UpstreamPort :=
  if upstreamCapacity ≤ u.queue.length then
    { u with counts := { u.counts with queueFull := bump u.counts.queueFull } }
  else { u with queue := u.queue ++ [p] }.pump

/-- R149: a built reply placed in the slot, or discarded and counted when the slot is occupied. -/
def UpstreamPort.placeReply (u : UpstreamPort) (r : Reply) : UpstreamPort :=
  if u.slot.isSome then
    { u with counts := { u.counts with repliesDiscarded := bump u.counts.repliesDiscarded } }
  else { u with slot := some r }.pump

/-- R150: the completion of a send counted, and the transmitter idle. -/
def UpstreamPort.complete (u : UpstreamPort) : UpstreamPort :=
  match u.sending with
  | none => u
  | some (.reply _) =>
    { u with sending := none, counts := { u.counts with repliesSent := bump u.counts.repliesSent } }
  | some (.forward _) =>
    { u with sending := none, counts := { u.counts with parcelsSent := bump u.counts.parcelsSent } }

/-- Whether what the upstream transmitter sends is the reply of the pending RESTART (R166). -/
def UpstreamPort.sendsRestart (u : UpstreamPort) : Bool :=
  match u.sending with
  | some (.reply r) => r.restart
  | some (.forward _) => false
  | none => false

/-- R150, R166: the upstream transmitter completes a send: the reset of a RESTART at the completion of its reply, else
the next waiting source taken. -/
def State.upstreamSent (s : State) : State :=
  if s.up.sendsRestart then s.resetNow else s.modUp fun u => u.complete.pump

/-! ### Media parcels (R146) -/

/-- R146: a media parcel: queued for the through port, and in SERVICE taken by its block with `take`, in
CONFIGURATION counted as not in service. -/
def State.takeMedia (s : State) (p : Parcel) (take : State → State) : State :=
  let s1 := s.receivedU.queueThrough p
  if s1.serving then take s1 else s1.countU fun k => { k with notInService := bump k.notInService }

/-- R74: a START cue taken. -/
def State.startCueTaken (q : CueBody) (s : State) : State :=
  match channelOf q.channel, classOf q.cls with
  | some a, some c => if startFieldsGood q then s.takeStart a c q else s.countBadPayload
  | _, _ => s.countBadPayload

/-- R74: an END cue taken. -/
def State.endCueTaken (q : CueBody) (s : State) : State :=
  match channelOf q.channel with
  | some a => s.takeEnd a q.sequence
  | none => s.countBadPayload

/-- R74: a CANCEL cue taken. -/
def State.cancelCueTaken (q : CueBody) (s : State) : State :=
  match channelOf q.channel with
  | some a => s.takeCancel a
  | none => s.countBadPayload

/-- The ten payload bytes of a cue of type `t` (ch. 11). -/
def cueBytes (t : Byte) (q : CueBody) : List Byte :=
  [q.channel, t, q.cls, q.zone, q.stop, q.caption] ++ beBytes 2 q.sequence.toNat ++ beBytes 2 q.leadOverride.toNat

/-- R89: an ANNOUNCE AUDIO parcel taken by the announcement channels. -/
def State.takeAnnounceAudio (payload : List Byte) (s : State) : State :=
  let k := (byteAt payload 1).toNat
  match payload.head?.bind channelOf with
  | none => s.countBadPayload
  | some a =>
    if 1 ≤ k ∧ k ≤ 4 ∧ payload.length = 4 + 96 * k then
      if s.channels[a].busy then s.modChannel a fun ch => ch.takeBlocks payload (wordAt payload 2) k
      else s.countChannel a fun n => { n with stale := addCount n.stale k }
    else s.countBadPayload

/-- R2, R146: a CYCLE MARK parcel: queued for the through port, and taken by the cycle timer when its payload is 2
bytes. -/
def State.takeMarkParcel (s : State) (h : Header) (lines : LineSample) (payload : List Byte) : State :=
  let s1 := s.receivedU.queueThrough (parcelOf .cycleMark h payload)
  if payload.length = 2 then s1.takeMark (wordAt payload 0) lines else s1.countBadPayload

/-- R147: a parcel that port T passes: a REPLY or COMMAND queued for the upstream port, the rest dropped. -/
def State.takeThrough (s : State) (p : Parcel) : State :=
  match p.kind with
  | .reply => s.receivedT.modUp fun u => u.enqueue p
  | .command => s.receivedT.modUp fun u => u.enqueue p
  | .cycleMark => s.receivedT.countT fun k => { k with wrongDirection := bump k.wrongDirection }
  | .programAudio => s.receivedT.countT fun k => { k with wrongDirection := bump k.wrongDirection }
  | .videoSegment => s.receivedT.countT fun k => { k with wrongDirection := bump k.wrongDirection }
  | .announceCue => s.receivedT.countT fun k => { k with wrongDirection := bump k.wrongDirection }
  | .announceAudio => s.receivedT.countT fun k => { k with wrongDirection := bump k.wrongDirection }

/-! ### Commands and replies (R146, R149, R153, R166) -/

/-- The outcomes of a command (R153). -/
inductive Verdict where
  | accepted | unknownCommand | badLength | badIndex | badValue | wrongMode | inUse | noRoom | readOnly | busy
  | absent
deriving DecidableEq, Repr

/-- The outcome byte (ch. 11). -/
def verdictCode (v : Verdict) : Byte :=
  match v with
  | .accepted => 0x00
  | .unknownCommand => 0x01
  | .badLength => 0x02
  | .badIndex => 0x03
  | .badValue => 0x04
  | .wrongMode => 0x05
  | .inUse => 0x06
  | .noRoom => 0x07
  | .readOnly => 0x08
  | .busy => 0x09
  | .absent => 0x0A

/-- What management answers to a command: the code its reply carries, the outcome, the detail byte and the body
(R149, R153), and whether an accepted RESTART asks for a reset (R166). -/
structure Answer where
  code    : Byte
  verdict : Verdict
  detail  : Byte
  body    : List Byte
  restart : Bool
deriving DecidableEq, Repr

/-- R149: the reply to a command, the attention flag formed on the state that the command left. -/
def State.replyTo (s : State) (h : Header) (a : Answer) : Reply :=
  { parcel :=
      { target := h.origin, origin := s.node.address, kind := .reply
        flags := replyFlags h (a.verdict == .accepted) (s.attentionReported != 0)
        payload := [a.code, verdictCode a.verdict, a.detail] ++ a.body }
    restart := a.restart }

/-- R149, R166: the reply to an addressed command with reply-wanted set, and the reset of a RESTART whose reply is
discarded or that finds restart-pending set. -/
def State.giveReply (s : State) (h : Header) (a : Answer) : State :=
  let s1 := s.modUp fun u => u.placeReply (s.replyTo h a)
  if a.restart then
    if s.up.slot.isSome || s.mgmt.restartPending then s1.resetNow
    else s1.modMgmt fun m => { m with restartPending := true }
  else s1

/-- R166: a command without a reply: a RESTART resets the part at once. -/
def State.withoutReply (s : State) (a : Answer) : State := if a.restart then s.resetNow else s

/-- R146, R149: a COMMAND parcel that passed the receive checks of port U, with what management does with it: to the
node address it is executed and answered, to FFh it is queued for the through port and then executed (R162; the order
is log 27), to any other target it is queued alone. -/
def State.takeCommand (s : State) (h : Header) (payload : List Byte) (manage : State → State × Answer) : State :=
  let s0 := s.receivedU
  if h.target = s.node.address then
    let r := manage s0
    if replyWanted h then r.1.giveReply h r.2 else r.1.withoutReply r.2
  else if h.target = 0xFF then
    let r := manage (s0.queueThrough (parcelOf .command h payload))
    r.1.withoutReply r.2
  else s0.queueThrough (parcelOf .command h payload)

end Sys2Proof.Machine
end

