-- ==== Sys2Proof/Machine/Operands.lean ====
section
/-! DEFINITION. The operand forms of the management commands: table codes, entry encodings in both directions and
their validity (ch. 11, R158, R168), counter groups (R162), query and settings bodies. -/

namespace Sys2Proof.Machine

/-! ### Tables -/

/-- The tables of ch. 11. -/
inductive Table where
  | berth | zone | profile | cls | chain | settings | stream | channel
deriving DecidableEq, Repr

/-- The table that a table code names. -/
def tableOf (b : Byte) : Option Table :=
  if b = 1 then some .berth
  else if b = 2 then some .zone
  else if b = 3 then some .profile
  else if b = 4 then some .cls
  else if b = 5 then some .chain
  else if b = 6 then some .settings
  else if b = 7 then some .stream
  else if b = 8 then some .channel
  else none

/-- Whether a table is loadable; the stream and channel tables are readable only (R158). -/
def Table.loadable (t : Table) : Bool :=
  match t with
  | .stream => false
  | .channel => false
  | .berth => true
  | .zone => true
  | .profile => true
  | .cls => true
  | .chain => true
  | .settings => true

/-- How many entries a table has (R158, R160). -/
def Table.entries (t : Table) : Nat :=
  match t with
  | .berth => 48
  | .zone => 16
  | .profile => 4
  | .cls => 4
  | .chain => 6
  | .settings => 1
  | .stream => 32
  | .channel => 2

/-- The size of a loaded entry (ch. 11). -/
def Table.loadSize (t : Table) : Nat :=
  match t with
  | .berth => 10
  | .zone => 6
  | .profile => 18
  | .cls => 5
  | .chain => 11
  | .settings => 10
  | .stream => 4
  | .channel => 20

/-- The size of an entry as read: a berth entry carries its live part too (ch. 11). -/
def Table.readSize (t : Table) : Nat :=
  match t with
  | .berth => 34
  | .zone => 6
  | .profile => 18
  | .cls => 5
  | .chain => 11
  | .settings => 10
  | .stream => 4
  | .channel => 20

/-- The first index of a range that lies outside a table of `n` entries, if one does (R158, R160). -/
def outside (n first count : Nat) : Option Nat :=
  if first + count ≤ n ∨ count = 0 then none else some (max n first)

/-! ### Settings sets -/

/-- Whether field `i` of a settings set, in the order of R44, lies in its range. -/
def settingsFieldGood (bs : List Byte) (i : Fin 7) : Bool :=
  if i.val < 4 then decide ((byteAt bs i.val).toNat < 16)
  else if i.val = 4 then true
  else if i.val = 5 then decide (fieldAt bs 5 2 < 1024)
  else decide (fieldAt bs 7 2 < 1024)

/-- Whether every field of a settings set lies in its range. -/
def settingsGood (bs : List Byte) : Bool := (List.finRange 7).all (settingsFieldGood bs)

/-- The settings that 9 bytes hold (ch. 11). -/
def settingsOf (bs : List Byte) : Settings :=
  { headphoneCeiling := Fin.ofNat 16 (byteAt bs 0).toNat
    speakerCeiling := Fin.ofNat 16 (byteAt bs 1).toNat
    onBrightness := Fin.ofNat 16 (byteAt bs 2).toNat
    dimBrightness := Fin.ofNat 16 (byteAt bs 3).toNat
    glideStep := Fin.ofNat 256 (byteAt bs 4).toNat
    idleToDim := Fin.ofNat 1024 (fieldAt bs 5 2)
    idleToSleep := Fin.ofNat 1024 (fieldAt bs 7 2) }

/-- The 9 bytes of a settings set. -/
def settingsBytes (x : Settings) : List Byte :=
  [BitVec.ofNat 8 x.headphoneCeiling.val, BitVec.ofNat 8 x.speakerCeiling.val, BitVec.ofNat 8 x.onBrightness.val,
    BitVec.ofNat 8 x.dimBrightness.val, BitVec.ofNat 8 x.glideStep.val] ++
    beBytes 2 x.idleToDim.val ++ beBytes 2 x.idleToSleep.val

/-- R48: the selected fields of a berth's active settings written; the others keep their values. -/
def overlaySettings (selection : Byte) (old new : Settings) : Settings :=
  { headphoneCeiling := if selection.getLsbD 0 then new.headphoneCeiling else old.headphoneCeiling
    speakerCeiling := if selection.getLsbD 1 then new.speakerCeiling else old.speakerCeiling
    onBrightness := if selection.getLsbD 2 then new.onBrightness else old.onBrightness
    dimBrightness := if selection.getLsbD 3 then new.dimBrightness else old.dimBrightness
    glideStep := if selection.getLsbD 4 then new.glideStep else old.glideStep
    idleToDim := if selection.getLsbD 5 then new.idleToDim else old.idleToDim
    idleToSleep := if selection.getLsbD 6 then new.idleToSleep else old.idleToSleep }

/-! ### Loaded entries -/

/-- The quiet source that a code names. -/
def quietSourceOf (b : Byte) : Option QuietSource :=
  if b = 0 then some .none else if b = 1 then some .a
  else if b = 2 then some .b else if b = 3 then some .either else none

/-- The quiet-line mode that a code names. -/
def quietModeOf (b : Byte) : Option QuietMode :=
  if b = 0 then some .follow else if b = 1 then some .forceOn else if b = 2 then some .forceOff else none

/-- R158, R168: whether a loaded entry is valid. -/
def entryGood (t : Table) (bs : List Byte) : Bool :=
  match t with
  | .berth =>
    decide ((byteAt bs 0).toNat < 4) && (quietSourceOf (byteAt bs 1)).isSome && codeBelowOrAbsent (byteAt bs 6) 64 &&
      codeBelowOrAbsent (byteAt bs 7) 32 && codeBelowOrAbsent (byteAt bs 8) 32 && decide ((byteAt bs 9).toNat < 16)
  | .zone => true
  | .profile => settingsGood (bs.take 9) && settingsGood (bs.drop 9)
  | .cls => decide (fieldAt bs 0 2 < 257) && decide ((byteAt bs 3).toNat < 16)
  | .chain => decide ((byteAt bs 0).toNat < 2)
  | .settings => (quietModeOf (byteAt bs 5)).isSome && (quietModeOf (byteAt bs 6)).isSome
  | .stream => false
  | .channel => false

/-- The configured part that a berth entry holds. -/
def berthConfigOf (bs : List Byte) : BerthConfig :=
  { profile := Fin.ofNat 4 (byteAt bs 0).toNat
    quietSource := (quietSourceOf (byteAt bs 1)).getD .none
    allowed := BitVec.ofNat 32 (fieldAt bs 2 4)
    alightStop := stopOf (byteAt bs 6)
    defaultAudio := streamOf (byteAt bs 7)
    defaultVideo := streamOf (byteAt bs 8)
    defaultLevel := Fin.ofNat 16 (byteAt bs 9).toNat }

/-- The class entry that 5 bytes hold. -/
def classEntryOf (bs : List Byte) : ClassEntry :=
  { duckTarget := Fin.ofNat 257 (fieldAt bs 0 2)
    duckStep := Fin.ofNat 256 (byteAt bs 2).toNat
    level := Fin.ofNat 16 (byteAt bs 3).toNat
    lead := Fin.ofNat 256 (byteAt bs 4).toNat }

/-- R127: a loaded budget, held as 10752 above that value. -/
def clampBudget (n : Nat) : Nat := min 10752 n

/-- R127: a loaded service ratio, held as 1 at 0 and as 15 above 15. -/
def clampRatio (n : Nat) : Nat := max 1 (min 15 n)

/-- R158: a loaded overheat threshold, held as 60 below 60 and as 125 above 125. -/
def clampThreshold (n : Nat) : Nat := max 60 (min 125 n)

/-- The part settings that an entry holds; its read-only bytes are not examined (R167). -/
def partSettingsOf (bs : List Byte) : PartSettings :=
  { recoveryStep := Fin.ofNat 256 (byteAt bs 0).toNat
    threshold := clampThreshold (byteAt bs 1).toNat
    faultMask := faultBits (byteAt bs 2)
    attentionMask := BitVec.ofNat 16 (fieldAt bs 3 2)
    modeQA := (quietModeOf (byteAt bs 5)).getD .follow
    modeQB := (quietModeOf (byteAt bs 6)).getD .follow }

/-! ### Entries as read -/

/-- The codes of the coded fields of a berth entry. -/
def quietSourceByte (x : QuietSource) : Byte :=
  match x with
  | .none => 0
  | .a => 1
  | .b => 2
  | .either => 3

/-- The presence byte. -/
def presenceByte (x : Presence) : Byte :=
  match x with
  | .absent => 0
  | .joining => 1
  | .present => 2

/-- The awake state byte. -/
def awakeByte (x : Awake) : Byte :=
  match x with
  | .asleep => 0
  | .awake => 1
  | .dimmed => 2

/-- The quiet mode byte. -/
def quietModeByte (x : QuietMode) : Byte :=
  match x with
  | .follow => 0
  | .forceOn => 1
  | .forceOff => 2

/-- The stream kind byte; FFh while CLOSED. -/
def streamKindByte (x : Option StreamKind) : Byte :=
  match x with
  | some .programAudio => 1
  | some .programVideo => 2
  | some .captionVideo => 3
  | none => 0xFF

/-- The channel state byte. -/
def channelStateByte (x : ChannelState) : Byte :=
  match x with
  | .idle => 0
  | .ducking => 1
  | .lead => 2
  | .playing => 3

/-- A byte of 0 or 1. -/
def boolByte (x : Bool) : Byte := if x then 1 else 0

/-- The 10 bytes of the configured part of a berth entry. -/
def berthConfigBytes (c : BerthConfig) : List Byte :=
  [BitVec.ofNat 8 c.profile.val, quietSourceByte c.quietSource] ++ beBytes 4 c.allowed.toNat ++
    [optByte c.alightStop, optByte c.defaultAudio, optByte c.defaultVideo, BitVec.ofNat 8 c.defaultLevel.val]

/-- The status byte of a berth's live part. -/
def berthStatusByte (b : Berth) : Byte :=
  boolByte b.headphone ||| (boolByte b.unitFault <<< 1) ||| (boolByte b.ducked <<< 2) |||
    (boolByte (b.regime == .night) <<< 3)

/-- The 34 bytes of a berth entry as read: configured part, then live part. -/
def berthBytes (b : Berth) : List Byte :=
  berthConfigBytes b.config ++
    [presenceByte b.presence, BitVec.ofNat 8 b.validRun, BitVec.ofNat 8 b.missingRun, awakeByte b.awake] ++
    beBytes 2 b.idle ++
    [optByte b.audio, optByte b.video, BitVec.ofNat 8 b.level.val, berthStatusByte b, optByte b.governing] ++
    beBytes 2 b.ap ++ beBytes 2 b.ad ++ settingsBytes b.settings

/-- The 5 bytes of a class entry. -/
def classEntryBytes (e : ClassEntry) : List Byte :=
  beBytes 2 e.duckTarget.val ++
    [BitVec.ofNat 8 e.duckStep.val, BitVec.ofNat 8 e.level.val, BitVec.ofNat 8 e.lead.val]

/-- The 11 bytes of a chain entry as read (R127). -/
def chainBytes (c : Chain) : List Byte :=
  [boolByte c.enabled] ++ beBytes 2 c.budget ++
    [BitVec.ofNat 8 c.ratio, boolByte c.link, BitVec.ofNat 8 c.priority.length, BitVec.ofNat 8 c.program.length,
      BitVec.ofNat 8 c.wait, BitVec.ofNat 8 c.queries.length, boolByte c.inFlight.isSome,
      BitVec.ofNat 8 c.results.length]

/-- The 10 bytes of the part settings as read (R157). -/
def State.settingsEntryBytes (s : State) : List Byte :=
  let p := s.mgmt.settings
  [BitVec.ofNat 8 p.recoveryStep.val, BitVec.ofNat 8 p.threshold, faultByte p.faultMask] ++
    beBytes 2 p.attentionMask.toNat ++
    [quietModeByte p.modeQA, quietModeByte p.modeQB,
      boolByte s.timer.qa.accepted ||| (boolByte s.timer.qb.accepted <<< 1)] ++
    beBytes 2 s.slotsInUse

/-- The number of slots of a stream's ring that hold a block (R70). -/
def State.ringFill (s : State) (e : StreamEntry) : Nat :=
  match e.ring with
  | some r => (s.rings[r].toList.filter Option.isSome).length
  | none => 0

/-- The 4 bytes of a stream entry (R70). -/
def State.streamBytes (s : State) (e : StreamEntry) : List Byte :=
  [boolByte e.kind.isSome, streamKindByte e.kind, optByte e.ring, BitVec.ofNat 8 (s.ringFill e)]

/-- The 20 bytes of a channel entry (R95). -/
def channelBytes (c : Channel) : List Byte :=
  [channelStateByte c.state, classByte c.cls] ++ beBytes 6 c.reach.toNat ++ [optByte c.caption] ++
    (match c.leadOverride with
      | some m => beBytes 2 m.val
      | none => beBytes 2 0xFFFF) ++
    beBytes 2 c.nextSeq.toNat ++ [boolByte c.lastSeq.isSome] ++ beBytes 2 (c.lastSeq.getD 0).toNat ++
    [BitVec.ofNat 8 c.lead, BitVec.ofNat 8 c.stall] ++
    beBytes 2 (c.ring.toList.filter Option.isSome).length

/-- Entry `i` of a table as READ ENTRIES returns it; no bytes for an index outside the table. -/
def State.entryBytes (s : State) (t : Table) (i : Nat) : List Byte :=
  match t with
  | .berth => if h : i < 48 then berthBytes s.berths[i] else []
  | .zone => if h : i < 16 then beBytes 6 s.zones[i].toNat else []
  | .profile => if h : i < 4 then settingsBytes s.profiles[i].day ++ settingsBytes s.profiles[i].night else []
  | .cls => if h : i < 4 then classEntryBytes s.classes[i] else []
  | .chain => if h : i < 6 then chainBytes s.chains[i] else []
  | .settings => s.settingsEntryBytes
  | .stream => if h : i < 32 then s.streamBytes s.streams[i] else []
  | .channel => if h : i < 2 then channelBytes s.channels[i] else []

/-! ### Counter groups (R162) -/

/-- A counter group. -/
inductive Group where
  | portU | portT | stream (v : StreamIx) | channel (a : ChannelIx) | chain (c : ChainIx) | part
deriving DecidableEq, Repr

/-- The counts of the receive checks, in the order of R152. -/
def ReceiveCounts.list (k : ReceiveCounts) : List Count :=
  [k.received, k.framing, k.runts, k.oversize, k.checks, k.lengths, k.kinds]

/-- The 15 counts of port U, in the order of R152. -/
def UpstreamCounts.list (k : UpstreamCounts) : List Count :=
  k.receive.list ++
    [k.wrongDirection, k.notInService, k.unusedStream, k.badPayload, k.queueFull, k.parcelsSent, k.repliesSent,
      k.repliesDiscarded]

/-- The 11 counts of port T, in the order of R152. -/
def ThroughCounts.list (k : ThroughCounts) : List Count :=
  k.receive.list ++ [k.wrongDirection, k.queueFull, k.parcelsSent, k.discardedAtDown]

/-- The 5 counts of a stream (R69). -/
def StreamCounts.list (k : StreamCounts) : List Count := [k.accepted, k.late, k.early, k.duplicate, k.underrun]

/-- The 5 counts of a channel (R94). -/
def ChannelCounts.list (k : ChannelCounts) : List Count :=
  [k.accepted, k.stale, k.duplicate, k.gapCycles, k.cuesRefused]

/-- The 25 counts of a chain: R39, R109, R126, R141. -/
def ChainCounts.list (k : ChainCounts) : List Count :=
  [k.presenceGained, k.presenceLost, k.keysApplied, k.keysDiscarded, k.callsPlaced, k.headphoneChanges, k.unitFaults,
    k.mixClips, k.oversize, k.queueFull, k.sent, k.lateDiscards, k.flushed, k.framesSent, k.framesSkipped, k.linkDowns,
    k.returnsValid, k.returnsMissing, k.returnsInvalid, k.queriesSent, k.answered, k.noAnswer, k.absentOutcomes,
    k.foreignTokens, k.queriesDiscarded]

/-- The 13 counts of the part: R17, R53, R126. -/
def PartCounts.list (k : PartCounts) : List Count :=
  [k.marksTaken, k.earlyMarks, k.slips, k.selfStarts, k.markLossRaises, k.overheatRaises, k.backboneDownRaises,
    k.qaChanges, k.qbChanges, k.regimeChanges, k.noDemand, k.unplaced, k.storeFull]

/-- The counts of a group, in the order in which READ COUNTERS returns them. -/
def State.groupCounts (s : State) (g : Group) : List Count :=
  match g with
  | .portU => s.up.counts.list
  | .portT => s.thru.counts.list
  | .stream v => s.streams[v].counts.list
  | .channel a => s.channels[a].counts.list
  | .chain c => s.chains[c].counts.list
  | .part => s.counts.list

/-- R162: every count of a group set to 0. -/
def State.clearGroup (s : State) (g : Group) : State :=
  match g with
  | .portU => s.countU fun _ => .zero
  | .portT => s.countT fun _ => .zero
  | .stream v => s.countStream v fun _ => .zero
  | .channel a => s.countChannel a fun _ => .zero
  | .chain c => s.countChain c fun _ => .zero
  | .part => s.countPart fun _ => .zero

/-- The group that a group code and an index name, or the refusal with its detail (R162). -/
def groupOf (code index : Byte) : Except (Verdict × Byte) Group :=
  if code = 1 then .ok .portU
  else if code = 2 then .ok .portT
  else if code = 3 then (if h : index.toNat < 32 then .ok (.stream ⟨index.toNat, h⟩) else .error (.badIndex, index))
  else if code = 4 then (if h : index.toNat < 2 then .ok (.channel ⟨index.toNat, h⟩) else .error (.badIndex, index))
  else if code = 5 then (if h : index.toNat < 6 then .ok (.chain ⟨index.toNat, h⟩) else .error (.badIndex, index))
  else if code = 6 then .ok .part
  else .error (.badValue, code)

/-- The stream kind that an OPEN STREAM kind byte names. -/
def openKindOf (b : Byte) : Option StreamKind :=
  if b = 1 then some .programAudio
  else if b = 2 then some .programVideo
  else if b = 3 then some .captionVideo
  else none

/-- The outcome byte of a query result. -/
def queryOutcomeByte (o : QueryOutcome) : Byte :=
  match o with
  | .answered => 0
  | .noAnswer => 1
  | .absent => 2

/-- The 20 bytes of a query result; the answer bytes are zeros when the answer is absent. -/
def resultBytes (r : QueryResult) : List Byte :=
  [BitVec.ofNat 8 r.chain.val, BitVec.ofNat 8 r.pos.val, r.code, queryOutcomeByte r.outcome] ++
    (match r.answer with
      | some v => v.toList
      | none => List.replicate 16 0#8)

end Sys2Proof.Machine
end

