-- ==== Sys2Proof/Machine/Manage.lean ====
section
/-! DEFINITION. What management does with each command body (ch. 10, and the rules of the other chapters that it
names): the judgement, the effect and the answer. -/

namespace Sys2Proof.Machine

/-- What management does with a command body: the state it leaves and its answer. -/
abbrev Managed := State × Answer

/-- A command refused with an outcome and a detail: no change of state, an empty body (R153). -/
def refuse (s : State) (code : Byte) (v : Verdict) (detail : Byte) : Managed :=
  (s, { code := code, verdict := v, detail := detail, body := [], restart := false })

/-- A command executed, with the detail and the body of its reply. -/
def accept (s : State) (code : Byte) (detail : Byte := 0) (body : List Byte := []) : Managed :=
  (s, { code := code, verdict := .accepted, detail := detail, body := body, restart := false })

/-- R153, check 3: a body of exactly `n` bytes, else BAD LENGTH. -/
def withLength (s : State) (code : Byte) (body : List Byte) (n : Nat) (f : Managed) : Managed :=
  if body.length = n then f else refuse s code .badLength 0

/-! ### Command codes (ch. 11) -/

/-- The twenty commands. -/
inductive Command where
  | identify | loadEntries | readEntries | openStream | closeStream | resetBerth | setBerthActive | readCounters
  | clearCounters | readAttention | clearAttention | readCalls | acknowledgeCalls | clearFaults | enterService
  | enterConfiguration | berthQuery | fetchQueryResults | abortQueries | restart
deriving DecidableEq, Repr

/-- The code of a command. -/
def commandCode (c : Command) : Byte :=
  match c with
  | .identify => 0x01
  | .loadEntries => 0x02
  | .readEntries => 0x03
  | .openStream => 0x04
  | .closeStream => 0x05
  | .resetBerth => 0x06
  | .setBerthActive => 0x07
  | .readCounters => 0x08
  | .clearCounters => 0x09
  | .readAttention => 0x0A
  | .clearAttention => 0x0B
  | .readCalls => 0x0C
  | .acknowledgeCalls => 0x0D
  | .clearFaults => 0x0E
  | .enterService => 0x0F
  | .enterConfiguration => 0x10
  | .berthQuery => 0x11
  | .fetchQueryResults => 0x12
  | .abortQueries => 0x13
  | .restart => 0x14

/-- Every command, in the order of its code. -/
def allCommands : List Command :=
  [.identify, .loadEntries, .readEntries, .openStream, .closeStream, .resetBerth, .setBerthActive, .readCounters,
    .clearCounters, .readAttention, .clearAttention, .readCalls, .acknowledgeCalls, .clearFaults, .enterService,
    .enterConfiguration, .berthQuery, .fetchQueryResults, .abortQueries, .restart]

/-- The command that a code names, if it names one (R153). -/
def commandOf (b : Byte) : Option Command := allCommands.find? fun c => commandCode c == b

/-! ### IDENTIFY, counters, attention, calls, faults -/

/-- R161: the 14 bytes of the IDENTIFY reply body. -/
def State.identity (s : State) : List Byte :=
  beBytes 2 6224 ++ [1, BitVec.ofNat 8 s.node.strap.toNat, s.node.address,
    boolByte s.node.fault ||| (boolByte s.serving <<< 1)] ++
    beBytes 2 s.timer.cycle.toNat ++ beBytes 2 s.timer.missedRun ++
    beBytes 2 (BitVec.ofInt 16 s.faults.temperature).toNat ++
    [faultByte s.faults.flags, faultByte s.mgmt.settings.faultMask]

/-- R161. -/
def manageIdentify (body : List Byte) (s : State) : Managed :=
  withLength s 0x01 body 0 (accept s 0x01 0 s.identity)

/-- R162. -/
def manageReadCounters (body : List Byte) (s : State) : Managed :=
  withLength s 0x08 body 2 <|
    match groupOf (byteAt body 0) (byteAt body 1) with
    | .error (v, d) => refuse s 0x08 v d
    | .ok g =>
      accept s 0x08 0 (BitVec.ofNat 8 (s.groupCounts g).length :: (s.groupCounts g).flatMap countBytes)

/-- R162. -/
def manageClearCounters (body : List Byte) (s : State) : Managed :=
  withLength s 0x09 body 2 <|
    match groupOf (byteAt body 0) (byteAt body 1) with
    | .error (v, d) => refuse s 0x09 v d
    | .ok g => accept (s.clearGroup g) 0x09

/-- R164. -/
def manageReadAttention (body : List Byte) (s : State) : Managed :=
  withLength s 0x0A body 0 (accept s 0x0A 0 (beBytes 2 s.attentionReported.toNat))

/-- R164. -/
def manageClearAttention (body : List Byte) (s : State) : Managed :=
  withLength s 0x0B body 2 <|
    let s1 := s.clearAttention (BitVec.ofNat 16 (fieldAt body 0 2))
    accept s1 0x0B 0 (beBytes 2 s1.attentionReported.toNat)

/-- R165. -/
def manageReadCalls (body : List Byte) (s : State) : Managed :=
  withLength s 0x0C body 0 <|
    accept s 0x0C 0 (BitVec.ofNat 8 s.calls.length :: s.calls.map fun b => BitVec.ofNat 8 b.val)

/-- R165, R38. -/
def manageAcknowledgeCalls (body : List Byte) (s : State) : Managed :=
  withLength s 0x0D body 6 <|
    let s1 := s.acknowledge (BitVec.ofNat 48 (fieldAt body 0 6))
    accept s1 0x0D (BitVec.ofNat 8 (s.calls.length - s1.calls.length))

/-- R165, R11. -/
def manageClearFaults (body : List Byte) (s : State) : Managed :=
  withLength s 0x0E body 0 <| accept s.clearFaults 0x0E 0 [faultByte s.clearFaults.faults.flags]

/-! ### Streams and berths -/

/-- R56. -/
def manageOpenStream (body : List Byte) (s : State) : Managed :=
  withLength s 0x04 body 2 <|
    match streamOf (byteAt body 0), openKindOf (byteAt body 1) with
    | none, _ => refuse s 0x04 .badIndex (byteAt body 0)
    | some _, none => refuse s 0x04 .badValue (byteAt body 1)
    | some v, some k =>
      if s.streams[v].kind.isSome then refuse s 0x04 .inUse (byteAt body 0)
      else
        match k with
        | .programVideo => accept (s.openVideo v .programVideo) 0x04
        | .captionVideo => accept (s.openVideo v .captionVideo) 0x04
        | .programAudio =>
          match s.freeRing with
          | none => refuse s 0x04 .noRoom (byteAt body 0)
          | some r => accept (s.openAudio v r) 0x04

/-- R57, R58. -/
def manageCloseStream (body : List Byte) (s : State) : Managed :=
  withLength s 0x05 body 1 <|
    match streamOf (byteAt body 0) with
    | none => refuse s 0x05 .badIndex (byteAt body 0)
    | some v => accept (if s.streams[v].kind.isSome then s.closeStream v else s) 0x05

/-- R28, R154, R168. -/
def manageResetBerth (body : List Byte) (s : State) : Managed :=
  withLength s 0x06 body 1 <|
    if s.serving = false then refuse s 0x06 .wrongMode 0
    else if h : (byteAt body 0).toNat < 48 then
      if s.present ⟨_, h⟩ then accept (s.modBerth ⟨_, h⟩ s.joined) 0x06
      else refuse s 0x06 .absent (byteAt body 0)
    else refuse s 0x06 .badIndex (byteAt body 0)

/-- R48: the first selected field whose value lies outside its range, in the order of R44. -/
def firstBadField (selection : Byte) (values : List Byte) : Option (Fin 7) :=
  (List.finRange 7).find? fun i => selection.getLsbD i.val && !settingsFieldGood values i

/-- R48. -/
def manageSetBerthActive (body : List Byte) (s : State) : Managed :=
  withLength s 0x07 body 11 <|
    if s.serving = false then refuse s 0x07 .wrongMode 0
    else if h : (byteAt body 0).toNat < 48 then
      match firstBadField (byteAt body 1) (body.drop 2) with
      | some i => refuse s 0x07 .badValue (BitVec.ofNat 8 i.val)
      | none =>
        if s.present ⟨_, h⟩ then
          accept
            (s.modBerth ⟨_, h⟩ fun b =>
              { b with settings := overlaySettings (byteAt body 1) b.settings (settingsOf (body.drop 2)) })
            0x07
        else refuse s 0x07 .absent (byteAt body 0)
    else refuse s 0x07 .badIndex (byteAt body 0)

/-! ### Loading and reading tables (R158 to R160) -/

/-- R72: a class entry written; the ducked marks of the berths governed by that class are cleared when its duck
target changes, and releases are then evaluated (R81). -/
def State.loadClass (s : State) (i : Fin 4) (e : ClassEntry) : State :=
  let s1 := { s with classes := s.classes.set i e }
  if e.duckTarget = s.classes[i].duckTarget then s1
  else
    (s1.mapBerths fun _ b =>
      if (s.governingClass b).map Class.index = some i then { b with ducked := false } else b).evaluateReleases

/-- R127, R129: a chain entry written; a disable takes the steps of R129. -/
def State.loadChain (s : State) (c : ChainIx) (enabled : Bool) (budget ratio : Nat) : State :=
  let s1 := s.modChain c fun ch =>
    { ch with enabled := enabled, budget := clampBudget budget, ratio := clampRatio ratio }
  if s.chains[c].enabled && !enabled then s1.chainStops c else s1

/-- R157, R42, R13: the part settings written, with the effect of each field. -/
def State.loadSettings (s : State) (p : PartSettings) : State :=
  let s1 := s.modMgmt fun m => { m with settings := p }
  let s2 :=
    if p.modeQA = s.mgmt.settings.modeQA ∧ p.modeQB = s.mgmt.settings.modeQB then s1
    else (s1.countLevelChanges s.effectiveQA s.effectiveQB).evaluateAll
  s2.judgeOverheat

/-- R159: entry `i` of a table written, with its owner's follow-on; an index outside the table writes nothing. -/
def State.loadEntry (s : State) (t : Table) (i : Nat) (bs : List Byte) : State :=
  match t with
  | .berth => if h : i < 48 then s.loadBerth ⟨i, h⟩ (berthConfigOf bs) else s
  | .zone => if h : i < 16 then { s with zones := s.zones.set i (BitVec.ofNat 48 (fieldAt bs 0 6)) } else s
  | .profile =>
    if h : i < 4 then
      State.copyProfile
        { s with profiles := s.profiles.set i { day := settingsOf bs, night := settingsOf (bs.drop 9) } } ⟨i, h⟩
    else s
  | .cls => if h : i < 4 then s.loadClass ⟨i, h⟩ (classEntryOf bs) else s
  | .chain =>
    if h : i < 6 then s.loadChain ⟨i, h⟩ (byteAt bs 0 == 1) (fieldAt bs 1 2) (byteAt bs 3).toNat else s
  | .settings => s.loadSettings (partSettingsOf bs)
  | .stream => s
  | .channel => s

/-- The bytes of the `j`-th entry of a load. -/
def loadedEntry (t : Table) (entries : List Byte) (j : Nat) : List Byte :=
  (entries.drop (j * t.loadSize)).take t.loadSize

/-- R158, check 6: the first invalid entry of a load, in index order. -/
def firstBadEntry (t : Table) (entries : List Byte) (count : Nat) : Option Nat :=
  (List.range count).find? fun j => !entryGood t (loadedEntry t entries j)

/-- R159: the entries of a load written in ascending index order. -/
def State.loadAll (s : State) (t : Table) (first : Nat) (entries : List Byte) (count : Nat) : State :=
  (List.range count).foldl (fun s j => s.loadEntry t (first + j) (loadedEntry t entries j)) s

/-- R158, R159. -/
def manageLoadEntries (body : List Byte) (s : State) : Managed :=
  let first := (byteAt body 1).toNat
  let count := (byteAt body 2).toNat
  let entries := body.drop 3
  if body.length < 3 then refuse s 0x02 .badLength 0
  else
    match tableOf (byteAt body 0) with
    | none => refuse s 0x02 .badValue (byteAt body 0)
    | some t =>
      if t.loadable = false then refuse s 0x02 .readOnly (byteAt body 0)
      else if count = 0 ∨ entries.length ≠ count * t.loadSize then refuse s 0x02 .badLength 0
      else
        match outside t.entries first count with
        | some i => refuse s 0x02 .badIndex (BitVec.ofNat 8 i)
        | none =>
          if t = .zone ∧ first = 0 then refuse s 0x02 .readOnly 0
          else
            match firstBadEntry t entries count with
            | some j => refuse s 0x02 .badValue (BitVec.ofNat 8 (first + j))
            | none => accept (s.loadAll t first entries count) 0x02

/-- A range of READ ENTRIES. -/
structure ReadRange where
  table : Table
  code  : Byte
  first : Byte
  count : Byte
deriving DecidableEq, Repr

/-- R160, check 2: the ranges that a body names, or the first table code that names no table. -/
def readRanges (body : List Byte) : Nat → Except Byte (List ReadRange)
  | 0 => .ok []
  | n + 1 =>
    match tableOf (byteAt body 0) with
    | none => .error (byteAt body 0)
    | some t =>
      match readRanges (body.drop 3) n with
      | .error e => .error e
      | .ok rs => .ok ({ table := t, code := byteAt body 0, first := byteAt body 1, count := byteAt body 2 } :: rs)

/-- R160, check 3: the first index of the ranges that lies outside its table. -/
def readOutside (rs : List ReadRange) : Option Nat :=
  rs.findSome? fun r => outside r.table.entries r.first.toNat r.count.toNat

/-- R160, check 4: the size of the reply's payload. -/
def readReplySize (rs : List ReadRange) : Nat := 3 + (rs.map fun r => 3 + r.count.toNat * r.table.readSize).sum

/-- R160: the bytes of one range of the reply. -/
def State.rangeBytes (s : State) (r : ReadRange) : List Byte :=
  [r.code, r.first, r.count] ++
    (List.range r.count.toNat).flatMap fun j => s.entryBytes r.table (r.first.toNat + j)

/-- R160, R168. -/
def manageReadEntries (body : List Byte) (s : State) : Managed :=
  if body.length ≠ 3 ∧ body.length ≠ 6 ∧ body.length ≠ 9 ∧ body.length ≠ 12 then refuse s 0x03 .badLength 0
  else
    match readRanges body (body.length / 3) with
    | .error code => refuse s 0x03 .badValue code
    | .ok rs =>
      match readOutside rs with
      | some i => refuse s 0x03 .badIndex (BitVec.ofNat 8 i)
      | none =>
        if 1472 < readReplySize rs then refuse s 0x03 .badLength 0
        else accept s 0x03 0 (rs.flatMap s.rangeBytes)

/-! ### Modes -/

/-- R155: the steps of ENTER SERVICE. -/
def State.intoService (s : State) : State :=
  ((s.modMgmt fun m => { m with mode := .service }).enterServiceSettings).joinAll

/-- R92: a channel that is not IDLE enters IDLE. -/
def State.idleChannel (s : State) (a : ChannelIx) : State := if s.channels[a].busy then s.enterIdle a else s

/-- R156: the steps of ENTER CONFIGURATION. Its flush counts the entries it removes (log 29). -/
def State.intoConfiguration (s : State) : State :=
  ((((s.modMgmt fun m => { m with mode := .configuration }).idleChannel 0).idleChannel 1).emptyRings).flushAll

/-- R154, R155. -/
def manageEnterService (body : List Byte) (s : State) : Managed :=
  withLength s 0x0F body 0 <|
    if s.serving then refuse s 0x0F .wrongMode 0
    else if s.node.fault then refuse s 0x0F .wrongMode 1
    else accept s.intoService 0x0F

/-- R154, R156. -/
def manageEnterConfiguration (body : List Byte) (s : State) : Managed :=
  withLength s 0x10 body 0 <|
    if s.serving then accept s.intoConfiguration 0x10 else refuse s 0x10 .wrongMode 0

/-! ### Queries and RESTART -/

/-- The query that a BERTH QUERY body holds for position `p`. -/
def queryOf (body : List Byte) (p : PosIx) : Query :=
  { pos := p, code := byteAt body 2, arg := Vector.ofFn fun i => byteAt body (3 + i.val) }

/-- R136. -/
def manageBerthQuery (body : List Byte) (s : State) : Managed :=
  withLength s 0x11 body 11 <|
    if hc : (byteAt body 0).toNat < 6 then
      if hp : (byteAt body 1).toNat < 8 then
        if 4 ≤ (s.chains[(byteAt body 0).toNat]).queries.length then refuse s 0x11 .busy (byteAt body 0)
        else
          accept
            ((s.modChain ⟨_, hc⟩ fun ch => { ch with queries := ch.queries ++ [queryOf body ⟨_, hp⟩] }).startQueries
              ⟨_, hc⟩)
            0x11
      else refuse s 0x11 .badIndex (byteAt body 1)
    else refuse s 0x11 .badIndex (byteAt body 0)

/-- R139. -/
def manageFetchQueryResults (body : List Byte) (s : State) : Managed :=
  withLength s 0x12 body 1 <|
    if hc : (byteAt body 0).toNat < 6 then
      let rs := (s.chains[(byteAt body 0).toNat]).results
      accept ((s.modChain ⟨_, hc⟩ fun ch => { ch with results := [] }).startQueries ⟨_, hc⟩) 0x12 0
        (BitVec.ofNat 8 rs.length :: rs.flatMap resultBytes)
    else refuse s 0x12 .badIndex (byteAt body 0)

/-- R140. -/
def manageAbortQueries (body : List Byte) (s : State) : Managed :=
  withLength s 0x13 body 1 <|
    if hc : (byteAt body 0).toNat < 6 then
      accept (s.discardQueries ⟨_, hc⟩) 0x13 (BitVec.ofNat 8 (s.chains[(byteAt body 0).toNat]).discardable)
    else refuse s 0x13 .badIndex (byteAt body 0)

/-- R166: an accepted RESTART; the reset follows from the fate of its reply (log 12). -/
def manageRestart (body : List Byte) (s : State) : Managed :=
  withLength s 0x14 body 0
    (s, { code := 0x14, verdict := .accepted, detail := 0, body := [], restart := true })

/-! ### Any command -/

/-- What management does with a command. -/
def manageCommand (c : Command) (body : List Byte) (s : State) : Managed :=
  match c with
  | .identify => manageIdentify body s
  | .loadEntries => manageLoadEntries body s
  | .readEntries => manageReadEntries body s
  | .openStream => manageOpenStream body s
  | .closeStream => manageCloseStream body s
  | .resetBerth => manageResetBerth body s
  | .setBerthActive => manageSetBerthActive body s
  | .readCounters => manageReadCounters body s
  | .clearCounters => manageClearCounters body s
  | .readAttention => manageReadAttention body s
  | .clearAttention => manageClearAttention body s
  | .readCalls => manageReadCalls body s
  | .acknowledgeCalls => manageAcknowledgeCalls body s
  | .clearFaults => manageClearFaults body s
  | .enterService => manageEnterService body s
  | .enterConfiguration => manageEnterConfiguration body s
  | .berthQuery => manageBerthQuery body s
  | .fetchQueryResults => manageFetchQueryResults body s
  | .abortQueries => manageAbortQueries body s
  | .restart => manageRestart body s

/-- R153: a COMMAND payload judged: no code, a code that names no command, or the command. -/
def managePayload (payload : List Byte) (s : State) : Managed :=
  match payload with
  | [] => refuse s 0x00 .badLength 0
  | code :: body =>
    match commandOf code with
    | none => refuse s code .unknownCommand code
    | some c => manageCommand c body s

end Sys2Proof.Machine
end

