-- ==== Sys2Proof/Machine/CommandRows.lean ====
section
/-! DEFINITION. The meanings of the management rows (ch. 10): each is a COMMAND parcel that port U passed, taken as
R146 states, with what management does with its code and body. -/

namespace Sys2Proof.Machine

/-- UNKNOWN_COMMAND (R153): a payload without a code, or with a code that names no command. -/
def execUnknownCommand (h : Header) (payload : List Byte) (s : State) : Host.Outcome State Fault Refusal :=
  running s fun s => s.takeCommand h payload (managePayload payload)

/-- IDENTIFY (R161). -/
def execIdentify (h : Header) (body : List Byte) (s : State) : Host.Outcome State Fault Refusal :=
  running s fun s => s.takeCommand h (0x01 :: body) (manageIdentify body)

/-- LOAD_ENTRIES (R158, R159). -/
def execLoadEntries (h : Header) (body : List Byte) (s : State) : Host.Outcome State Fault Refusal :=
  running s fun s => s.takeCommand h (0x02 :: body) (manageLoadEntries body)

/-- READ_ENTRIES (R160). -/
def execReadEntries (h : Header) (body : List Byte) (s : State) : Host.Outcome State Fault Refusal :=
  running s fun s => s.takeCommand h (0x03 :: body) (manageReadEntries body)

/-- OPEN_STREAM (R56). -/
def execOpenStream (h : Header) (body : List Byte) (s : State) : Host.Outcome State Fault Refusal :=
  running s fun s => s.takeCommand h (0x04 :: body) (manageOpenStream body)

/-- CLOSE_STREAM (R57, R58). -/
def execCloseStream (h : Header) (body : List Byte) (s : State) : Host.Outcome State Fault Refusal :=
  running s fun s => s.takeCommand h (0x05 :: body) (manageCloseStream body)

/-- RESET_BERTH (R28, R168). -/
def execResetBerth (h : Header) (body : List Byte) (s : State) : Host.Outcome State Fault Refusal :=
  running s fun s => s.takeCommand h (0x06 :: body) (manageResetBerth body)

/-- SET_BERTH_ACTIVE (R48). -/
def execSetBerthActive (h : Header) (body : List Byte) (s : State) : Host.Outcome State Fault Refusal :=
  running s fun s => s.takeCommand h (0x07 :: body) (manageSetBerthActive body)

/-- READ_COUNTERS (R162). -/
def execReadCounters (h : Header) (body : List Byte) (s : State) : Host.Outcome State Fault Refusal :=
  running s fun s => s.takeCommand h (0x08 :: body) (manageReadCounters body)

/-- CLEAR_COUNTERS (R162). -/
def execClearCounters (h : Header) (body : List Byte) (s : State) : Host.Outcome State Fault Refusal :=
  running s fun s => s.takeCommand h (0x09 :: body) (manageClearCounters body)

/-- READ_ATTENTION (R164). -/
def execReadAttention (h : Header) (body : List Byte) (s : State) : Host.Outcome State Fault Refusal :=
  running s fun s => s.takeCommand h (0x0A :: body) (manageReadAttention body)

/-- CLEAR_ATTENTION (R164). -/
def execClearAttention (h : Header) (body : List Byte) (s : State) : Host.Outcome State Fault Refusal :=
  running s fun s => s.takeCommand h (0x0B :: body) (manageClearAttention body)

/-- READ_CALLS (R165). -/
def execReadCalls (h : Header) (body : List Byte) (s : State) : Host.Outcome State Fault Refusal :=
  running s fun s => s.takeCommand h (0x0C :: body) (manageReadCalls body)

/-- ACKNOWLEDGE_CALLS (R165, R38). -/
def execAcknowledgeCalls (h : Header) (body : List Byte) (s : State) : Host.Outcome State Fault Refusal :=
  running s fun s => s.takeCommand h (0x0D :: body) (manageAcknowledgeCalls body)

/-- CLEAR_FAULTS (R165, R11). -/
def execClearFaults (h : Header) (body : List Byte) (s : State) : Host.Outcome State Fault Refusal :=
  running s fun s => s.takeCommand h (0x0E :: body) (manageClearFaults body)

/-- ENTER_SERVICE (R155). -/
def execEnterService (h : Header) (body : List Byte) (s : State) : Host.Outcome State Fault Refusal :=
  running s fun s => s.takeCommand h (0x0F :: body) (manageEnterService body)

/-- ENTER_CONFIGURATION (R156). -/
def execEnterConfiguration (h : Header) (body : List Byte) (s : State) : Host.Outcome State Fault Refusal :=
  running s fun s => s.takeCommand h (0x10 :: body) (manageEnterConfiguration body)

/-- BERTH_QUERY (R136). -/
def execBerthQuery (h : Header) (body : List Byte) (s : State) : Host.Outcome State Fault Refusal :=
  running s fun s => s.takeCommand h (0x11 :: body) (manageBerthQuery body)

/-- FETCH_QUERY_RESULTS (R139). -/
def execFetchQueryResults (h : Header) (body : List Byte) (s : State) : Host.Outcome State Fault Refusal :=
  running s fun s => s.takeCommand h (0x12 :: body) (manageFetchQueryResults body)

/-- ABORT_QUERIES (R140). -/
def execAbortQueries (h : Header) (body : List Byte) (s : State) : Host.Outcome State Fault Refusal :=
  running s fun s => s.takeCommand h (0x13 :: body) (manageAbortQueries body)

/-- RESTART (R166). -/
def execRestart (h : Header) (body : List Byte) (s : State) : Host.Outcome State Fault Refusal :=
  running s fun s => s.takeCommand h (0x14 :: body) (manageRestart body)

end Sys2Proof.Machine
end

