-- ==== Sys2Proof/Machine/CycleRows.lean ====
section
/-! DEFINITION. The meanings of the cycle rows (ch. 1): marks and self-starts, the seconds tick, the acceptance of a
quiet level, MARK LOSS, and the upstream line signal.

SECONDS_TICK, QUIET_LINE_ACCEPTED and MARK_LOSS come about inside a cycle start, and the step that carries them runs
them. As commands of their own they act where State stands at their trigger, and change nothing elsewhere (log 2). -/

namespace Sys2Proof.Machine

/-- CYCLE_MARK (R2, R3, R146): the time named passes, with what falls due in it (R4, R14), and the mark parcel is
taken. At 1.1 ms exactly the mark is taken first; a sender gives R5's other order as a SELF_START before the mark
(log 1). -/
def execCycleMark (h : Header) (elapsed : Nat) (lines : LineSample) (payload : List Byte) (s : State) :
    Host.Outcome State Fault Refusal :=
  running s fun s => (s.passTime elapsed).takeMarkParcel h lines payload

/-- SELF_START (R4): the time since the last cycle start reaches 1.1 ms, with the BACKBONE DOWN that falls due before,
and the timer starts a cycle by itself. -/
def execSelfStart (lines : LineSample) (s : State) : Host.Outcome State Fault Refusal :=
  running s fun s => (s.passTime (selfStartTime - s.timer.sinceStart)).selfStart lines

/-- R8, R10, R34: a seconds tick taken: the divider wraps, the sensor is read, the idle timers advance. -/
def State.secondsTick (s : State) (sensor : Int) : State :=
  (State.readTemperature
    { s with timer := { s.timer with divider := 0 }, pins := { s.pins with sensor := sensor } } sensor).idleTick

/-- SECONDS_TICK (R8), where the divider stands one short of 1000. -/
def execSecondsTick (sensor : Int) (s : State) : Host.Outcome State Fault Refusal :=
  running s fun s => if s.timer.divider = 999 then s.secondsTick sensor else s

/-- R9: a sampler after an eighth consecutive sample; a sampler that does not stand before its eighth keeps its
values. -/
def eighthSample (p : Sampler) (level : Bool) : Sampler :=
  if p.run = 7 ∧ level ≠ p.accepted then { accepted := level, run := 0 } else p

/-- R9, R41: the eighth samples of the two lines taken, and the hand-over to the quiet regime block. -/
def State.acceptQuiet (s : State) (qa qb : Bool) : State :=
  State.quietHandOver
    { s with
      timer := { s.timer with qa := eighthSample s.timer.qa qa, qb := eighthSample s.timer.qb qb }
      pins := { s.pins with qa := qa, qb := qb } }
    s.effectiveQA s.effectiveQB

/-- QUIET_LINE_ACCEPTED (R9, R41). -/
def execQuietLineAccepted (qa qb : Bool) (s : State) : Host.Outcome State Fault Refusal :=
  running s fun s => s.acceptQuiet qa qb

/-- MARK_LOSS (R12), where the missed-mark run stands at 49: the run becomes 50 and the flag is raised. -/
def execMarkLoss (s : State) : Host.Outcome State Fault Refusal :=
  running s fun s => if s.timer.missedRun = 49 then s.missMark else s

/-- R14: the upstream line as the pins hold it. -/
def State.setUpstreamLine (s : State) (level : Bool) : State := { s with pins := { s.pins with upstreamLine := level } }

/-- R14: a period without a valid signal begins, unless one runs. -/
def State.signalLost (s : State) : State :=
  (s.setUpstreamLine false).modFaults fun f => { f with noSignal := some (f.noSignal.getD 0) }

/-- BACKBONE_SIGNAL_LOST (R14). -/
def execBackboneSignalLost (s : State) : Host.Outcome State Fault Refusal := running s State.signalLost

/-- R14: a running period without a signal reaches 10 ms, with the self-starts that fall due before, and the condition
comes to hold if it does not hold yet (log 16). -/
def State.signalGone (s : State) : State :=
  match s.faults.noSignal, s.faults.backboneDown with
  | none, _ => s
  | some _, true => s
  | some t, false => (s.passTime (signalLimit - t)).backboneFails

/-- BACKBONE_DOWN (R14). -/
def execBackboneDown (s : State) : Host.Outcome State Fault Refusal := running s State.signalGone

/-- R14: the signal returns: the period ends, and with it the condition; the flag stays. A period that has reached 10
ms at this moment has raised the flag (log 16). -/
def State.signalBack (s : State) : State :=
  let s1 := if s.signalLimitReached then s.backboneFails else s
  (s1.setUpstreamLine true).modFaults fun f => { f with noSignal := none, backboneDown := false }

/-- BACKBONE_SIGNAL_RETURN (R14). -/
def execBackboneSignalReturn (s : State) : Host.Outcome State Fault Refusal := running s State.signalBack

end Sys2Proof.Machine
end

