-- ==== Sys2Proof/Machine/MediaRows.lean ====
section
/-! DEFINITION. The meanings of the media rows (ch. 4, 5, 7) and of the cues (ch. 5). LEAD_EXPIRY and
ANNOUNCE_STALL come about inside a cycle start; as commands of their own they act where State stands at their trigger
(log 2). -/

namespace Sys2Proof.Machine

/-- PROGRAM_AUDIO (R59 to R62). -/
def execProgramAudio (h : Header) (payload : List Byte) (s : State) : Host.Outcome State Fault Refusal :=
  running s fun s => s.takeMedia (parcelOf .programAudio h payload) fun s => s.takeProgramAudio payload

/-- VIDEO_SEGMENT (R112 to R116). -/
def execVideoSegment (h : Header) (payload : List Byte) (s : State) : Host.Outcome State Fault Refusal :=
  running s fun s => s.takeMedia (parcelOf .videoSegment h payload) fun s => s.takeVideoSegment payload

/-- ANNOUNCE_AUDIO (R89). -/
def execAnnounceAudio (h : Header) (payload : List Byte) (s : State) : Host.Outcome State Fault Refusal :=
  running s fun s => s.takeMedia (parcelOf .announceAudio h payload) (State.takeAnnounceAudio payload)

/-- START_CUE (R74 to R78). -/
def execStartCue (h : Header) (cue : CueBody) (s : State) : Host.Outcome State Fault Refusal :=
  running s fun s => s.takeMedia (parcelOf .announceCue h (cueBytes 0x01 cue)) (State.startCueTaken cue)

/-- END_CUE (R86). -/
def execEndCue (h : Header) (cue : CueBody) (s : State) : Host.Outcome State Fault Refusal :=
  running s fun s => s.takeMedia (parcelOf .announceCue h (cueBytes 0x02 cue)) (State.endCueTaken cue)

/-- CANCEL_CUE (R87). -/
def execCancelCue (h : Header) (cue : CueBody) (s : State) : Host.Outcome State Fault Refusal :=
  running s fun s => s.takeMedia (parcelOf .announceCue h (cueBytes 0x03 cue)) (State.cancelCueTaken cue)

/-- CUE_BAD_PAYLOAD (R74, R167): a cue dropped whole for its length or its cue type. -/
def execCueBadPayload (h : Header) (payload : List Byte) (s : State) : Host.Outcome State Fault Refusal :=
  running s fun s => s.takeMedia (parcelOf .announceCue h payload) State.countBadPayload

/-- Whether the lead remaining of channel `a` reaches 0 at the next count (R82). -/
def State.leadExpires (s : State) (a : ChannelIx) : Bool :=
  s.serving && s.channels[a].state == .lead && decide (s.channels[a].lead ≤ 1)

/-- LEAD_EXPIRY (R82, R83). -/
def execLeadExpiry (a : ChannelIx) (s : State) : Host.Outcome State Fault Refusal :=
  running s fun s => if s.leadExpires a then s.countLead a else s

/-- Whether channel `a` reaches the stall limit at the next cycle without its block (R84, R85). -/
def State.stallExpires (s : State) (a : ChannelIx) : Bool :=
  s.serving && s.channels[a].state == .playing && !s.channels[a].ended &&
    (s.channels[a].held s.channels[a].nextSeq).isNone && decide (199 ≤ s.channels[a].stall)

/-- ANNOUNCE_STALL (R84, R85). -/
def execAnnounceStall (a : ChannelIx) (s : State) : Host.Outcome State Fault Refusal :=
  running s fun s => if s.stallExpires a then s.presentGap a else s

end Sys2Proof.Machine
end

