-- ==== Sys2Proof/Machine/PortRows.lean ====
section
/-! DEFINITION. The meanings of the port rows (ch. 9). -/

namespace Sys2Proof.Machine

/-- RECEIVE_CHECK_FAILURE (R144). -/
def execReceiveCheckFailure (port : Port) (clean : Bool) (bytes : List Byte) (s : State) :
    Host.Outcome State Fault Refusal :=
  running s fun s => s.dropFailed port clean bytes

/-- R146: a REPLY on port U, dropped and counted as wrong direction. -/
def State.replyArrives (s : State) : State :=
  s.receivedU.countU fun k => { k with wrongDirection := bump k.wrongDirection }

/-- WRONG_DIRECTION (R146). -/
def execWrongDirection (_h : Header) (_payload : List Byte) (s : State) : Host.Outcome State Fault Refusal :=
  running s State.replyArrives

/-- FORWARD_COMMAND (R146): a COMMAND to another target is queued for the through port. -/
def execForwardCommand (h : Header) (payload : List Byte) (s : State) : Host.Outcome State Fault Refusal :=
  running s fun s => s.takeCommand h payload (managePayload payload)

/-- THROUGH_ARRIVAL (R147). -/
def execThroughArrival (p : Parcel) (s : State) : Host.Outcome State Fault Refusal :=
  running s fun s => s.takeThrough p

/-- The line signal of port T as the pins hold it. -/
def State.setThroughLine (s : State) (level : Bool) : State := { s with pins := { s.pins with throughLine := level } }

/-- THROUGH_LINK_DOWN (R143). -/
def execThroughLinkDown (s : State) : Host.Outcome State Fault Refusal :=
  running s fun s => (s.setThroughLine false).modThru ThroughPort.down

/-- THROUGH_LINK_UP (R143). -/
def execThroughLinkUp (s : State) : Host.Outcome State Fault Refusal :=
  running s fun s => (s.setThroughLine true).modThru fun t => { t with link := true }

/-- THROUGH_SEND_COMPLETE (R148). -/
def execThroughSendComplete (s : State) : Host.Outcome State Fault Refusal :=
  running s fun s => s.modThru ThroughPort.sent

/-- UPSTREAM_SEND_COMPLETE (R150, R166). -/
def execUpstreamSendComplete (s : State) : Host.Outcome State Fault Refusal := running s State.upstreamSent

end Sys2Proof.Machine
end

