-- ==== Sys2Proof/Machine/ResetRows.lean ====
section
/-! DEFINITION. The meanings of the reset rows (R166, R7). A reset is taken when it begins, and the part is then held
until its end, at which the pins and lines are read (log 6, log 7). -/

namespace Sys2Proof.Machine

/-- POWER_ON_RESET (R166): the part is reset and held until the supply is good. -/
def execPowerOnReset (s : State) : Host.Outcome State Fault Refusal :=
  .next { s.resetNow with held := some .powerOn }

/-- RESET_PIN (R166): the part is reset and held for as long as the pin is. -/
def execResetPin (s : State) : Host.Outcome State Fault Refusal := .next { s.resetNow with held := some .pin }

/-- END_OF_RESET (R7, R166): every block holds its reset values, with the pins and lines as they are then found. -/
def execEndOfReset (pins : Pins) (s : State) : Host.Outcome State Fault Refusal :=
  .next { State.afterReset pins with pending := s.pending, draws := s.draws }

end Sys2Proof.Machine
end

