-- ==== Sys2Proof/Machine/Dispatch.lean ====
section
/-! DEFINITION. The dispatch: one arm per command, each one direct call of its meaning. -/

namespace Sys2Proof.Machine

/-- The effect of a command on everything but the queue. -/
def exec (i : Instr) (s : State) : Host.Outcome State Fault Refusal :=
  match i with
  | .cycleMark h elapsed lines payload => Sys2Proof.Machine.execCycleMark h elapsed lines payload s
  | .selfStart lines => Sys2Proof.Machine.execSelfStart lines s
  | .secondsTick sensor => Sys2Proof.Machine.execSecondsTick sensor s
  | .quietLineAccepted qa qb => Sys2Proof.Machine.execQuietLineAccepted qa qb s
  | .markLoss => Sys2Proof.Machine.execMarkLoss s
  | .backboneSignalLost => Sys2Proof.Machine.execBackboneSignalLost s
  | .backboneDown => Sys2Proof.Machine.execBackboneDown s
  | .backboneSignalReturn => Sys2Proof.Machine.execBackboneSignalReturn s
  | .programAudio h payload => Sys2Proof.Machine.execProgramAudio h payload s
  | .videoSegment h payload => Sys2Proof.Machine.execVideoSegment h payload s
  | .startCue h cue => Sys2Proof.Machine.execStartCue h cue s
  | .endCue h cue => Sys2Proof.Machine.execEndCue h cue s
  | .cancelCue h cue => Sys2Proof.Machine.execCancelCue h cue s
  | .leadExpiry a => Sys2Proof.Machine.execLeadExpiry a s
  | .announceStall a => Sys2Proof.Machine.execAnnounceStall a s
  | .announceAudio h payload => Sys2Proof.Machine.execAnnounceAudio h payload s
  | .chainFrameComplete r => Sys2Proof.Machine.execChainFrameComplete r s
  | .returnWindowClose c slots => Sys2Proof.Machine.execReturnWindowClose c slots s
  | .berthPresent b => Sys2Proof.Machine.execBerthPresent b s
  | .berthAbsent b => Sys2Proof.Machine.execBerthAbsent b s
  | .idleDim b => Sys2Proof.Machine.execIdleDim b s
  | .idleSleep b => Sys2Proof.Machine.execIdleSleep b s
  | .noAnswer c => Sys2Proof.Machine.execNoAnswer c s
  | .chainLinkDown c => Sys2Proof.Machine.execChainLinkDown c s
  | .chainLinkUp c => Sys2Proof.Machine.execChainLinkUp c s
  | .receiveCheckFailure port clean bytes => Sys2Proof.Machine.execReceiveCheckFailure port clean bytes s
  | .wrongDirection h payload => Sys2Proof.Machine.execWrongDirection h payload s
  | .forwardCommand h payload => Sys2Proof.Machine.execForwardCommand h payload s
  | .throughArrival p => Sys2Proof.Machine.execThroughArrival p s
  | .throughLinkDown => Sys2Proof.Machine.execThroughLinkDown s
  | .throughLinkUp => Sys2Proof.Machine.execThroughLinkUp s
  | .throughSendComplete => Sys2Proof.Machine.execThroughSendComplete s
  | .upstreamSendComplete => Sys2Proof.Machine.execUpstreamSendComplete s
  | .unknownCommand h payload => Sys2Proof.Machine.execUnknownCommand h payload s
  | .identify h body => Sys2Proof.Machine.execIdentify h body s
  | .loadEntries h body => Sys2Proof.Machine.execLoadEntries h body s
  | .readEntries h body => Sys2Proof.Machine.execReadEntries h body s
  | .openStream h body => Sys2Proof.Machine.execOpenStream h body s
  | .closeStream h body => Sys2Proof.Machine.execCloseStream h body s
  | .resetBerth h body => Sys2Proof.Machine.execResetBerth h body s
  | .setBerthActive h body => Sys2Proof.Machine.execSetBerthActive h body s
  | .readCounters h body => Sys2Proof.Machine.execReadCounters h body s
  | .clearCounters h body => Sys2Proof.Machine.execClearCounters h body s
  | .readAttention h body => Sys2Proof.Machine.execReadAttention h body s
  | .clearAttention h body => Sys2Proof.Machine.execClearAttention h body s
  | .readCalls h body => Sys2Proof.Machine.execReadCalls h body s
  | .acknowledgeCalls h body => Sys2Proof.Machine.execAcknowledgeCalls h body s
  | .clearFaults h body => Sys2Proof.Machine.execClearFaults h body s
  | .enterService h body => Sys2Proof.Machine.execEnterService h body s
  | .enterConfiguration h body => Sys2Proof.Machine.execEnterConfiguration h body s
  | .berthQuery h body => Sys2Proof.Machine.execBerthQuery h body s
  | .fetchQueryResults h body => Sys2Proof.Machine.execFetchQueryResults h body s
  | .abortQueries h body => Sys2Proof.Machine.execAbortQueries h body s
  | .restart h body => Sys2Proof.Machine.execRestart h body s
  | .powerOnReset => Sys2Proof.Machine.execPowerOnReset s
  | .resetPin => Sys2Proof.Machine.execResetPin s
  | .endOfReset pins => Sys2Proof.Machine.execEndOfReset pins s
  | .cueBadPayload h payload => Sys2Proof.Machine.execCueBadPayload h payload s

end Sys2Proof.Machine
end

