-- ==== Sys2Proof/Machine/Step.lean ====
section
/-! DEFINITION. One step of the block: the command at the front of the queue, or time passing on an empty queue. -/

namespace Sys2Proof.Machine

/-- A step on an empty queue: the part's time base runs by 0.1 ms; a part held in reset does nothing (log 1,
log 19). -/
def State.idle (s : State) : State := if s.held.isNone then s.passIdle else s

/-- One step: the command at the front of the queue taken with the queue's rest, or the block idles. -/
def step (s : State) : Host.Outcome State Fault Refusal :=
  match s.pending with
  | [] => .next s.idle
  | c :: cs => exec c { s with pending := cs }

/-- The state with the command that a word spells put at the front of its queue; unchanged where it spells none. -/
def State.withFetchWord (s : State) (nbits w : Nat) : State :=
  match decodeTableWord nbits w with
  | none => s
  | some c => { s with pending := c :: s.pending }

end Sys2Proof.Machine
end

