-- ==== Sys2Proof/WellFormed.lean ====
section
/-! DEFINITION. Well-formed commands: operands that the line can bring in the row's event. Every constructor keeps its
meaning on ill-formed operands as well; these checks say which commands the spec speaks of. -/

namespace Sys2Proof

/-- A parcel's payload is 0..1472 bytes (ch. 11, "Parcels"). -/
def payloadFits (payload : List Byte) : Bool := decide (payload.length ≤ 1472)

/-- The body of a COMMAND follows its code byte, so it is at most 1471 bytes. -/
def bodyFits (body : List Byte) : Bool := decide (body.length ≤ 1471)

/-- Whether a COMMAND payload names no command (R153): it is empty, or its code is not 01h..14h. -/
def namesNoCommand (payload : List Byte) : Bool :=
  match payload with
  | [] => true
  | code :: _ => decide (code = 0 ∨ 0x14#8 < code)

/-- Whether an ANNOUNCE CUE payload is of the wrong length, or of a cue type that is not listed (R74, R167). -/
def badCue (payload : List Byte) : Bool :=
  decide (payload.length ≠ 10) || !(payload.getD 1 0 == 1 || payload.getD 1 0 == 2 || payload.getD 1 0 == 3)

/-- At a cycle start a chain closes at most one return window (R134), so it is named at most once. -/
def returnsFit (lines : LineSample) : Bool := decide (lines.returns.map WindowReturn.chain).Nodup

/-- Whether a command is one that its row's event can bring. -/
def wellFormed (i : Instr) : Bool :=
  match i with
  | .cycleMark _ _ lines payload => payloadFits payload && returnsFit lines
  | .selfStart lines => returnsFit lines
  | .secondsTick _ => true
  | .quietLineAccepted _ _ => true
  | .markLoss => true
  | .backboneSignalLost => true
  | .backboneDown => true
  | .backboneSignalReturn => true
  | .programAudio _ payload => payloadFits payload
  | .videoSegment _ payload => payloadFits payload
  | .startCue _ _ => true
  | .endCue _ _ => true
  | .cancelCue _ _ => true
  | .leadExpiry _ => true
  | .announceStall _ => true
  | .announceAudio _ payload => payloadFits payload
  | .chainFrameComplete _ => true
  | .returnWindowClose _ _ => true
  | .berthPresent _ => true
  | .berthAbsent _ => true
  | .idleDim _ => true
  | .idleSleep _ => true
  | .noAnswer _ => true
  | .chainLinkDown _ => true
  | .chainLinkUp _ => true
  | .receiveCheckFailure _ clean bytes => (Machine.receiveFailure clean bytes).isSome
  | .wrongDirection _ payload => payloadFits payload
  | .forwardCommand h payload => payloadFits payload && h.target != 0xFF
  | .throughArrival p => payloadFits p.payload
  | .throughLinkDown => true
  | .throughLinkUp => true
  | .throughSendComplete => true
  | .upstreamSendComplete => true
  | .unknownCommand _ payload => payloadFits payload && namesNoCommand payload
  | .identify _ body => bodyFits body
  | .loadEntries _ body => bodyFits body
  | .readEntries _ body => bodyFits body
  | .openStream _ body => bodyFits body
  | .closeStream _ body => bodyFits body
  | .resetBerth _ body => bodyFits body
  | .setBerthActive _ body => bodyFits body
  | .readCounters _ body => bodyFits body
  | .clearCounters _ body => bodyFits body
  | .readAttention _ body => bodyFits body
  | .clearAttention _ body => bodyFits body
  | .readCalls _ body => bodyFits body
  | .acknowledgeCalls _ body => bodyFits body
  | .clearFaults _ body => bodyFits body
  | .enterService _ body => bodyFits body
  | .enterConfiguration _ body => bodyFits body
  | .berthQuery _ body => bodyFits body
  | .fetchQueryResults _ body => bodyFits body
  | .abortQueries _ body => bodyFits body
  | .restart _ body => bodyFits body
  | .powerOnReset => true
  | .resetPin => true
  | .endOfReset _ => true
  | .cueBadPayload _ payload => payloadFits payload && badCue payload

end Sys2Proof
end

