-- ==== Sys2Proof/Safety.lean ====
section
/-! DEFINITION. What counts as a safe run, and the laws that the spec states of the part: a step is safe when it ends
in a next state, and each law is a property of the state that every step keeps. Statements about the machine are
written with these. -/

namespace Sys2Proof.Machine

/-- A step is safe when it ends in a next state. -/
def Safe (s : State) : Prop := ∃ t, step s = .next t

/-! ### Laws of the berths -/

/-- The law of applied gains (R102): every berth's Ap and Ad lie within 0..256. -/
def GainsLaw (s : State) : Prop := ∀ b : BerthIx, s.berths[b].ap ≤ 256 ∧ s.berths[b].ad ≤ 256

/-- The law of absent berths (R24) for one record: ASLEEP, ungoverned, Ap 0 and Ad 256. -/
def Berth.Resting (r : Berth) : Prop :=
  r.awake = .asleep ∧ r.idle = 0 ∧ r.governing = none ∧ r.ducked = false ∧ r.ap = 0 ∧ r.ad = 256

/-- R21, R22, R24: the runs that go with each presence, and the law of absent berths. -/
def Berth.PresenceLaw (r : Berth) : Prop :=
  match r.presence with
  | .absent => r.Resting ∧ r.validRun = 0 ∧ r.missingRun = 0 ∧ r.headphone = false ∧ r.unitFault = false
  | .joining => r.Resting ∧ 1 ≤ r.validRun ∧ r.validRun ≤ 3 ∧ r.missingRun = 0
  | .present => r.validRun = 0 ∧ r.missingRun ≤ 15

/-- The law of absent berths, over the berth table. -/
def PresenceLaw (s : State) : Prop := ∀ b : BerthIx, s.berths[b].PresenceLaw

/-- R37: the call list holds each berth at most once, and only PRESENT berths. -/
def CallLaw (s : State) : Prop := s.calls.Nodup ∧ ∀ b ∈ s.calls, s.berths[b].presence = .present

/-- Ch. 2, "The Berth Record": a live selection holds none, or a stream that is open, of the right kind and in the
allowed set. -/
def SelectionLaw (s : State) : Prop :=
  ∀ b : BerthIx, ∀ v : StreamIx,
    (s.berths[b].audio = some v →
      s.streams[v].kind = some .programAudio ∧ s.berths[b].config.allowed.getLsbD v.val = true) ∧
    (s.berths[b].video = some v →
      s.streams[v].kind = some .programVideo ∧ s.berths[b].config.allowed.getLsbD v.val = true)

/-- The regime that a quiet source gives under two effective levels (R43). -/
def NightUnder (source : QuietSource) (qa qb : Bool) : Prop :=
  (source = .a ∧ qa = true) ∨ (source = .b ∧ qb = true) ∨ (source = .either ∧ (qa = true ∨ qb = true))

/-- R43: every berth's regime is the one that its quiet source gives under the two effective levels, since a regime is
evaluated at each event that could change it. -/
def RegimeLaw (s : State) : Prop :=
  ∀ b : BerthIx, s.berths[b].regime = .night ↔
    NightUnder s.berths[b].config.quietSource s.effectiveQA s.effectiveQB

/-! ### Laws of the rings, the channels and governing -/

/-- The two laws of the ring pool (R55): each stream that is OPEN as PROGRAM AUDIO owns a ring that no other owns, and
every block held is filed under its due cycle, 1..15 cycles ahead; a free ring is empty. -/
def RingLaw (s : State) : Prop :=
  (∀ v : StreamIx, s.streams[v].kind = some .programAudio ↔ s.streams[v].ring.isSome = true) ∧
  (∀ v : StreamIx, s.streams[v].kind = some .programAudio ↔ s.streams[v].presented ≠ .absent) ∧
  (∀ (v w : StreamIx) (r : RingIx), s.streams[v].ring = some r → s.streams[w].ring = some r → v = w) ∧
  (∀ (r : RingIx) (i : Fin 16) (d : Word16) (blk : ProgramBlock), s.rings[r][i] = some (d, blk) →
    i.val = d.toNat % 16 ∧ 1 ≤ cycleDistance d s.timer.cycle ∧ cycleDistance d s.timer.cycle ≤ 15) ∧
  (∀ r : RingIx, (∀ v : StreamIx, s.streams[v].ring ≠ some r) → ∀ i : Fin 16, s.rings[r][i] = none)

/-- R73, R88: what an IDLE channel record holds. -/
def Channel.Cleared (ch : Channel) : Prop :=
  ch.cls = none ∧ ch.reach = 0 ∧ ch.caption = none ∧ ch.leadOverride = none ∧ ch.lastSeq = none ∧ ch.lead = 0 ∧
    ch.stall = 0 ∧ ch.presented = .absent ∧ ∀ i : Fin 256, ch.ring[i] = none

/-- The laws of the channel record (R73): an IDLE channel is cleared; a busy one has a class, a lead only in LEAD and
a stall run below 200; each held block is filed under its sequence, 0..255 after the next expected one and not beyond
the last. -/
def Channel.Lawful (ch : Channel) : Prop :=
  (ch.state = .idle → ch.Cleared) ∧
  (ch.state ≠ .idle → ch.cls.isSome = true) ∧
  (ch.state = .lead → 1 ≤ ch.lead ∧ ch.lead ≤ 255) ∧
  (ch.state ≠ .lead → ch.lead = 0) ∧
  ch.stall < 200 ∧
  (ch.state ≠ .playing → ch.stall = 0) ∧
  ∀ (i : Fin 256) (q : Word16) (blk : SpeechBlock), ch.ring[i] = some (q, blk) →
    i.val = q.toNat % 256 ∧ seqOffset q ch.nextSeq ≤ 255 ∧
      ∀ l, ch.lastSeq = some l → (seqOffset q ch.nextSeq : Int) ≤ cycleDistance l ch.nextSeq

/-- The laws of both channel records. -/
def ChannelLaw (s : State) : Prop := ∀ a : ChannelIx, s.channels[a].Lawful

/-- Channel `a` competes for berth `b` with class `c`: it is busy and its reach holds the berth (R79). -/
def Claims (s : State) (a : ChannelIx) (b : BerthIx) (c : Class) : Prop :=
  s.channels[a].state ≠ .idle ∧ s.channels[a].reach.getLsbD b.val = true ∧ s.channels[a].cls = some c

/-- R79: `g` is the governing announcement of a PRESENT berth `b`: of the channels that compete for it the one of the
highest class, channel 0 when both have the same class, and none when none competes. -/
def Governs (s : State) (b : BerthIx) (g : Option ChannelIx) : Prop :=
  match g with
  | none => ∀ a c, ¬ Claims s a b c
  | some a =>
    ∃ c, Claims s a b c ∧ ∀ a' c', Claims s a' b c' → c.index < c'.index ∨ (c.index = c'.index ∧ a ≤ a')

/-- R79: every PRESENT berth is governed as the rule says, and no other berth is; a ducked mark stands only on a
governed berth (R103). -/
def GoverningLaw (s : State) : Prop :=
  (∀ a : ChannelIx, s.channels[a].state ≠ .idle → s.channels[a].cls.isSome = true) ∧
  ∀ b : BerthIx,
    (s.berths[b].presence = .present → Governs s b s.berths[b].governing) ∧
    (s.berths[b].presence ≠ .present → s.berths[b].governing = none) ∧
    (s.berths[b].ducked = true → s.berths[b].governing.isSome = true)

/-! ### Laws of the store, the chains and the ports -/

/-- How many video queue entries of all chains refer to slot `i`. -/
def slotReferences (s : State) (i : Fin 256) : Nat :=
  ((List.finRange 6).map fun c =>
    (s.chains[c].priority.filter fun e => e.slot = i).length +
      (s.chains[c].program.filter fun e => e.slot = i).length).sum

/-- The law of the segment store (R110): every slot's reference count equals the number of video queue entries that
refer to it, a slot is free exactly when that number is zero, and the count stays within 1..6. -/
def StoreLaw (s : State) : Prop :=
  ∀ i : Fin 256,
    match s.store[i] with
    | none => slotReferences s i = 0
    | some g => slotReferences s i = g.refs ∧ 1 ≤ g.refs ∧ g.refs ≤ 6

/-- The law of the video queues (R111), its capacity: no queue holds more than 32 entries. -/
def CapacityLaw (s : State) : Prop :=
  ∀ c : ChainIx, s.chains[c].priority.length ≤ 32 ∧ s.chains[c].program.length ≤ 32

/-- R25, R111, R129: a chain that is disabled or whose link is DOWN holds no video entry, no open window, no waiting
frame and no query in flight, and its berths are ABSENT. -/
def StoppedChainLaw (s : State) : Prop :=
  ∀ c : ChainIx, s.chains[c].enabled = false ∨ s.chains[c].link = false →
    s.chains[c].priority = [] ∧ s.chains[c].program = [] ∧ s.chains[c].wait = 0 ∧ s.chains[c].windows = [] ∧
      s.chains[c].waiting = none ∧ s.chains[c].inFlight = none ∧
      ∀ p : PosIx, s.berths[berthAt c p].presence = .absent

/-- The laws that hold in CONFIGURATION (R67, R92, R111): every channel is IDLE, every ring and every video queue is
empty. -/
def ConfigurationLaw (s : State) : Prop :=
  s.mgmt.mode = .configuration →
    (∀ a : ChannelIx, s.channels[a].state = .idle) ∧
    (∀ (r : RingIx) (i : Fin 16), s.rings[r][i] = none) ∧
    ∀ c : ChainIx, s.chains[c].priority = [] ∧ s.chains[c].program = []

/-- The law of the query engine (R135) for one chain, with the tokens and the waited windows within their ranges, and
no query left waiting that could start (R137). -/
def Chain.QueryLaw (ch : Chain) : Prop :=
  ch.queries.length ≤ 4 ∧ ch.results.length + (if ch.inFlight.isSome then 1 else 0) ≤ 4 ∧
    1 ≤ ch.nextToken ∧ ch.nextToken ≤ 15 ∧
    (∀ q, ch.inFlight = some q → 1 ≤ q.token ∧ q.token ≤ 15 ∧ q.waited < 8) ∧
    (ch.queries ≠ [] → ch.inFlight.isSome = true ∨ ch.results.length = 4)

/-- The law of the query engines. -/
def QueryLaw (s : State) : Prop := ∀ c : ChainIx, s.chains[c].QueryLaw

/-- R134: a chain has at most one return window open, since its next frame closes the window of the frame before. -/
def WindowLaw (s : State) : Prop := ∀ c : ChainIx, s.chains[c].windows.length ≤ 1

/-- R143, R148, R150: the forward queues keep their capacities; an idle upstream transmitter has nothing waiting, and
an idle through transmitter of a link that is UP likewise; a through link that is DOWN has nothing queued or on the
line. -/
def PortLaw (s : State) : Prop :=
  s.up.queue.length ≤ 8 ∧ s.thru.queue.length ≤ 16 ∧
    (s.up.sending = none → s.up.slot = none ∧ s.up.queue = []) ∧
    (s.thru.sending = none → s.thru.queue = []) ∧
    (s.thru.link = false → s.thru.queue = [] ∧ s.thru.sending = none)

/-! ### Laws of the part -/

/-- R11 to R14: a fault condition that holds has its flag raised. -/
def FaultLaw (s : State) : Prop :=
  (50 ≤ s.timer.missedRun → s.faults.flags.markLoss = true) ∧
  (s.faults.overheat = true → s.faults.flags.overheat = true) ∧
  (s.faults.backboneDown = true → s.faults.flags.backboneDown = true ∧ s.faults.noSignal.isSome = true)

/-- The ranges of the counted values (R4, R8, R9, R10, R14, R34, R111, R127, R157), and zone 0, which cannot be written
(R71). The time since the last cycle start stays within 1.1 ms, and a period without a signal within 10 ms (the model's
microseconds, logs 1 and 16). -/
def RangeLaw (s : State) : Prop :=
  s.timer.sinceStart ≤ 1100 ∧ (∀ x, s.faults.noSignal = some x → x ≤ 10000) ∧ s.timer.divider < 1000 ∧
    s.timer.qa.run ≤ 7 ∧ s.timer.qb.run ≤ 7 ∧ s.timer.missedRun ≤ 65535 ∧
    -40 ≤ s.faults.temperature ∧ s.faults.temperature ≤ 150 ∧
    60 ≤ s.mgmt.settings.threshold ∧ s.mgmt.settings.threshold ≤ 125 ∧
    (∀ b : BerthIx, s.berths[b].idle ≤ 1023) ∧
    (∀ c : ChainIx, s.chains[c].budget ≤ 10752 ∧ 1 ≤ s.chains[c].ratio ∧ s.chains[c].ratio ≤ 15 ∧
      s.chains[c].wait ≤ 15) ∧
    s.zones[0] = BitVec.allOnes 48

/-! ### The words of the statements -/

/-- R81, R82, R83: the record of channel `a` in `t`, after it evaluated there, on the record `ch`, its release. A channel
in DUCKING is released where no PRESENT berth that it governs is without the ducked mark: to LEAD with its override, else
with the lead of its class, or to PLAYING at once when that is 0. Every other channel stays. -/
def Released (t : State) (a : ChannelIx) (ch : Channel) : Prop :=
  let waits := ∃ b : BerthIx, t.berths[b].presence = .present ∧ t.berths[b].governing = some a ∧
    t.berths[b].ducked = false
  let lead := match ch.leadOverride, ch.cls with
    | some m, _ => m.val
    | none, some c => t.classes[c.index].lead.val
    | none, none => 0
  (ch.state ≠ .ducking ∨ waits → t.channels[a] = ch) ∧
  (ch.state = .ducking → ¬ waits →
    (lead = 0 → t.channels[a] = { ch with state := .playing, lead := 0, stall := 0, presented := .silence }) ∧
    (lead ≠ 0 → t.channels[a] = { ch with state := .lead, lead := lead }))

/-- R79, R81, R88: what the entry of channel `a` into IDLE leaves of berths and of the other channel. Every PRESENT
berth is governed anew, by no channel that is IDLE, and keeps its ducked mark only where its governing stays;
everything else of the berths stays, and the other channel evaluates its release. -/
def ChannelLeft (s t : State) (a : ChannelIx) : Prop :=
  Released t (otherChannel a) s.channels[otherChannel a] ∧
  ∀ b : BerthIx,
    (s.berths[b].presence = .present → t.berths[b].governing ≠ some a ∧ Governs t b t.berths[b].governing ∧
      (t.berths[b].ducked = true ↔ s.berths[b].ducked = true ∧ t.berths[b].governing = s.berths[b].governing) ∧
      t.berths[b] = { s.berths[b] with governing := t.berths[b].governing, ducked := t.berths[b].ducked }) ∧
    (s.berths[b].presence ≠ .present → t.berths[b] = s.berths[b])

/-- R21, R22: the presence and the two runs of a berth after one return result. -/
def presenceAfter (r : Berth) (valid : Bool) : Presence × Nat × Nat :=
  match r.presence, valid with
  | .absent, true => (.joining, 1, r.missingRun)
  | .absent, false => (.absent, r.validRun, r.missingRun)
  | .joining, true => if r.validRun < 3 then (.joining, r.validRun + 1, r.missingRun) else (.present, 0, r.missingRun)
  | .joining, false => (.absent, 0, 0)
  | .present, true => (.present, r.validRun, 0)
  | .present, false => if r.missingRun < 15 then (.present, r.validRun, r.missingRun + 1) else (.absent, 0, 0)

/-- R137: what the query engine of chain `c` makes of the record `ch`, which has no query in flight: it starts the
queries from the head of the queue. One toward a berth that is not PRESENT ends ABSENT at once; the first toward a
PRESENT berth is in flight under the next token; with 4 results held none starts. -/
def NextQueries (s : State) (c : ChainIx) (ch ch' : Chain) : Prop :=
  ∃ gone left : List Query, ch.queries = gone ++ left ∧
    (∀ q ∈ gone, s.berths[berthAt c q.pos].presence ≠ .present) ∧
    (gone = [] ∨ ch.results.length + gone.length ≤ 4) ∧
    let x : Chain := { ch with
      results := ch.results ++ gone.map fun q : Query =>
        ({ chain := c, pos := q.pos, code := q.code, outcome := .absent, answer := none } : QueryResult)
      counts := { ch.counts with absentOutcomes := addCount ch.counts.absentOutcomes gone.length } }
    (left = [] ∨ 4 ≤ x.results.length → ch' = { x with queries := left }) ∧
    ∀ n ns, left = n :: ns → x.results.length < 4 →
      s.berths[berthAt c n.pos].presence = .present ∧
      ch' = { x with
        queries := ns
        inFlight := some { query := n, token := ch.nextToken, placed := false, waited := 0 }
        nextToken := if ch.nextToken = 15 then 1 else ch.nextToken + 1
        counts := { x.counts with queriesSent := bump x.counts.queriesSent } }

/-- R138: the record `ch` of chain `c` whose query `q` in flight ends with an outcome, before the next one starts: its
result is appended, and no open window counts for a later query (the model's field for R138, log 9). -/
def queryEnded (ch : Chain) (c : ChainIx) (q : InFlight) (outcome : QueryOutcome) (answer : Option AnswerBytes) : Chain :=
  { ch with
    inFlight := none
    windows := ch.windows.map fun w => { w with judges := false }
    results := ch.results ++
      [{ chain := c, pos := q.query.pos, code := q.query.code, outcome := outcome, answer := answer }] }

/-- R138: a token of a valid return of position `p` taken by the query engine of chain `c`, from `s` to `t`; `judges` is
whether the closing window counts for the query in flight. Token 0 does nothing; one that answers the placed query of this
position ends it ANSWERED; any other is foreign. -/
def TokenTaken (s t : State) (c : ChainIx) (p : PosIx) (judges : Bool) (token : Byte) (answer : AnswerBytes) : Prop :=
  let ch := s.chains[c]
  let fits := fun q : InFlight => q.placed = true ∧ judges = true ∧ q.query.pos = p ∧ token.toNat = q.token
  (token = 0 → t = s) ∧
  (∀ q, ch.inFlight = some q → token ≠ 0 → fits q →
    t = { s with chains := s.chains.set c t.chains[c] } ∧
    NextQueries s c { queryEnded ch c q .answered (some answer) with
      counts := { ch.counts with answered := bump ch.counts.answered } } t.chains[c]) ∧
  (token ≠ 0 → (∀ q, ch.inFlight = some q → ¬ fits q) →
    t = { s with chains := s.chains.set c { ch with
      counts := { ch.counts with foreignTokens := bump ch.counts.foreignTokens } } })

/-- R23, R27: berth `b` becomes PRESENT, from `s` to `t`. In SERVICE it is join-initialised; PRESENCE is latched;
governing is recomputed and each channel evaluates its release; the presence gained is counted. -/
def BecomesPresent (s t : State) (b : BerthIx) : Prop :=
  let r := s.berths[b]
  let kept := fun (d : Option StreamIx) (k : StreamKind) =>
    d.filter fun v => decide (s.streams[v].kind = some k) && r.config.allowed.getLsbD v.val
  let x := { r with
    presence := .present, validRun := 0, governing := t.berths[b].governing, ducked := t.berths[b].ducked }
  t = { s with
    berths := t.berths, channels := t.channels
    chains := s.chains.set (chainOf b) { s.chains[chainOf b] with
      counts := { s.chains[chainOf b].counts with
        presenceGained := bump s.chains[chainOf b].counts.presenceGained } }
    mgmt := { s.mgmt with presence := s.mgmt.presence.set (chainOf b) true } } ∧
  (s.mgmt.mode = .configuration → t.berths[b] = x ∧
    (t.berths[b].ducked = true ↔ r.ducked = true ∧ t.berths[b].governing = r.governing)) ∧
  (s.mgmt.mode = .service → t.berths[b].ducked = false ∧ t.berths[b] = { x with
    audio := kept r.config.defaultAudio .programAudio, video := kept r.config.defaultVideo .programVideo
    level := r.config.defaultLevel, awake := (if r.regime = .day then .awake else .asleep)
    idle := 0, ap := 0, ad := 256 }) ∧
  (∀ b' : BerthIx, b' ≠ b → t.berths[b'] = { s.berths[b'] with
    governing := t.berths[b'].governing, ducked := t.berths[b'].ducked }) ∧
  (GoverningLaw s → Governs t b t.berths[b].governing ∧ ∀ b' : BerthIx, b' ≠ b → t.berths[b'] = s.berths[b']) ∧
  ∀ a : ChannelIx, Released t a s.channels[a]

/-- R21, R24: the record of a JOINING berth that enters ABSENT. -/
def joiningLeft (r : Berth) : Berth :=
  { r with presence := .absent, validRun := 0, missingRun := 0, headphone := false, unitFault := false }

/-- R24: the record of a PRESENT berth that enters ABSENT. -/
def presentLeft (r : Berth) : Berth :=
  { joiningLeft r with awake := .asleep, idle := 0, governing := none, ducked := false, ap := 0, ad := 256 }

/-- R24, R38: the PRESENT berth `b` enters ABSENT, from `s` to `t`. It leaves the call list; governing is recomputed and
each channel evaluates its release; a query in flight for it ends ABSENT; PRESENCE is latched and the loss counted. -/
def EntersAbsent (s t : State) (b : BerthIx) : Prop :=
  let ch := s.chains[chainOf b]
  t = { s with
    berths := t.berths, calls := s.calls.filter (· ≠ b), channels := t.channels
    chains := s.chains.set (chainOf b) t.chains[chainOf b]
    mgmt := { s.mgmt with presence := s.mgmt.presence.set (chainOf b) true } } ∧
  t.berths[b] = presentLeft s.berths[b] ∧
  (∀ b' : BerthIx, b' ≠ b → t.berths[b'] = { s.berths[b'] with
    governing := t.berths[b'].governing, ducked := t.berths[b'].ducked }) ∧
  (GoverningLaw s → ∀ b' : BerthIx, b' ≠ b → t.berths[b'] = s.berths[b']) ∧
  (∀ a : ChannelIx, Released t a s.channels[a]) ∧
  ((∀ q, ch.inFlight = some q → q.query.pos ≠ posOf b) →
    t.chains[chainOf b] = { ch with counts := { ch.counts with presenceLost := bump ch.counts.presenceLost } }) ∧
  ∀ q, ch.inFlight = some q → q.query.pos = posOf b →
    NextQueries t (chainOf b) { queryEnded ch (chainOf b) q .absent none with
      counts := { ch.counts with
        absentOutcomes := bump ch.counts.absentOutcomes, presenceLost := bump ch.counts.presenceLost } }
      t.chains[chainOf b]

/-- How many entries of a list refer to slot `i`. -/
def references (es : List VideoEntry) (i : Fin 256) : Nat := (es.filter fun e => e.slot = i).length

/-- R110, R121, R123: the segment store from `s` to `t` when `k i` references to each slot `i` are released. A slot keeps
its segment with so many references less, and is free when none is left; every other slot stays. -/
def SlotsReleased (s t : State) (k : Fin 256 → Nat) : Prop :=
  ∀ i : Fin 256,
    (s.store[i] = none ∨ k i = 0 → t.store[i] = s.store[i]) ∧
    ∀ g, s.store[i] = some g → k i ≠ 0 →
      t.store[i] = if g.refs ≤ k i then none else some { g with refs := g.refs - k i }

/-- R118, R121, R130: how many references to slot `i` the start of cycle `n` releases: those of the entries that the
chains which assemble a frame send or discard as late. -/
def takenAt (s : State) (n : Word16) (i : Fin 256) : Nat :=
  ((List.finRange 6).map fun c =>
    let ch := s.chains[c]
    if ch.enabled = true ∧ ch.link = true ∧ ch.waiting = none then
      references ((ch.assemble n).sent ++ (ch.assemble n).late) i
    else 0).sum

/-- R24, R25, R123, R163: what the stop of chain `c`, by its link or by a load, makes of everything but the chain's own
record, from `s` to `t`. Its PRESENT berths enter ABSENT and leave the call list, its JOINING berths go through the first
part alone, and PRESENCE is latched exactly when one was PRESENT; where one was, governing is recomputed and each channel
evaluates its release; the flush releases the references of its video entries. -/
def ChainStopped (s t : State) (c : ChainIx) : Prop :=
  (CallLaw s → t.calls = s.calls.filter fun b => chainOf b ≠ c) ∧
  (∀ c' : ChainIx, c' ≠ c → t.chains[c'] = s.chains[c']) ∧
  (∀ p : PosIx, let r := s.berths[berthAt c p]
    (r.presence = .absent → t.berths[berthAt c p] = r) ∧
    (r.presence = .joining → t.berths[berthAt c p] = joiningLeft r) ∧
    (r.presence = .present → t.berths[berthAt c p] = presentLeft r)) ∧
  (∀ b : BerthIx, chainOf b ≠ c → t.berths[b] = { s.berths[b] with
    governing := t.berths[b].governing, ducked := t.berths[b].ducked }) ∧
  (GoverningLaw s → ∀ b : BerthIx, chainOf b ≠ c → t.berths[b] = s.berths[b]) ∧
  (∀ c' : ChainIx, t.mgmt.presence[c'] = true ↔ s.mgmt.presence[c'] = true ∨
    (c' = c ∧ ∃ p : PosIx, s.berths[berthAt c p].presence = .present)) ∧
  ((∀ p : PosIx, s.berths[berthAt c p].presence ≠ .present) → t.channels = s.channels) ∧
  ((∃ p : PosIx, s.berths[berthAt c p].presence = .present) → ∀ a : ChannelIx, Released t a s.channels[a]) ∧
  SlotsReleased s t (references (s.chains[c].priority ++ s.chains[c].program))

/-- R14: the signal is valid, or its loss has raised BACKBONE DOWN, or the running period does not pass 10 ms within the
next `d` microseconds. -/
def SignalHolds (s : State) (d : Nat) : Prop :=
  ∀ x, s.faults.noSignal = some x → s.faults.backboneDown = false → x + d ≤ 10000

/-- The state `s` as the blocks find it once the start of cycle `n`, which `t` is after, is opened: the cycle timer and
the fault monitor have acted (R1, R16), a number that is not the successor has emptied the rings (R66), and a hand-over
of quiet levels before the mixer, at place 0 or 1, has set regimes and active settings (R51; log 3). -/
def State.opened (s t : State) (n : Word16) (place : Fin 5) : State :=
  { s with
    timer := t.timer, pins := t.pins, faults := t.faults, counts := t.counts
    rings := if n = s.timer.cycle + 1 then s.rings else Vector.replicate 16 .empty
    berths := if place < 2 then Vector.ofFn fun b =>
        { s.berths[b] with regime := t.berths[b].regime, settings := t.berths[b].settings }
      else s.berths }

/-- What the blocks make of an opened cycle start `u`, in order: the rings present (R64), the channels do their work
(R82 to R86), the mixer mixes (R97), and each channel evaluates its release on the marks handed over (R103). -/
def BlocksDone (u v : State) (n : Word16) : Prop :=
  let r := u.presentRings n
  let a := if u.mgmt.mode = .service then
      (r.channelCycle 0 r.channels[0].state).channelCycle 1 r.channels[1].state else r
  v = if u.mgmt.mode = .service then (a.mix.evaluateRelease 0).evaluateRelease 1 else a.mix

/-- R11, R13: the OVERHEAT raise count of `t`, which an event makes of `s`: 1 higher when the event raised the flag. -/
def overheatCount (s t : State) : Count :=
  if s.faults.flags.overheat = false ∧ t.faults.flags.overheat = true then bump s.counts.overheatRaises
  else s.counts.overheatRaises

/-- R53: the part counts of `s` after a change of regimes and levels from `s` to `t`: each level change and each berth
whose regime changes is counted, and no other count moves. -/
def regimesCounted (s t : State) : PartCounts :=
  { s.counts with
    qaChanges := if t.effectiveQA = s.effectiveQA then s.counts.qaChanges else bump s.counts.qaChanges
    qbChanges := if t.effectiveQB = s.effectiveQB then s.counts.qbChanges else bump s.counts.qbChanges
    regimeChanges := addCount s.counts.regimeChanges
      ((List.finRange 48).filter fun b => t.berths[b].regime ≠ s.berths[b].regime).length }

/-- R8, R10, R13: the fault monitor at a cycle start from `s` to `t`. At a seconds tick it reads the sensor within
−40..150 and judges OVERHEAT with its hysteresis of 5; at any other it keeps both. -/
def SensorRead (s t : State) (sensor : Int) : Prop :=
  (s.timer.divider + 1 < 1000 →
    t.faults.temperature = s.faults.temperature ∧ t.faults.overheat = s.faults.overheat ∧
    t.faults.flags.overheat = s.faults.flags.overheat ∧ t.counts.overheatRaises = s.counts.overheatRaises) ∧
  (1000 ≤ s.timer.divider + 1 →
    t.faults.temperature = max (-40) (min 150 sensor) ∧
    (s.faults.overheat = false →
      (t.faults.overheat = true ↔ (s.mgmt.settings.threshold : Int) ≤ t.faults.temperature)) ∧
    (s.faults.overheat = true →
      (t.faults.overheat = false ↔ t.faults.temperature ≤ (s.mgmt.settings.threshold : Int) - 5)) ∧
    (t.faults.flags.overheat = true ↔
      s.faults.flags.overheat = true ∨ (s.faults.overheat = false ∧ t.faults.overheat = true)) ∧
    t.counts.overheatRaises = overheatCount s t)

/-- R40, R41, R43, R45, R53: the quiet regime block at a cycle start from `s` to `t`. Where an effective level changes,
every berth is evaluated on the two new levels, and one whose regime changes receives the new regime's set of its
profile; elsewhere no regime and no setting changes. Level changes and regime changes are counted. -/
def LevelsTaken (s t : State) : Prop :=
  (t.effectiveQA = s.effectiveQA ∧ t.effectiveQB = s.effectiveQB → ∀ b : BerthIx,
    t.berths[b].regime = s.berths[b].regime ∧ t.berths[b].settings = s.berths[b].settings) ∧
  (t.effectiveQA ≠ s.effectiveQA ∨ t.effectiveQB ≠ s.effectiveQB → ∀ b : BerthIx,
    (t.berths[b].regime = .night ↔ NightUnder s.berths[b].config.quietSource t.effectiveQA t.effectiveQB) ∧
    t.berths[b].settings =
      if t.berths[b].regime = s.berths[b].regime then s.berths[b].settings
      else profileSet s.profiles[s.berths[b].config.profile] t.berths[b].regime) ∧
  t.counts.qaChanges = (regimesCounted s t).qaChanges ∧ t.counts.qbChanges = (regimesCounted s t).qbChanges ∧
  t.counts.regimeChanges = (regimesCounted s t).regimeChanges

/-- R34: the awake state and the idle seconds of a berth whose idle timer advances under the settings `x`. -/
def idleNext (r : Berth) (x : Settings) : Awake × Nat :=
  let n := min 1023 (r.idle + 1)
  if r.awake = .awake ∧ x.idleToDim ≠ 0 ∧ x.idleToDim.val ≤ n then (.dimmed, 0)
  else if r.awake = .dimmed ∧ x.idleToSleep ≠ 0 ∧ x.idleToSleep.val ≤ n then (.asleep, 0)
  else (r.awake, n)

/-- R34: an EMERGENCY announcement governs berth `b`. -/
def UnderEmergency (s : State) (b : BerthIx) : Prop :=
  ∃ a, s.berths[b].governing = some a ∧ s.channels[a].cls = some .emergency

/-- R8, R34: the idle timers at a cycle start from `s` to `t`. At a seconds tick in SERVICE the timer of every PRESENT
berth advances that is AWAKE or DIMMED and not governed by an EMERGENCY; at any other cycle start none does. A hand-over
of quiet levels at place 0 or 2 comes before the tick, and the tick may come before the channels do their work, but not
where a hand-over at place 2 comes between the mixer and it (R51; log 3). -/
def IdleTimers (s t : State) (place : Fin 5) : Prop :=
  (s.timer.divider + 1 < 1000 ∨ s.mgmt.mode ≠ .service → ∀ b : BerthIx,
    t.berths[b].awake = s.berths[b].awake ∧ t.berths[b].idle = s.berths[b].idle) ∧
  (1000 ≤ s.timer.divider + 1 → s.mgmt.mode = .service → GoverningLaw s →
    ∃ before : Bool, (place = 2 → before = false) ∧ ∀ b : BerthIx,
      let r := s.berths[b]
      let runs := r.presence = .present ∧ r.awake ≠ .asleep ∧ ¬ UnderEmergency (if before then s else t) b
      (runs → (t.berths[b].awake, t.berths[b].idle) =
        idleNext r (if place = 0 ∨ place = 2 then t.berths[b].settings else r.settings)) ∧
      (¬ runs → t.berths[b].awake = r.awake ∧ t.berths[b].idle = r.idle))

/-- `t` is after the start of cycle `n` from `s` and before any window closes, with the quiet hand-over at `place`
(log 3): the fault monitor, the quiet regime block and the idle timers have acted; streams, rings, channels, audio slots,
the mix-clip count of each chain and the rest of each berth are as the blocks made them (R64, R84, R97, R103, R106, R109);
the call list stands, and so do the counts of the video classifier (R126); the pins show the lines and the sensor as the
command brings them (log 22). -/
def CycleBlocks (s t : State) (lines : LineSample) (n : Word16) (place : Fin 5) : Prop :=
  t.calls = s.calls ∧ t.pins = { s.pins with qa := lines.qa, qb := lines.qb, sensor := lines.sensor } ∧
  SensorRead s t lines.sensor ∧ LevelsTaken s t ∧ IdleTimers s t place ∧
  t.counts.noDemand = s.counts.noDemand ∧ t.counts.unplaced = s.counts.unplaced ∧
  t.counts.storeFull = s.counts.storeFull ∧
  ∃ v, BlocksDone (s.opened t n place) v n ∧ t.streams = v.streams ∧ t.rings = v.rings ∧ t.slots = v.slots ∧
    t.channels = v.channels ∧ t.mgmt = v.mgmt ∧
    (∀ c : ChainIx, t.chains[c].counts.mixClips = v.chains[c].counts.mixClips) ∧
    ∀ b : BerthIx, t.berths[b] = { v.berths[b] with
      awake := t.berths[b].awake, idle := t.berths[b].idle
      regime := t.berths[b].regime, settings := t.berths[b].settings }

/-- R132: the control word of berth `b`, field by field. -/
def ControlsBerth (s : State) (b : BerthIx) (w : ControlWord) : Prop :=
  let r := s.berths[b]
  let emergency := ∃ a, r.governing = some a ∧ s.channels[a].cls = some .emergency
  (emergency → w.screen = .on ∧ w.brightness = 15) ∧
  (¬ emergency → r.awake = .asleep → w.screen = .off ∧ w.brightness = 0) ∧
  (¬ emergency → r.awake = .dimmed → w.screen = .dim ∧ w.brightness = r.settings.dimBrightness) ∧
  (¬ emergency → r.awake = .awake → w.screen = .on ∧ w.brightness = r.settings.onBrightness) ∧
  w.video = (if s.mgmt.mode = .service ∧ s.programHold = false ∧ r.presence = .present ∧ r.awake ≠ .asleep then r.video
    else none) ∧
  (∀ v, w.caption = some v ↔ ∃ a, r.governing = some a ∧
    (s.channels[a].state = .lead ∨ s.channels[a].state = .playing) ∧ s.channels[a].caption = some v ∧
    s.streams[v].kind = some .captionVideo) ∧
  w.alert = (r.governing.bind fun a => s.channels[a].cls) ∧ (w.lamp = true ↔ b ∈ s.calls)

/-- R118 to R121, R130, R133, R134 for chain `c` at the start of cycle `n`, from `s` to `t`, before any window closes. A
chain that is disabled or whose link is DOWN sends nothing; one whose previous frame still waits skips and counts its
frame; any other assembles a frame of cycle `n`, in which the query in flight is placed, and which goes onto an idle line
or waits. The frame shows the settings from before a hand-over at place 4 (R51; log 3). A frame begun is counted and opens
its window behind the windows that are open (log 9). -/
def SendsFrame (s t : State) (place : Fin 5) (c : ChainIx) (n : Word16) : Prop :=
  let ch := s.chains[c]
  let x := t.chains[c]
  let a := ch.assemble n
  x.results = ch.results ∧ x.queries = ch.queries ∧
  (ch.enabled = false ∨ ch.link = false ∨ ch.waiting ≠ none →
    x.line = ch.line ∧ x.waiting = ch.waiting ∧ x.priority = ch.priority ∧ x.program = ch.program ∧ x.wait = ch.wait ∧
    x.windows = ch.windows ∧ x.inFlight = ch.inFlight ∧ x.counts.framesSent = ch.counts.framesSent ∧
    x.counts.framesSkipped = (if ch.enabled = false ∨ ch.link = false then ch.counts.framesSkipped
      else bump ch.counts.framesSkipped)) ∧
  (ch.enabled = true → ch.link = true → ch.waiting = none →
    x.counts.framesSkipped = ch.counts.framesSkipped ∧
    x.priority = a.priority ∧ x.program = a.program ∧ x.wait = a.wait ∧
    x.counts.sent = addCount ch.counts.sent a.sent.length ∧
    x.counts.lateDiscards = addCount ch.counts.lateDiscards a.late.length ∧
    x.inFlight = (ch.inFlight.map fun q => { q with placed := true }) ∧
    ∃ f : ChainFrame, f.chain = c ∧ f.cycle = n ∧ f.mode = s.mgmt.mode ∧ f.query = ch.queryField ∧
      (∀ p : PosIx, f.audio[p] = t.slots[berthAt c p]) ∧
      (∀ p : PosIx, ControlsBerth
        { t with berths := if place = 4 then Vector.ofFn fun b => { t.berths[b] with settings := s.berths[b].settings }
          else t.berths } (berthAt c p) f.controls[p]) ∧
      (StoreLaw s → f.video = a.sent.map fun e =>
        { stream := e.stream, due := e.due, bytes := ((s.store[e.slot]).map Segment.bytes).getD [] }) ∧
      (ch.line = none → x.line = some f ∧ x.waiting = none ∧ x.counts.framesSent = bump ch.counts.framesSent ∧
        x.windows = ch.windows ++ [{ cycle := n, judges := ch.inFlight.isSome }]) ∧
      (ch.line ≠ none → x.line = ch.line ∧ x.waiting = some f ∧ x.counts.framesSent = ch.counts.framesSent ∧
        x.windows = ch.windows))

/-- A command that the part executes: to its node address, or broadcast (R146). -/
def Addressed (s : State) (h : Header) : Prop := h.target = s.node.address ∨ h.target = 0xFF

/-- What an executed command leaves on the ports when management answers with a code, an outcome, a detail byte and a
body (R146, R149). With the reply wanted and the slot empty, the reply stands in the slot or is on the line. Without a
reply, port U has counted the parcel and nothing else. A broadcast command is queued for the through port, and a
command to the node address is not. -/
def Answers (s t : State) (h : Header) (command : List Byte) (outcome detail : Byte) (body : List Byte) : Prop :=
  (h.target = s.node.address → replyWanted h = true → s.up.slot = none →
    ∃ r : Reply, (t.up.slot = some r ∨ t.up.sending = some (.reply r)) ∧ r.restart = false ∧
      r.parcel.target = h.origin ∧ r.parcel.origin = s.node.address ∧ r.parcel.kind = .reply ∧
      r.parcel.flags = replyFlags h (outcome == 0) (t.attentionReported != 0) ∧
      r.parcel.payload = [command.headD 0, outcome, detail] ++ body) ∧
  (h.target = s.node.address → replyWanted h = true → s.up.slot ≠ none →
    t.up.slot = s.up.slot ∧ t.up.counts.repliesDiscarded = bump s.up.counts.repliesDiscarded) ∧
  (h.target ≠ s.node.address ∨ replyWanted h = false → t.up = s.receivedU.up) ∧
  (h.target = s.node.address → t.thru = s.thru) ∧
  (h.target ≠ s.node.address → t.thru = s.thru.enqueue (parcelOf .command h command))

/-- A command refused (R153): nothing of the part has changed but its ports, which answer with the refusal. -/
def Refuses (s t : State) (h : Header) (command : List Byte) (outcome detail : Byte) : Prop :=
  t = { s with up := t.up, thru := t.thru } ∧ Answers s t h command outcome detail []

/-- R9: `q` is the sampler `p` after one sample. -/
def SampleStep (p : Sampler) (level : Bool) (q : Sampler) : Prop :=
  (level = p.accepted → q = { accepted := p.accepted, run := 0 }) ∧
  (level ≠ p.accepted → p.run < 7 → q = { accepted := p.accepted, run := p.run + 1 }) ∧
  (level ≠ p.accepted → p.run = 7 → q = { accepted := level, run := 0 })

/-- R113, R114: chain `c` demands stream `v`, which is OPEN as CAPTION VIDEO or (when `caption` is false) as PROGRAM
VIDEO. -/
def Demands (s : State) (caption : Bool) (v : StreamIx) (c : ChainIx) : Prop :=
  s.chains[c].enabled = true ∧ s.chains[c].link = true ∧
    if caption then
      ∃ (p : PosIx) (a : ChannelIx), s.berths[berthAt c p].presence = .present ∧
        s.berths[berthAt c p].governing = some a ∧
        (s.channels[a].state = .lead ∨ s.channels[a].state = .playing) ∧ s.channels[a].caption = some v
    else
      s.mgmt.mode = .service ∧ s.programHold = false ∧
        ∃ p : PosIx, s.berths[berthAt c p].presence = .present ∧ s.berths[berthAt c p].awake ≠ .asleep ∧
          s.berths[berthAt c p].video = some v

/-- The queue of a chain that a segment joins: priority for captions, program for program video (R111). -/
def Chain.matching (ch : Chain) (caption : Bool) : List VideoEntry := if caption then ch.priority else ch.program

/-- R115: chain `c` is kept for a segment of `len` bytes. -/
def Keeps (s : State) (caption : Bool) (v : StreamIx) (len : Nat) (c : ChainIx) : Prop :=
  Demands s caption v c ∧ len + 8 ≤ s.chains[c].budget ∧ (s.chains[c].matching caption).length < 32

/-- A return slot that is valid (R134): the marker 5Ah, and the sum of its 22 bytes 0 mod 256. -/
def ValidSlot (slot : Option SlotBytes) : Prop :=
  ∃ v, slot = some v ∧ v[0] = 0x5A ∧ (v.toList.map BitVec.toNat).sum % 256 = 0

end Sys2Proof.Machine
end

