-- ==== Sys2Proof/Certificates/Slice0/Obligations.lean ====
section
/-! DEFINITION. The statements for the provers: what the rules of the spec say the part does. -/

open Sys2Proof
open Sys2Proof.Machine

/-! ### The machine -/

/-- A step takes the command at the front of the queue and runs it with the queue's rest (log 18). -/
def Obligations.StepTakesFront : Prop :=
  ∀ (c : Instr) (cs : List Instr) (s : State), s.pending = c :: cs → step s = exec c { s with pending := cs }

/-- No command stops the part, and none touches the queue of waiting commands: the spec counts what it drops and
refuses by a reply (R144, R153). -/
def Obligations.EveryCommandCompletes : Prop :=
  ∀ (c : Instr) (s : State), ∃ t, exec c s = .next t ∧ t.pending = s.pending

/-- R4 by the part's own time base: on an empty queue, eleven idle steps of 0.1 ms (the model's choice, log 1) after a
cycle start bring the next self-start, with the successor number and the missed-mark run one higher. R4, R14: an idle
step that reaches 1.1 ms takes the self-start at its moment, so that the rest of the step counts for the next cycle,
and one that reaches 10 ms without a signal raises BACKBONE DOWN (both on the model's measures, logs 1 and 16). That
self-start is the one of SELF_START, on the lines and the sensor as State's pins show them, with no return slot (logs 1
and 9). -/
def Obligations.IdleSelfStarts : Prop :=
  (∀ s : State, s.held = none → s.pending = [] → s.timer.sinceStart = 0 →
    ∃ t : State, Host.Core.run Sys2Proof.core 11 s = .next t ∧ t.timer.cycle = s.timer.cycle + 1 ∧
      t.timer.sinceStart = 0 ∧ t.timer.missedRun = min 65535 (s.timer.missedRun + 1) ∧ t.pending = []) ∧
  ∀ s : State, s.held = none → s.pending = [] → s.timer.sinceStart ≤ 1100 →
    ∃ t : State, step s = .next t ∧ t.pending = [] ∧
      (1000 ≤ s.timer.sinceStart → t.timer.cycle = s.timer.cycle + 1 ∧ t.timer.sinceStart = s.timer.sinceStart - 1000 ∧
        t.timer.missedRun = min 65535 (s.timer.missedRun + 1)) ∧
      (1000 ≤ s.timer.sinceStart → s.faults.noSignal = none →
        ∃ u, exec (.selfStart { qa := s.pins.qa, qb := s.pins.qb, sensor := s.pins.sensor, returns := [] }) s = .next u ∧
          t = { u with timer := { u.timer with sinceStart := s.timer.sinceStart - 1000 } }) ∧
      (s.timer.sinceStart < 1000 → t.timer = { s.timer with sinceStart := s.timer.sinceStart + 100 }) ∧
      (∀ x, s.faults.noSignal = some x → s.faults.backboneDown = false →
        (x + 100 < 10000 → t.faults.noSignal = some (x + 100) ∧ t.faults.backboneDown = false) ∧
        (10000 ≤ x + 100 → t.faults.noSignal = some 10000 ∧ t.faults.backboneDown = true ∧
          t.faults.flags.backboneDown = true))

/-- R166 with the reset rules of the blocks (R7, R11, R19, R50, R68, R71, R93, R109, R125, R127, R128, R135, R142,
R151, R157, R163): what the three reset rows leave. POWER_ON_RESET and RESET_PIN hold the part with the same values
until END_OF_RESET, on the pins and lines as a command last named them (the model's choice, log 22), and END_OF_RESET
reads them anew (the model's reading, log 7); a part held in reset takes no other event (the model's reading, log 6).
R11 has every flag clear and R13 has OVERHEAT judged at the end of the reset: that the judgement may raise the flag and
count it there is the model's reading (log 23). -/
def Obligations.ResetRows : Prop :=
  (∀ (c : Instr) (s : State), s.held ≠ none → c ≠ .powerOnReset → c ≠ .resetPin → (∀ pins, c ≠ .endOfReset pins) →
    exec c s = .next s) ∧
  (∀ s : State, exec .powerOnReset s =
    .next { State.afterReset s.pins with held := some .powerOn, pending := s.pending, draws := s.draws }) ∧
  (∀ s : State, exec .resetPin s =
    .next { State.afterReset s.pins with held := some .pin, pending := s.pending, draws := s.draws }) ∧
  ∀ (pins : Pins) (s : State), ∃ t, exec (.endOfReset pins) s = .next t ∧ t.held = none ∧ t.pins = pins ∧
    t = { State.afterReset pins with pending := s.pending, draws := s.draws } ∧
    t.timer = { cycle := 0, sinceStart := 0, missedRun := 0, firstMark := true, divider := 0,
                qa := { accepted := false, run := 0 }, qb := { accepted := false, run := 0 } } ∧
    t.faults.temperature = max (-40) (min 150 pins.sensor) ∧
    (t.faults.overheat = true ↔ 95 ≤ t.faults.temperature) ∧ t.faults.flags.overheat = t.faults.overheat ∧
    t.faults.flags.markLoss = false ∧ t.faults.flags.backboneDown = false ∧ t.faults.backboneDown = false ∧
    t.faults.noSignal = (if pins.upstreamLine then none else some 0) ∧
    t.mgmt.mode = .configuration ∧
    t.mgmt.settings = { recoveryStep := 4, threshold := 95, faultMask := .clear, attentionMask := 0,
                        modeQA := .follow, modeQB := .follow } ∧
    (∀ c : ChainIx, t.mgmt.presence[c] = false) ∧ (∀ a : ChannelIx, t.mgmt.stall[a] = false) ∧
    t.mgmt.restartPending = false ∧ t.calls = [] ∧
    (∀ b : BerthIx, t.berths[b] =
      { config := { profile := 0, quietSource := .none, allowed := 0, alightStop := none, defaultAudio := none,
                    defaultVideo := none, defaultLevel := 8 }
        presence := .absent, validRun := 0, missingRun := 0, awake := .asleep, idle := 0, audio := none, video := none
        level := 8, headphone := false, unitFault := false, regime := .day
        settings := { headphoneCeiling := 13, speakerCeiling := 10, onBrightness := 15, dimBrightness := 8,
                      glideStep := 8, idleToDim := 0, idleToSleep := 0 }
        governing := none, ducked := false, ap := 0, ad := 256 }) ∧
    (∀ v : StreamIx, t.streams[v].kind = none ∧ t.streams[v].ring = none ∧ t.streams[v].presented = .absent) ∧
    (∀ (r : RingIx) (i : Fin 16), t.rings[r][i] = none) ∧
    t.zones[0] = BitVec.allOnes 48 ∧ (∀ z : Fin 16, z ≠ 0 → t.zones[z] = 0) ∧
    (∀ a : ChannelIx, t.channels[a] = .initial ∧ t.channels[a] =
      { state := .idle, cls := none, reach := 0, caption := none, leadOverride := none, nextSeq := 0, lastSeq := none
        lead := 0, stall := 0, presented := .absent, ring := t.channels[a].ring, counts := t.channels[a].counts } ∧
      ∀ i : Fin 256, t.channels[a].ring[i] = none) ∧
    (∀ i : Fin 256, t.store[i] = none) ∧
    (∀ c : ChainIx, t.chains[c].enabled = true ∧ t.chains[c].budget = 8192 ∧ t.chains[c].ratio = 4 ∧
      t.chains[c].link = pins.chainLines[c] ∧ t.chains[c].priority = [] ∧ t.chains[c].program = [] ∧
      t.chains[c].wait = 0 ∧ t.chains[c].nextToken = 1 ∧ t.chains[c].results = []) ∧
    t.node.strap = pins.straps ∧
    (t.node.fault = false ↔ pins.straps ∈ [3#4, 5#4, 6#4, 9#4, 10#4, 12#4]) ∧
    t.node.address = (if t.node.fault then 0xAF#8 else 0xA0#8 + pins.straps.setWidth 8) ∧
    t.up = { queue := [], slot := none, sending := none, lastServed := .forward, counts := t.up.counts } ∧
    t.thru = { link := pins.throughLine, queue := [], sending := none, counts := t.thru.counts } ∧
    (∀ i : Fin 4, t.profiles[i] =
      { day := { headphoneCeiling := 13, speakerCeiling := 10, onBrightness := 15, dimBrightness := 8, glideStep := 8,
                 idleToDim := 0, idleToSleep := 0 }
        night := { headphoneCeiling := 11, speakerCeiling := 6, onBrightness := 9, dimBrightness := 3, glideStep := 4,
                   idleToDim := 120, idleToSleep := 480 } }) ∧
    t.classes = #v[{ duckTarget := 0, duckStep := 0, level := 15, lead := 20 },
      { duckTarget := 32, duckStep := 16, level := 13, lead := 50 },
      { duckTarget := 64, duckStep := 8, level := 12, lead := 100 },
      { duckTarget := 128, duckStep := 4, level := 11, lead := 100 }] ∧
    (∀ b : BerthIx, t.slots[b] = ProgramBlock.silent ∧ ∀ i : Fin 48, t.slots[b][i] = { left := 0, right := 0 }) ∧
    (∀ k ∈ ({ t with counts := .zero } : State).groupCounts .part, k = 0) ∧
    t.counts = { PartCounts.zero with overheatRaises := if t.faults.overheat then 1 else 0 } ∧
    (∀ g : Group, g ≠ .part → ∀ k ∈ t.groupCounts g, k = 0) ∧
    (∀ c : ChainIx, t.chains[c].line = none ∧ t.chains[c].waiting = none ∧ t.chains[c].windows = [] ∧
      t.chains[c].queries = [] ∧ t.chains[c].inFlight = none)

/-! ### Cycles and faults -/

/-- R2, R3, R4: a CYCLE MARK is judged by the time since the last cycle start, 0.9 ms being 900 of the model's
microseconds (log 1). An early mark leaves only its count. A mark that starts a cycle gives its number, zeroes the run
and clears the first-mark indication; a number that is not the successor empties the rings, and is a slip when the
first-mark indication was clear. What it carries is CycleBlocks': the seconds tick with sensor, OVERHEAT and idle
timers, the hand-over of a level it accepts, and rings, channels, berths and slots as the blocks make them, in some
order where the spec leaves it open (log 3), with the mix-clip count of each chain as the mix of that cycle leaves it
(R106, R109). The windows that the new frames supersede close after that (WindowCloses; log 9), and change no fault, no
part count and no mix-clip count. The mark raises neither MARK LOSS nor, while the period without a signal stays within
10 ms, BACKBONE DOWN, and such a period grows by the time that passed. Either way the mark is queued for the through
port. Where more than 1.1 ms have passed, the self-start of that moment comes first, with no return slot taken in (log
9), and the mark is judged after it; a period without a signal that passes 10 ms on the way raises BACKBONE DOWN and
stands at 10 ms (R14; the model's measure, log 16). -/
def Obligations.MarkJudged : Prop :=
  ∀ (h : Header) (elapsed : Nat) (lines : LineSample) (payload : List Byte) (s : State), s.held = none →
    (1100 < s.timer.sinceStart + elapsed → s.timer.sinceStart ≤ 1100 →
      (∀ x, s.faults.noSignal = some x → s.faults.backboneDown = false → 10000 - x ≠ 1100 - s.timer.sinceStart) →
      ∃ u, exec (.selfStart { qa := s.pins.qa, qb := s.pins.qb, sensor := s.pins.sensor, returns := [] }) s = .next u ∧
        exec (.cycleMark h elapsed lines payload) s =
          exec (.cycleMark h (s.timer.sinceStart + elapsed - 1100) lines payload) u) ∧
    (∀ x, s.faults.noSignal = some x → s.faults.backboneDown = false → x ≤ 10000 → 10000 < x + elapsed →
      ∃ t, exec (.cycleMark h elapsed lines payload) s = .next t ∧ t.faults.backboneDown = true ∧
        t.faults.flags.backboneDown = true ∧ t.faults.noSignal = some 10000) ∧
    (payload.length = 2 → s.timer.sinceStart + elapsed < 900 → SignalHolds s elapsed →
      exec (.cycleMark h elapsed lines payload) s = .next { s with
        timer := { s.timer with sinceStart := s.timer.sinceStart + elapsed }
        faults := { s.faults with noSignal := s.faults.noSignal.map fun x => min 10000 (x + elapsed) }
        counts := { s.counts with earlyMarks := bump s.counts.earlyMarks }
        up := s.receivedU.up, thru := s.thru.enqueue (parcelOf .cycleMark h payload) }) ∧
    (payload.length = 2 → s.timer.sinceStart + elapsed ≤ 1100 →
    ∃ t, exec (.cycleMark h elapsed lines payload) s = .next t ∧
      t.thru = s.thru.enqueue (parcelOf .cycleMark h payload) ∧ t.up = s.receivedU.up ∧
      (900 ≤ s.timer.sinceStart + elapsed →
        (∃ u place, t = u.closeAllSuperseded lines.returns ∧ CycleBlocks s u lines (wordAt payload 0) place ∧
          t.counts = u.counts ∧ t.faults = u.faults ∧
          ∀ c : ChainIx, t.chains[c].counts.mixClips = u.chains[c].counts.mixClips) ∧
        t.faults.flags.markLoss = s.faults.flags.markLoss ∧ t.counts.markLossRaises = s.counts.markLossRaises ∧
        (SignalHolds s elapsed → t.faults.backboneDown = s.faults.backboneDown ∧
          t.faults.noSignal = (s.faults.noSignal.map fun x => min 10000 (x + elapsed)) ∧
          t.faults.flags.backboneDown = s.faults.flags.backboneDown ∧
          t.counts.backboneDownRaises = s.counts.backboneDownRaises) ∧
        t.timer.cycle = wordAt payload 0 ∧ t.timer.sinceStart = 0 ∧ t.timer.missedRun = 0 ∧
        t.timer.firstMark = false ∧
        t.timer.divider = (if s.timer.divider + 1 < 1000 then s.timer.divider + 1 else 0) ∧
        SampleStep s.timer.qa lines.qa t.timer.qa ∧ SampleStep s.timer.qb lines.qb t.timer.qb ∧
        t.counts.marksTaken = bump s.counts.marksTaken ∧ t.counts.earlyMarks = s.counts.earlyMarks ∧
        t.counts.selfStarts = s.counts.selfStarts ∧
        t.counts.slips =
          (if wordAt payload 0 ≠ s.timer.cycle + 1 ∧ s.timer.firstMark = false then bump s.counts.slips
            else s.counts.slips) ∧
        t.profiles = s.profiles ∧ t.zones = s.zones ∧ t.classes = s.classes ∧ t.node = s.node ∧
        t.mgmt.mode = s.mgmt.mode ∧ t.mgmt.settings = s.mgmt.settings ∧
        (wordAt payload 0 ≠ s.timer.cycle + 1 → ∀ (r : RingIx) (i : Fin 16), t.rings[r][i] = none)))

/-- R4, R8, R9, R12: a self-start gives the successor number, counts itself and the missed mark, leaves the first-mark
indication, advances the divider, samples the lines, and raises MARK LOSS when it brings the run to 50. R98: the slot
of a berth that is not PRESENT, and every slot in CONFIGURATION, is silent. R10, R13, R34, R41: what it carries is
CycleBlocks': the seconds tick with sensor, OVERHEAT and idle timers, the hand-over of a level it accepts, and rings,
channels, berths and slots as the blocks make them, in some order where the spec leaves it open (log 3), with the
mix-clip count of each chain as the mix of that cycle leaves it (R106, R109). The windows that the new frames supersede
close after that (WindowCloses; log 9), and change no fault, no part count and no mix-clip count. R14: a period without
a signal grows by the time that passed; one that passes 10 ms before the self-start raises BACKBONE DOWN; that the time
is whole microseconds, and that a period which reaches 10 ms exactly at the self-start is raised after it and not by
it, is the model's choice (log 1), and so is that the measure then stands at 10 ms (log 16). -/
def Obligations.SelfStartRule : Prop :=
  ∀ (lines : LineSample) (s : State), s.held = none →
    ∃ t, exec (.selfStart lines) s = .next t ∧
      t.timer.cycle = s.timer.cycle + 1 ∧ t.timer.sinceStart = 0 ∧
      t.timer.missedRun = min 65535 (s.timer.missedRun + 1) ∧ t.timer.firstMark = s.timer.firstMark ∧
      t.timer.divider = (if s.timer.divider + 1 < 1000 then s.timer.divider + 1 else 0) ∧
      SampleStep s.timer.qa lines.qa t.timer.qa ∧ SampleStep s.timer.qb lines.qb t.timer.qb ∧
      t.counts.selfStarts = bump s.counts.selfStarts ∧ t.counts.marksTaken = s.counts.marksTaken ∧
      t.counts.earlyMarks = s.counts.earlyMarks ∧ t.counts.slips = s.counts.slips ∧
      (s.timer.missedRun = 49 → t.faults.flags.markLoss = true ∧
        t.counts.markLossRaises =
          (if s.faults.flags.markLoss then s.counts.markLossRaises else bump s.counts.markLossRaises)) ∧
      (s.timer.missedRun ≠ 49 → t.faults.flags.markLoss = s.faults.flags.markLoss ∧
        t.counts.markLossRaises = s.counts.markLossRaises) ∧
      (∀ b : BerthIx, s.mgmt.mode ≠ .service ∨ s.berths[b].presence ≠ .present →
        t.slots[b] = ProgramBlock.silent) ∧
      (∃ u place, t = u.closeAllSuperseded lines.returns ∧ CycleBlocks s u lines (s.timer.cycle + 1) place ∧
        t.counts = u.counts ∧ t.faults = u.faults ∧
        ∀ c : ChainIx, t.chains[c].counts.mixClips = u.chains[c].counts.mixClips) ∧
      (SignalHolds s (1100 - s.timer.sinceStart) → t.faults.backboneDown = s.faults.backboneDown ∧
        t.faults.noSignal = (s.faults.noSignal.map fun x => min 10000 (x + (1100 - s.timer.sinceStart))) ∧
        t.faults.flags.backboneDown = s.faults.flags.backboneDown ∧
        t.counts.backboneDownRaises = s.counts.backboneDownRaises) ∧
      (¬ SignalHolds s (1100 - s.timer.sinceStart) → (∀ x, s.faults.noSignal = some x → x ≤ 10000) →
        t.faults.backboneDown = true ∧
        t.faults.flags.backboneDown = true ∧ t.faults.noSignal = some 10000 ∧
        t.counts.backboneDownRaises =
          (if s.faults.flags.backboneDown then s.counts.backboneDownRaises else bump s.counts.backboneDownRaises)) ∧
      t.up = s.up ∧ t.thru = s.thru ∧ t.profiles = s.profiles ∧ t.zones = s.zones ∧
      t.classes = s.classes ∧ t.node = s.node ∧ t.mgmt.mode = s.mgmt.mode ∧ t.mgmt.settings = s.mgmt.settings

/-- R8, R10, R13, R34: a seconds tick wraps the divider, reads the sensor within −40..150, judges OVERHEAT with its
hysteresis of 5, and in SERVICE advances the idle timer of every PRESENT berth that is AWAKE or DIMMED and not governed
by an EMERGENCY: at its idle-to-dim an AWAKE berth becomes DIMMED, and at its idle-to-sleep a DIMMED one ASLEEP, with
idle seconds 0. The other flags, the running period without a signal and the BACKBONE DOWN condition stay as they were.
IDLE_DIM and IDLE_SLEEP do that to one berth and change nothing else. -/
def Obligations.SecondsTickRule : Prop :=
  (∀ (v : Int) (s : State), s.held = none → s.timer.divider = 999 →
    ∃ t, exec (.secondsTick v) s = .next t ∧
      t = { s with timer := { s.timer with divider := 0 }, pins := { s.pins with sensor := v }, faults := t.faults,
                   counts := t.counts, berths := t.berths } ∧
      t.faults.temperature = max (-40) (min 150 v) ∧
      (s.faults.overheat = false →
        (t.faults.overheat = true ↔ (s.mgmt.settings.threshold : Int) ≤ t.faults.temperature)) ∧
      (s.faults.overheat = true →
        (t.faults.overheat = false ↔ t.faults.temperature ≤ (s.mgmt.settings.threshold : Int) - 5)) ∧
      (t.faults.flags.overheat = true ↔
        s.faults.flags.overheat = true ∨ (s.faults.overheat = false ∧ t.faults.overheat = true)) ∧
      t.faults.flags.markLoss = s.faults.flags.markLoss ∧
      t.faults.flags.backboneDown = s.faults.flags.backboneDown ∧
      t.faults.noSignal = s.faults.noSignal ∧ t.faults.backboneDown = s.faults.backboneDown ∧
      t.counts = { s.counts with overheatRaises := overheatCount s t } ∧
      ∀ b : BerthIx, let r := s.berths[b]; let n := min 1023 (r.idle + 1)
        t.berths[b] =
          if s.mgmt.mode = .service ∧ r.presence = .present ∧ r.awake ≠ .asleep ∧
              ¬ (∃ a, r.governing = some a ∧ s.channels[a].cls = some .emergency) then
            if r.awake = .awake ∧ r.settings.idleToDim ≠ 0 ∧ r.settings.idleToDim.val ≤ n then
              { r with awake := .dimmed, idle := 0 }
            else if r.awake = .dimmed ∧ r.settings.idleToSleep ≠ 0 ∧ r.settings.idleToSleep.val ≤ n then
              { r with awake := .asleep, idle := 0 }
            else { r with idle := n }
          else r) ∧
  ∀ (b : BerthIx) (s : State), s.held = none → s.mgmt.mode = .service → s.berths[b].presence = .present →
    (∀ a, s.berths[b].governing = some a → s.channels[a].cls ≠ some .emergency) →
    (s.berths[b].awake = .awake → s.berths[b].settings.idleToDim ≠ 0 →
      s.berths[b].settings.idleToDim.val ≤ s.berths[b].idle + 1 →
      exec (.idleDim b) s =
        .next { s with berths := s.berths.set b { s.berths[b] with awake := .dimmed, idle := 0 } }) ∧
    (s.berths[b].awake = .dimmed → s.berths[b].settings.idleToSleep ≠ 0 →
      s.berths[b].settings.idleToSleep.val ≤ s.berths[b].idle + 1 →
      exec (.idleSleep b) s =
        .next { s with berths := s.berths.set b { s.berths[b] with awake := .asleep, idle := 0 } })

/-- R9, R40, R41, R43, R45, R53: the acceptance of new levels. Each line that stands before its eighth sample takes the
level it shows; if an effective level changes, every berth is evaluated once on the two new levels, and one whose
regime changes receives the new regime's set of its profile. Level changes and regime changes are counted, and no other
part count moves. R40: an effective level is the accepted level of the line under FOLLOW, active under FORCE ON and
inactive under FORCE OFF; R45: the set of a regime in a profile is its day set or its night set. -/
def Obligations.QuietAccepted : Prop :=
  (∀ s : State,
    s.effectiveQA = (match s.mgmt.settings.modeQA with
      | .follow => s.timer.qa.accepted | .forceOn => true | .forceOff => false) ∧
    s.effectiveQB = (match s.mgmt.settings.modeQB with
      | .follow => s.timer.qb.accepted | .forceOn => true | .forceOff => false)) ∧
  (∀ p : Profile, profileSet p .day = p.day ∧ profileSet p .night = p.night) ∧
  ∀ (qa qb : Bool) (s : State), s.held = none →
    (s.timer.qa.run = 7 ∧ qa ≠ s.timer.qa.accepted) ∨ (s.timer.qb.run = 7 ∧ qb ≠ s.timer.qb.accepted) →
    ∃ t, exec (.quietLineAccepted qa qb) s = .next t ∧
      t = { s with timer := { s.timer with qa := t.timer.qa, qb := t.timer.qb },
                   pins := { s.pins with qa := qa, qb := qb }, counts := t.counts, berths := t.berths } ∧
      (s.timer.qa.run = 7 ∧ qa ≠ s.timer.qa.accepted → t.timer.qa = { accepted := qa, run := 0 }) ∧
      (¬ (s.timer.qa.run = 7 ∧ qa ≠ s.timer.qa.accepted) → t.timer.qa = s.timer.qa) ∧
      (s.timer.qb.run = 7 ∧ qb ≠ s.timer.qb.accepted → t.timer.qb = { accepted := qb, run := 0 }) ∧
      (¬ (s.timer.qb.run = 7 ∧ qb ≠ s.timer.qb.accepted) → t.timer.qb = s.timer.qb) ∧
      (t.effectiveQA = s.effectiveQA ∧ t.effectiveQB = s.effectiveQB → t.berths = s.berths ∧ t.counts = s.counts) ∧
      (t.effectiveQA ≠ s.effectiveQA ∨ t.effectiveQB ≠ s.effectiveQB → ∀ b : BerthIx,
        (t.berths[b].regime = .night ↔ NightUnder s.berths[b].config.quietSource t.effectiveQA t.effectiveQB) ∧
        (t.berths[b].regime = s.berths[b].regime → t.berths[b] = s.berths[b]) ∧
        (t.berths[b].regime ≠ s.berths[b].regime →
          t.berths[b] = { s.berths[b] with
            regime := t.berths[b].regime
            settings := profileSet s.profiles[s.berths[b].config.profile] t.berths[b].regime })) ∧
      t.counts = regimesCounted s t

/-- R12, R14, R11: the fault rows. MARK LOSS is raised at a run of 49 that becomes 50; a period without an upstream
signal begins when the signal is lost, raises BACKBONE DOWN when it reaches 10 ms, and ends when the signal returns,
with the flag left as it stands; one that ends as it reaches 10 ms raises the flag too. A flag already raised is not
counted again. BACKBONE_DOWN lets the time pass that its period still lacks (log 16). -/
def Obligations.FaultRows : Prop :=
  (∀ s : State, s.held = none → s.timer.missedRun = 49 → ∃ t, exec .markLoss s = .next t ∧
    t = { s with
      timer := { s.timer with missedRun := 50 }
      faults := { s.faults with flags := { s.faults.flags with markLoss := true } }
      counts := { s.counts with
        markLossRaises :=
          if s.faults.flags.markLoss then s.counts.markLossRaises else bump s.counts.markLossRaises } }) ∧
  (∀ s : State, s.held = none → s.faults.noSignal = none → ∃ t, exec .backboneSignalLost s = .next t ∧
    t = { s with pins := { s.pins with upstreamLine := false }, faults := { s.faults with noSignal := some 0 } }) ∧
  (∀ (x : Nat) (s : State), s.held = none → s.faults.noSignal = some x → s.faults.backboneDown = false →
    ∃ t, exec .backboneDown s = .next t ∧ t.faults.noSignal = some 10000 ∧ t.faults.backboneDown = true ∧
      t.faults.flags.backboneDown = true ∧
    (s.timer.sinceStart + (10000 - x) ≤ 1100 → t = { s with
      timer := { s.timer with sinceStart := s.timer.sinceStart + (10000 - x) }
      faults := { s.faults with
        noSignal := some 10000, backboneDown := true, flags := { s.faults.flags with backboneDown := true } }
      counts := { s.counts with
        backboneDownRaises :=
          if s.faults.flags.backboneDown then s.counts.backboneDownRaises
          else bump s.counts.backboneDownRaises } })) ∧
  (∀ s : State, s.held = none → ∃ t, exec .backboneSignalReturn s = .next t ∧
    (let due := s.faults.noSignal = some 10000 ∧ s.faults.backboneDown = false
     t = { s with
      pins := { s.pins with upstreamLine := true }
      faults := { s.faults with
        noSignal := none, backboneDown := false
        flags := if due then { s.faults.flags with backboneDown := true } else s.faults.flags }
      counts := if due ∧ s.faults.flags.backboneDown = false then
          { s.counts with backboneDownRaises := bump s.counts.backboneDownRaises } else s.counts }))

/-- R11 over the whole machine: a raised fault flag stays raised through every command but CLEAR FAULTS and the rows
that can reset the part. A forwarded command is one to another target, and an unknown command names none. -/
def Obligations.RaisedFlagsStay : Prop :=
  ∀ (c : Instr) (s t : State), exec c s = .next t →
    (∀ h body, c ≠ .clearFaults h body) → (∀ h body, c ≠ .restart h body) → c ≠ .upstreamSendComplete →
    c ≠ .powerOnReset → c ≠ .resetPin → (∀ pins, c ≠ .endOfReset pins) →
    (∀ h payload, c = .forwardCommand h payload → ¬ Addressed s h) →
    (∀ h code body, c = .unknownCommand h (code :: body) → code = 0 ∨ 0x14#8 < code) →
    (s.faults.flags.markLoss = true → t.faults.flags.markLoss = true) ∧
    (s.faults.flags.overheat = true → t.faults.flags.overheat = true) ∧
    (s.faults.flags.backboneDown = true → t.faults.flags.backboneDown = true)

/-! ### Media parcels and cues -/

/-- R60, R74, R89, R112, R146: the media parcels that reach no block. In CONFIGURATION every one of them is counted as
not in service. In SERVICE a parcel of the wrong shape is counted under bad payload, one for a stream that is not open
as its kind under unused stream, and a video segment outside 1..1000 cycles under late or early. A mark that is not 2
bytes long is counted under bad payload in both modes. Nothing else changes but the through port, for which every one
is queued, and the time that a mark's command brings (the model's, log 1). The ten bytes of a cue stand as ch. 11 gives
them. That an empty PROGRAM AUDIO payload counts as unused stream is the model's reading (log 11). -/
def Obligations.MediaNotTaken : Prop :=
  (∀ (type : Byte) (q : CueBody),
    let bs := cueBytes type q
    bs.length = 10 ∧ bs.take 6 = [q.channel, type, q.cls, q.zone, q.stop, q.caption] ∧ wordAt bs 6 = q.sequence ∧
      wordAt bs 8 = q.leadOverride) ∧
  (∀ (h : Header) (payload : List Byte) (cue : CueBody) (s : State),
    s.held = none → s.mgmt.mode = .configuration →
    ∀ (c : Instr) (p : Parcel),
      (c, p) ∈ [(Instr.programAudio h payload, parcelOf .programAudio h payload),
        (Instr.videoSegment h payload, parcelOf .videoSegment h payload),
        (Instr.announceAudio h payload, parcelOf .announceAudio h payload),
        (Instr.startCue h cue, parcelOf .announceCue h (cueBytes 1 cue)),
        (Instr.endCue h cue, parcelOf .announceCue h (cueBytes 2 cue)),
        (Instr.cancelCue h cue, parcelOf .announceCue h (cueBytes 3 cue)),
        (Instr.cueBadPayload h payload, parcelOf .announceCue h payload)] →
      exec c s = .next { s with
        up := { s.up with counts := { s.up.counts with
          receive := { s.up.counts.receive with received := bump s.up.counts.receive.received }
          notInService := bump s.up.counts.notInService } }
        thru := s.thru.enqueue p }) ∧
  (∀ (h : Header) (s : State), s.held = none → s.mgmt.mode = .service →
    let bad := { s.up with counts := { s.up.counts with
      receive := { s.up.counts.receive with received := bump s.up.counts.receive.received }
      badPayload := bump s.up.counts.badPayload } }
    let unused := { s.up with counts := { s.up.counts with
      receive := { s.up.counts.receive with received := bump s.up.counts.receive.received }
      unusedStream := bump s.up.counts.unusedStream } }
    (∀ payload, exec (.cueBadPayload h payload) s =
      .next { s with up := bad, thru := s.thru.enqueue (parcelOf .announceCue h payload) }) ∧
    (∀ cue : CueBody, 2 ≤ cue.channel.toNat ∨ 4 ≤ cue.cls.toNat ∨ 16 ≤ cue.zone.toNat ∨
        (64 ≤ cue.stop.toNat ∧ cue.stop ≠ 0xFF) ∨ (32 ≤ cue.caption.toNat ∧ cue.caption ≠ 0xFF) ∨
        (256 ≤ cue.leadOverride.toNat ∧ cue.leadOverride ≠ 0xFFFF) →
      exec (.startCue h cue) s =
        .next { s with up := bad, thru := s.thru.enqueue (parcelOf .announceCue h (cueBytes 1 cue)) }) ∧
    (∀ cue : CueBody, 2 ≤ cue.channel.toNat →
      exec (.endCue h cue) s =
        .next { s with up := bad, thru := s.thru.enqueue (parcelOf .announceCue h (cueBytes 2 cue)) } ∧
      exec (.cancelCue h cue) s =
        .next { s with up := bad, thru := s.thru.enqueue (parcelOf .announceCue h (cueBytes 3 cue)) }) ∧
    (∀ payload, payload.length < 5 ∨ 1444 < payload.length →
      exec (.videoSegment h payload) s =
        .next { s with up := bad, thru := s.thru.enqueue (parcelOf .videoSegment h payload) }) ∧
    (∀ payload, 5 ≤ payload.length → payload.length ≤ 1444 →
      (∀ v : StreamIx, (byteAt payload 0).toNat = v.val →
        s.streams[v].kind ≠ some .programVideo ∧ s.streams[v].kind ≠ some .captionVideo) →
      exec (.videoSegment h payload) s =
        .next { s with up := unused, thru := s.thru.enqueue (parcelOf .videoSegment h payload) }) ∧
    (∀ (payload : List Byte) (v : StreamIx), (byteAt payload 0).toNat = v.val → 5 ≤ payload.length →
      payload.length ≤ 1444 → s.streams[v].kind = some .programVideo ∨ s.streams[v].kind = some .captionVideo →
      let d := cycleDistance (wordAt payload 2) s.timer.cycle
      let counted := fun k : StreamCounts => s.streams.set v { s.streams[v] with counts := k }
      (d ≤ 0 → exec (.videoSegment h payload) s = .next { s with
        streams := counted { s.streams[v].counts with late := bump s.streams[v].counts.late }
        up := s.receivedU.up, thru := s.thru.enqueue (parcelOf .videoSegment h payload) }) ∧
      (1000 < d → exec (.videoSegment h payload) s = .next { s with
        streams := counted { s.streams[v].counts with early := bump s.streams[v].counts.early }
        up := s.receivedU.up, thru := s.thru.enqueue (parcelOf .videoSegment h payload) })) ∧
    (∀ (payload : List Byte) (v : StreamIx), payload ≠ [] → (byteAt payload 0).toNat = v.val →
      s.streams[v].kind = some .programAudio → s.streams[v].ring.isSome = true →
      payload.length ≠ 4 + 192 * (byteAt payload 1).toNat ∨ byteAt payload 1 = 0 ∨ 4 < (byteAt payload 1).toNat →
      exec (.programAudio h payload) s =
        .next { s with up := bad, thru := s.thru.enqueue (parcelOf .programAudio h payload) }) ∧
    (∀ payload, payload = [] ∨ (∀ v : StreamIx, (byteAt payload 0).toNat = v.val →
        s.streams[v].kind ≠ some .programAudio) →
      exec (.programAudio h payload) s =
        .next { s with up := unused, thru := s.thru.enqueue (parcelOf .programAudio h payload) }) ∧
    (∀ payload, payload.length ≠ 4 + 96 * (byteAt payload 1).toNat ∨ 2 ≤ (byteAt payload 0).toNat ∨
        byteAt payload 1 = 0 ∨ 4 < (byteAt payload 1).toNat →
      exec (.announceAudio h payload) s =
        .next { s with up := bad, thru := s.thru.enqueue (parcelOf .announceAudio h payload) })) ∧
  ∀ (h : Header) (elapsed : Nat) (lines : LineSample) (payload : List Byte) (s : State), s.held = none →
    payload.length ≠ 2 → s.timer.sinceStart + elapsed ≤ 1100 → SignalHolds s elapsed →
    ∃ t, exec (.cycleMark h elapsed lines payload) s = .next t ∧
      t = { s with
        timer := { s.timer with sinceStart := s.timer.sinceStart + elapsed }
        faults := { s.faults with noSignal := s.faults.noSignal.map fun x => min 10000 (x + elapsed) }
        up := { s.up with counts := { s.up.counts with
          receive := { s.up.counts.receive with received := bump s.up.counts.receive.received }
          badPayload := bump s.up.counts.badPayload } }
        thru := s.thru.enqueue (parcelOf .cycleMark h payload) }

/-- R60, R61, R62: a PROGRAM AUDIO parcel of `k` blocks for a stream that is OPEN as PROGRAM AUDIO and owns ring `r`.
Each block at a distance of 1..15 is stored in its slot if that is empty, and is a duplicate if it is not; the other
blocks are late or early; nothing else changes. The slot of a block is its due cycle mod 16 (R55), and its 48 frames
are left and right samples in turn behind the 4 leading bytes (ch. 11). -/
def Obligations.ProgramAudioStored : Prop :=
  (∀ d : Word16, (ringSlot d).val = d.toNat % 16) ∧
  (∀ (payload : List Byte) (j : Nat) (i : Fin 48), (programBlockAt payload j)[i] =
    { left := wordAt payload (4 + 192 * j + 4 * i.val), right := wordAt payload (6 + 192 * j + 4 * i.val) }) ∧
  ∀ (h : Header) (payload : List Byte) (v : StreamIx) (r : RingIx) (k : Nat) (s : State),
    s.held = none → s.mgmt.mode = .service → (byteAt payload 0).toNat = v.val → (byteAt payload 1).toNat = k →
    1 ≤ k → k ≤ 4 → payload.length = 4 + 192 * k →
    s.streams[v].kind = some .programAudio → s.streams[v].ring = some r →
    let due := fun j : Nat => wordAt payload 2 + BitVec.ofNat 16 j
    let dist := fun j : Nat => cycleDistance (due j) s.timer.cycle
    let timely := fun j : Nat => decide (1 ≤ dist j ∧ dist j ≤ 15)
    let free := fun j : Nat => (s.rings[r][ringSlot (due j)]).isNone
    ∃ t, exec (.programAudio h payload) s = .next t ∧
      t = { s with rings := t.rings, streams := t.streams, up := s.receivedU.up
                   thru := s.thru.enqueue (parcelOf .programAudio h payload) } ∧
      (∀ r' : RingIx, r' ≠ r → t.rings[r'] = s.rings[r']) ∧
      (∀ j < k, timely j = true → free j = true →
        t.rings[r][ringSlot (due j)] = some (due j, programBlockAt payload j)) ∧
      (∀ i : Fin 16, (∀ j < k, timely j = true → free j = true → ringSlot (due j) ≠ i) →
        t.rings[r][i] = s.rings[r][i]) ∧
      (∀ w : StreamIx, w ≠ v → t.streams[w] = s.streams[w]) ∧
      t.streams[v] = { s.streams[v] with
        counts := { s.streams[v].counts with
          late := addCount s.streams[v].counts.late ((List.range k).filter fun j => dist j ≤ 0).length
          early := addCount s.streams[v].counts.early ((List.range k).filter fun j => 16 ≤ dist j).length
          accepted := addCount s.streams[v].counts.accepted
            ((List.range k).filter fun j => timely j && free j).length
          duplicate := addCount s.streams[v].counts.duplicate
            ((List.range k).filter fun j => timely j && !free j).length } }

/-- R112 to R116: a VIDEO SEGMENT of the right shape for a stream that is OPEN as a video kind, 1..1000 cycles ahead.
It ends in exactly one of no demand, unplaced, store full, or stored in the lowest free slot with one reference and one
entry for every chain kept; each demanding chain that is skipped counts it as oversize or as queue full. -/
def Obligations.VideoOutcome : Prop :=
  ∀ (h : Header) (payload : List Byte) (v : StreamIx) (caption : Bool) (s : State),
    s.held = none → s.mgmt.mode = .service → 5 ≤ payload.length → payload.length ≤ 1444 →
    (byteAt payload 0).toNat = v.val →
    s.streams[v].kind = some (if caption then .captionVideo else .programVideo) →
    1 ≤ cycleDistance (wordAt payload 2) s.timer.cycle → cycleDistance (wordAt payload 2) s.timer.cycle ≤ 1000 →
    let len := payload.length - 4
    ∃ t, exec (.videoSegment h payload) s = .next t ∧
      t = { s with store := t.store, chains := t.chains, streams := t.streams, counts := t.counts
                   up := s.receivedU.up, thru := s.thru.enqueue (parcelOf .videoSegment h payload) } ∧
      (∀ c : ChainIx, t.chains[c] =
        { s.chains[c] with priority := t.chains[c].priority, program := t.chains[c].program
                           counts := t.chains[c].counts }) ∧
      (∀ c : ChainIx, Demands s caption v c → s.chains[c].budget < len + 8 →
        t.chains[c].counts = { s.chains[c].counts with oversize := bump s.chains[c].counts.oversize }) ∧
      (∀ c : ChainIx, Demands s caption v c → len + 8 ≤ s.chains[c].budget →
        32 ≤ (s.chains[c].matching caption).length →
        t.chains[c].counts = { s.chains[c].counts with queueFull := bump s.chains[c].counts.queueFull }) ∧
      (∀ c : ChainIx, ¬ Demands s caption v c ∨ Keeps s caption v len c →
        t.chains[c].counts = s.chains[c].counts) ∧
      ((∀ c, ¬ Demands s caption v c) →
        t.counts = { s.counts with noDemand := bump s.counts.noDemand } ∧ t.store = s.store ∧
          t.chains = s.chains ∧ t.streams = s.streams) ∧
      ((∃ c, Demands s caption v c) → (∀ c, ¬ Keeps s caption v len c) →
        t.counts = { s.counts with unplaced := bump s.counts.unplaced } ∧ t.store = s.store ∧
          t.streams = s.streams ∧
          ∀ c : ChainIx, t.chains[c].priority = s.chains[c].priority ∧ t.chains[c].program = s.chains[c].program) ∧
      ((∃ c, Keeps s caption v len c) → (∀ i : Fin 256, s.store[i] ≠ none) →
        t.counts = { s.counts with storeFull := bump s.counts.storeFull } ∧ t.store = s.store ∧
          t.streams = s.streams ∧
          ∀ c : ChainIx, t.chains[c].priority = s.chains[c].priority ∧ t.chains[c].program = s.chains[c].program) ∧
      ((∃ c, Keeps s caption v len c) → ∀ i : Fin 256, s.store[i] = none → (∀ j < i, s.store[j] ≠ none) →
        t.counts = s.counts ∧
        (∃ g : Segment, t.store = s.store.set i (some g) ∧ g.bytes = payload.drop 4 ∧ g.stream = v ∧
          g.due = wordAt payload 2 ∧ g.refs = Nat.card { c : ChainIx // Keeps s caption v len c }) ∧
        (∀ w : StreamIx, t.streams[w] =
          if w = v then { s.streams[w] with counts := { s.streams[w].counts with
            accepted := bump s.streams[w].counts.accepted } } else s.streams[w]) ∧
        ∀ c : ChainIx,
          (¬ Keeps s caption v len c →
            t.chains[c].priority = s.chains[c].priority ∧ t.chains[c].program = s.chains[c].program) ∧
          (Keeps s caption v len c →
            t.chains[c].matching caption = s.chains[c].matching caption ++
              [{ slot := i, stream := v, due := wordAt payload 2, length := len }] ∧
            t.chains[c].matching (!caption) = s.chains[c].matching (!caption)))

/-- R89: an ANNOUNCE AUDIO parcel of `k` blocks. An IDLE channel counts every block as stale. A busy channel stores
each block within 255 of the next expected sequence, and not beyond a known last sequence, in its slot if that is
empty; a block for an occupied slot is a duplicate, and the others are stale. The slot of a block is its sequence mod
256 (R73), its offset is counted upward from the expected sequence, and its 48 samples stand behind the 4 leading bytes
(ch. 11). -/
def Obligations.AnnounceAudioStored : Prop :=
  (∀ q e : Word16, (speechSlot q).val = q.toNat % 256 ∧ seqOffset q e = (q.toNat + 65536 - e.toNat) % 65536) ∧
  (∀ (payload : List Byte) (j : Nat) (i : Fin 48),
    (speechBlockAt payload j)[i] = wordAt payload (4 + 96 * j + 2 * i.val)) ∧
  ∀ (h : Header) (payload : List Byte) (a : ChannelIx) (k : Nat) (s : State),
    s.held = none → s.mgmt.mode = .service → (byteAt payload 0).toNat = a.val → (byteAt payload 1).toNat = k →
    1 ≤ k → k ≤ 4 → payload.length = 4 + 96 * k →
    let ch := s.channels[a]
    let seq := fun j : Nat => wordAt payload 2 + BitVec.ofNat 16 j
    let fits := fun j : Nat => decide (seqOffset (seq j) ch.nextSeq ≤ 255 ∧
      ∀ l ∈ ch.lastSeq.toList, (seqOffset (seq j) ch.nextSeq : Int) ≤ cycleDistance l ch.nextSeq)
    let free := fun j : Nat => (ch.ring[speechSlot (seq j)]).isNone
    ∃ t, exec (.announceAudio h payload) s = .next t ∧
      t = { s with channels := s.channels.set a t.channels[a], up := s.receivedU.up
                   thru := s.thru.enqueue (parcelOf .announceAudio h payload) } ∧
      (ch.state = .idle →
        t.channels[a] = { ch with counts := { ch.counts with stale := addCount ch.counts.stale k } }) ∧
      (ch.state ≠ .idle →
        (∀ j < k, fits j = true → free j = true →
          t.channels[a].ring[speechSlot (seq j)] = some (seq j, speechBlockAt payload j)) ∧
        (∀ i : Fin 256, (∀ j < k, fits j = true → free j = true → speechSlot (seq j) ≠ i) →
          t.channels[a].ring[i] = ch.ring[i]) ∧
        t.channels[a] = { ch with
          ring := t.channels[a].ring
          counts := { ch.counts with
            accepted := addCount ch.counts.accepted ((List.range k).filter fun j => fits j && free j).length
            duplicate := addCount ch.counts.duplicate ((List.range k).filter fun j => fits j && !free j).length
            stale := addCount ch.counts.stale ((List.range k).filter fun j => !fits j).length } })

/-- R75, R76, R77, R78: a good START cue taken by a channel that is IDLE, or that carries a lower class, which it
preempts. The reach is the snapshot of the zone by class, taken before the wakes; EMERGENCY wakes the PRESENT berths of
the zone, and SERVICE the stop-matched ones, whose alight stop becomes absent; the channel begins the announcement,
governing is recomputed, every berth whose governing channel changes and, at a preemption, every berth that the channel
governed loses its ducked mark, and the channel stays in DUCKING exactly while a PRESENT berth it governs carries no
mark; both channels evaluate their release. A START cue of the same class or a lower one on a busy channel is ignored
and counted; no berth is woken. R74: the fields of a START cue are good where class, zone, stop, caption and lead
override each hold a code that ch. 11 lists; the zone byte names its zone; the classes are 0..3, highest first. -/
def Obligations.StartCueRule : Prop :=
  (∀ q : CueBody, startFieldsGood q = true ↔ q.cls.toNat < 4 ∧ q.zone.toNat < 16 ∧
    (q.stop.toNat < 64 ∨ q.stop = 0xFF) ∧ (q.caption.toNat < 32 ∨ q.caption = 0xFF) ∧
    (q.leadOverride.toNat < 256 ∨ q.leadOverride = 0xFFFF)) ∧
  (∀ (s : State) (code : Byte) (z : Fin 16), code.toNat = z.val → s.zoneAt code = s.zones[z]) ∧
  ([.emergency, .safety, .service, .courtesy].map Machine.Class.index = [0, 1, 2, 3] ∧
    otherChannel 0 = 1 ∧ otherChannel 1 = 0) ∧
  (∀ (h : Header) (q : CueBody) (a : ChannelIx) (cl : Machine.Class) (s : State),
    s.held = none → s.mgmt.mode = .service → q.channel.toNat = a.val → q.cls.toNat = cl.index.val →
    startFieldsGood q = true →
    (s.channels[a].state = .idle ∨ ∃ cur, s.channels[a].cls = some cur ∧ cl.index < cur.index) →
    let zone := s.zoneAt q.zone
    let matched := fun b : BerthIx => cl = .service ∧ zone.getLsbD b.val = true ∧ q.stop ≠ 0xFF ∧
      (s.berths[b].config.alightStop.map Fin.val) = some q.stop.toNat
    let woken := fun b : BerthIx => s.berths[b].presence = .present ∧
      ((cl = .emergency ∧ zone.getLsbD b.val = true) ∨ matched b)
    ∃ t, exec (.startCue h q) s = .next t ∧
      t = { s with berths := t.berths, channels := t.channels, up := s.receivedU.up
                   thru := s.thru.enqueue (parcelOf .announceCue h (cueBytes 1 q)) } ∧
      t.channels[a].cls = some cl ∧ t.channels[a].nextSeq = q.sequence ∧ t.channels[a].lastSeq = none ∧
      t.channels[a].stall = 0 ∧ t.channels[a].counts = s.channels[a].counts ∧
      (t.channels[a].caption.map Fin.val) = (if q.caption = 0xFF then none else some q.caption.toNat) ∧
      (t.channels[a].leadOverride.map Fin.val) =
        (if q.leadOverride = 0xFFFF then none else some q.leadOverride.toNat) ∧
      (s.channels[a].state = .idle → t.channels[a].ring = s.channels[a].ring) ∧
      (s.channels[a].state ≠ .idle → ∀ i : Fin 256, t.channels[a].ring[i] = none) ∧
      (∀ b : BerthIx, t.channels[a].reach.getLsbD b.val = true ↔ zone.getLsbD b.val = true ∧
        (cl = .emergency ∨ cl = .safety ∨ (cl = .service ∧ s.berths[b].awake ≠ .asleep) ∨ matched b ∨
          (cl = .courtesy ∧ (s.berths[b].regime = .day ∨ s.berths[b].awake ≠ .asleep)))) ∧
      (∀ b : BerthIx,
        (woken b → t.berths[b].awake = .awake ∧ t.berths[b].idle = 0) ∧
        (¬ woken b → t.berths[b].awake = s.berths[b].awake ∧ t.berths[b].idle = s.berths[b].idle) ∧
        (matched b → t.berths[b].config = { s.berths[b].config with alightStop := none }) ∧
        (¬ matched b → t.berths[b].config = s.berths[b].config) ∧
        t.berths[b] = { s.berths[b] with
          awake := t.berths[b].awake, idle := t.berths[b].idle, config := t.berths[b].config
          governing := t.berths[b].governing, ducked := t.berths[b].ducked } ∧
        (s.berths[b].presence = .present → Governs t b t.berths[b].governing) ∧
        (s.berths[b].presence ≠ .present → t.berths[b].governing = s.berths[b].governing) ∧
        (t.berths[b].ducked = true ↔ s.berths[b].ducked = true ∧ t.berths[b].governing = s.berths[b].governing ∧
          ¬ (s.channels[a].state ≠ .idle ∧ s.berths[b].governing = some a))) ∧
      t.channels[a].state ≠ .idle ∧
      (t.channels[a].state = .ducking ↔ ∃ b : BerthIx, t.berths[b].presence = .present ∧
        t.berths[b].governing = some a ∧ t.berths[b].ducked = false) ∧
      Released t a { s.channels[a] with
        state := .ducking, cls := some cl, reach := t.channels[a].reach, caption := t.channels[a].caption
        leadOverride := t.channels[a].leadOverride, nextSeq := q.sequence, lastSeq := none, lead := 0, stall := 0
        presented := .absent, ring := t.channels[a].ring } ∧
      Released t (otherChannel a) s.channels[otherChannel a]) ∧
  ∀ (h : Header) (q : CueBody) (a : ChannelIx) (cl cur : Machine.Class) (s : State),
    s.held = none → s.mgmt.mode = .service → q.channel.toNat = a.val → q.cls.toNat = cl.index.val →
    startFieldsGood q = true → s.channels[a].state ≠ .idle → s.channels[a].cls = some cur → cur.index ≤ cl.index →
    exec (.startCue h q) s = .next { s with
      channels := s.channels.set a { s.channels[a] with
        counts := { s.channels[a].counts with cuesRefused := bump s.channels[a].counts.cuesRefused } }
      up := s.receivedU.up, thru := s.thru.enqueue (parcelOf .announceCue h (cueBytes 1 q)) }

/-- R86, R88: an END cue. On an IDLE channel, or where the last sequence is known, it is ignored and counted. Otherwise
a negative distance from the next expected sequence sends the channel to IDLE, with what ChannelLeft says, and any
other fixes the last sequence and discards, as stale, the blocks beyond it. -/
def Obligations.EndCueRule : Prop :=
  ∀ (h : Header) (q : CueBody) (a : ChannelIx) (s : State),
    s.held = none → s.mgmt.mode = .service → q.channel.toNat = a.val →
    let ch := s.channels[a]
    let d := cycleDistance q.sequence ch.nextSeq
    let beyond := fun i : Fin 256 => ch.ring[i].any fun x => decide (d < (seqOffset x.1 ch.nextSeq : Int))
    ∃ t, exec (.endCue h q) s = .next t ∧
      t = { s with berths := t.berths, channels := t.channels, up := s.receivedU.up
                   thru := s.thru.enqueue (parcelOf .announceCue h (cueBytes 2 q)) } ∧
      (ch.state = .idle ∨ ch.lastSeq ≠ none →
        t.berths = s.berths ∧ t.channels = s.channels.set a { ch with
          counts := { ch.counts with cuesRefused := bump ch.counts.cuesRefused } }) ∧
      (ch.state ≠ .idle → ch.lastSeq = none → d < 0 →
        t.channels[a] = { Channel.initial with nextSeq := ch.nextSeq, counts := ch.counts } ∧ ChannelLeft s t a) ∧
      (ch.state ≠ .idle → ch.lastSeq = none → 0 ≤ d →
        t.berths = s.berths ∧ t.channels[otherChannel a] = s.channels[otherChannel a] ∧
        t.channels[a] = { ch with
          lastSeq := some q.sequence
          ring := t.channels[a].ring
          counts := { ch.counts with
            stale := addCount ch.counts.stale ((List.finRange 256).filter beyond).length } } ∧
        ∀ i : Fin 256, t.channels[a].ring[i] = if beyond i then none else ch.ring[i])

/-- R85, R87, R88: a CANCEL cue on a busy channel, and a stall that reaches 200, send the channel to IDLE: its record
is cleared but for the next expected sequence and the counts, no berth is governed by it any more, a berth whose
governing changes loses its ducked mark, the rest of each berth is left, and the other channel evaluates its release
(ChannelLeft); the stall also counts its gap cycle and latches ANNOUNCE STALL. A CANCEL on an IDLE channel is ignored
and counted. -/
def Obligations.EnterIdleRule : Prop :=
  (∀ (h : Header) (q : CueBody) (a : ChannelIx) (s : State), s.held = none → s.mgmt.mode = .service →
    q.channel.toNat = a.val →
    ∃ t, exec (.cancelCue h q) s = .next t ∧
      (s.channels[a].state = .idle → t = { s with
        channels := s.channels.set a { s.channels[a] with
          counts := { s.channels[a].counts with cuesRefused := bump s.channels[a].counts.cuesRefused } }
        up := s.receivedU.up, thru := s.thru.enqueue (parcelOf .announceCue h (cueBytes 3 q)) }) ∧
      (s.channels[a].state ≠ .idle →
        t = { s with berths := t.berths, channels := t.channels, up := s.receivedU.up
                     thru := s.thru.enqueue (parcelOf .announceCue h (cueBytes 3 q)) } ∧
        t.channels[a] =
          { Channel.initial with nextSeq := s.channels[a].nextSeq, counts := s.channels[a].counts } ∧
        ChannelLeft s t a)) ∧
  (∀ (a : ChannelIx) (s : State), s.held = none → s.mgmt.mode = .service → s.channels[a].state = .playing →
    s.channels[a].stall = 199 → (∀ l, s.channels[a].lastSeq = some l → 0 ≤ cycleDistance l s.channels[a].nextSeq) →
    s.channels[a].ring[speechSlot s.channels[a].nextSeq] = none →
    ∃ t, exec (.announceStall a) s = .next t ∧
      t = { s with berths := t.berths, channels := t.channels
                   mgmt := { s.mgmt with stall := s.mgmt.stall.set a true } } ∧
      t.channels[a] =
        { Channel.initial with
          nextSeq := s.channels[a].nextSeq
          counts := { s.channels[a].counts with gapCycles := bump s.channels[a].counts.gapCycles } } ∧
      ChannelLeft s t a)

/-- R82, R83: a channel in LEAD whose lead remaining reaches 0 enters PLAYING with its stall run at 0 and silence as
its presented block; the recomputation of governing that this brings changes no berth. -/
def Obligations.LeadExpires : Prop :=
  ∀ (a : ChannelIx) (s : State), s.held = none → s.mgmt.mode = .service → GoverningLaw s →
    s.channels[a].state = .lead → s.channels[a].lead = 1 →
    exec (.leadExpiry a) s = .next { s with
      channels := s.channels.set a { s.channels[a] with
        state := .playing, lead := 0, stall := 0, presented := .silence } }

/-- R64, R65, R82, R84, R85, R86: what the rings and the channels present for a cycle. A program-audio stream presents
the block of the cycle and its slot is emptied, or silence, which is an underrun in SERVICE while a PRESENT berth
listens. A channel in LEAD counts down and enters PLAYING at 0; one in PLAYING goes IDLE behind its last block,
presents the expected block and moves on, or presents silence and counts the gap, of which the 200th in a row stalls
it. R81, R82: a release, where every PRESENT berth that a channel in DUCKING governs carries the mark, brings LEAD with
its lead, or PLAYING at once when that is 0. -/
def Obligations.PlayoutRule : Prop :=
  (∀ (n : Word16) (v : StreamIx) (r : RingIx) (s : State),
    s.streams[v].kind = some .programAudio → s.streams[v].ring = some r →
    let t := s.presentRings n
    let heard := s.mgmt.mode = .service ∧ ∃ b : BerthIx, s.berths[b].presence = .present ∧ s.berths[b].audio = some v
    t = { s with streams := t.streams, rings := t.rings } ∧
    (∀ blk, s.rings[r][ringSlot n] = some (n, blk) →
      t.streams[v] = { s.streams[v] with presented := .block blk } ∧
      ∀ i : Fin 16, t.rings[r][i] = if i = ringSlot n then none else s.rings[r][i]) ∧
    ((∀ blk, s.rings[r][ringSlot n] ≠ some (n, blk)) →
      t.rings[r] = s.rings[r] ∧
      (heard → t.streams[v] = { s.streams[v] with
        presented := .silence
        counts := { s.streams[v].counts with underrun := bump s.streams[v].counts.underrun } }) ∧
      (¬ heard → t.streams[v] = { s.streams[v] with presented := .silence }))) ∧
  (∀ (a : ChannelIx) (s : State),
    let ch := s.channels[a]
    let t := s.evaluateRelease a
    let lead := match ch.leadOverride, ch.cls with
      | some m, _ => m.val
      | none, some c => s.classes[c.index].lead.val
      | none, none => 0
    let waits := ∃ b : BerthIx, s.berths[b].presence = .present ∧ s.berths[b].governing = some a ∧
      s.berths[b].ducked = false
    (ch.state ≠ .ducking ∨ waits → t = s) ∧
    (ch.state = .ducking → ¬ waits → GoverningLaw s →
      (lead = 0 → t = { s with channels := s.channels.set a { ch with
        state := .playing, lead := 0, stall := 0, presented := .silence } }) ∧
      (lead ≠ 0 → t = { s with channels := s.channels.set a { ch with state := .lead, lead := lead } }))) ∧
  ∀ (a : ChannelIx) (s : State),
    let ch := s.channels[a]
    let t := s.channelCycle a ch.state
    (ch.state = .idle ∨ ch.state = .ducking → t = s) ∧
    (ch.state = .lead → 2 ≤ ch.lead → t = { s with channels := s.channels.set a { ch with lead := ch.lead - 1 } }) ∧
    (ch.state = .lead → ch.lead ≤ 1 → GoverningLaw s → t = { s with channels := s.channels.set a { ch with
      state := .playing, lead := 0, stall := 0, presented := .silence } }) ∧
    (ch.state = .playing → (∃ l, ch.lastSeq = some l ∧ cycleDistance l ch.nextSeq < 0) →
      t = { s with berths := t.berths, channels := t.channels } ∧
      t.channels[a] = { Channel.initial with nextSeq := ch.nextSeq, counts := ch.counts } ∧ ChannelLeft s t a) ∧
    (ch.state = .playing → (∀ l, ch.lastSeq = some l → 0 ≤ cycleDistance l ch.nextSeq) →
      (∀ blk, ch.ring[speechSlot ch.nextSeq] = some (ch.nextSeq, blk) →
        t = { s with channels := s.channels.set a { ch with
          presented := .block blk, nextSeq := ch.nextSeq + 1, stall := 0
          ring := ch.ring.set (speechSlot ch.nextSeq) none } }) ∧
      ((∀ blk, ch.ring[speechSlot ch.nextSeq] ≠ some (ch.nextSeq, blk)) → ch.stall < 199 →
        t = { s with channels := s.channels.set a { ch with
          presented := .silence, stall := ch.stall + 1
          counts := { ch.counts with gapCycles := bump ch.counts.gapCycles } } }) ∧
      ((∀ blk, ch.ring[speechSlot ch.nextSeq] ≠ some (ch.nextSeq, blk)) → 199 ≤ ch.stall →
        t = { s with berths := t.berths, channels := t.channels
                     mgmt := { s.mgmt with stall := s.mgmt.stall.set a true } } ∧
        t.channels[a] = { Channel.initial with
          nextSeq := ch.nextSeq, counts := { ch.counts with gapCycles := bump ch.counts.gapCycles } } ∧
        ChannelLeft s t a))

/-! ### The mix -/

/-- R97 to R106: the mixer's work at a cycle start. In SERVICE each PRESENT berth moves Ap toward Tp and Ad toward Td
by one step, sets its mark on equality with the target of its governing class, and forms every output sample as the
saturated sum of the two floored terms; every other berth, and every berth in CONFIGURATION, gives zeros and keeps its
gains. Each chain counts its berths of which saturation changed a sample. -/
def Obligations.MixRule : Prop :=
  ∀ s : State,
    let t := s.mix
    let ceiling := fun r : Berth => if r.headphone then r.settings.headphoneCeiling else r.settings.speakerCeiling
    let cls := fun r : Berth => r.governing.bind fun a => s.channels[a].cls
    let ma := fun r : Berth => match cls r with
      | none => 0
      | some .emergency => gain s.classes[0].level
      | some c => gain (min s.classes[c.index].level (ceiling r))
    let program : Berth → Fin 48 → (Stereo → Pcm) → Int := fun r i side => match r.audio with
      | none => 0
      | some v => match s.streams[v].presented with
        | .block blk => (side blk[i]).toInt
        | _ => 0
    let speech : Berth → Fin 48 → Int := fun r i => match r.governing with
      | none => 0
      | some a => if s.channels[a].state = .playing then
          match s.channels[a].presented with
          | .block blk => (blk[i]).toInt
          | _ => 0
        else 0
    let sum : BerthIx → Fin 48 → (Stereo → Pcm) → Int := fun b i side =>
      (program s.berths[b] i side * t.berths[b].ap * t.berths[b].ad) / 65536 +
        (speech s.berths[b] i * ma s.berths[b]) / 256
    (∀ b : BerthIx, s.mgmt.mode = .service → s.berths[b].presence = .present →
      let r := s.berths[b]
      let tp := if s.programHold = true ∨ r.audio = none then 0 else gain (min r.level (ceiling r))
      let td := match cls r with
        | some c => s.classes[c.index].duckTarget.val
        | none => 256
      let d := match cls r with
        | some c => s.classes[c.index].duckStep.val
        | none => s.mgmt.settings.recoveryStep.val
      t.berths[b] = { r with
        ap := moveToward tp r.settings.glideStep.val r.ap
        ad := moveToward td d r.ad
        ducked := decide (cls r ≠ none ∧ moveToward td d r.ad = td) } ∧
      ∀ (i : Fin 48) (side : Stereo → Pcm), side = Stereo.left ∨ side = Stereo.right →
        (side t.slots[b][i]).toInt = max (-32768) (min 32767 (sum b i side))) ∧
    (∀ b : BerthIx, s.mgmt.mode ≠ .service ∨ s.berths[b].presence ≠ .present →
      t.berths[b] = s.berths[b] ∧ t.slots[b] = ProgramBlock.silent) ∧
    t = { s with berths := t.berths, slots := t.slots, chains := t.chains } ∧
    ∀ (c : ChainIx) (clips : PosIx → Bool),
      (∀ p : PosIx, clips p = true ↔ s.mgmt.mode = .service ∧ s.berths[berthAt c p].presence = .present ∧
        ∃ (i : Fin 48) (side : Stereo → Pcm), (side = Stereo.left ∨ side = Stereo.right) ∧
          (sum (berthAt c p) i side < -32768 ∨ 32767 < sum (berthAt c p) i side)) →
      t.chains[c] = { s.chains[c] with counts := { s.chains[c].counts with
        mixClips := addCount s.chains[c].counts.mixClips ((List.finRange 8).filter clips).length } }

/-- R101, R106: a multiplier with a step of 1 or more lands on its target after exactly the distance divided by the
step, rounded up, one with a step of 0 at once, and neither passes the target. With Ap, Ad and Ma within 0..256 the
program term and the announcement term each lie in −32768..32767, and their sum in −65536..65534. R96: the sixteen
multipliers of the gain table, each within 0..256, rise with the level. -/
def Obligations.MixArithmetic : Prop :=
  (∀ (target step cur n : Nat),
    (step = 0 → moveToward target step cur = target) ∧
    (1 ≤ step → ((moveToward target step)^[n] cur = target ↔ (max target cur - min target cur) ≤ n * step)) ∧
    (cur ≤ target → cur ≤ moveToward target step cur ∧ moveToward target step cur ≤ target) ∧
    (target ≤ cur → target ≤ moveToward target step cur ∧ moveToward target step cur ≤ cur)) ∧
  (∀ (p a : Pcm) (ap ad ma : Nat), ap ≤ 256 → ad ≤ 256 → ma ≤ 256 →
    let x := (p.toInt * ap * ad) / 65536
    let y := (a.toInt * ma) / 256
    programTerm p ap ad = x ∧ speechTerm a ma = y ∧ mixSum p ap ad a ma = x + y ∧
      -32768 ≤ x ∧ x ≤ 32767 ∧ -32768 ≤ y ∧ y ≤ 32767 ∧ -65536 ≤ x + y ∧ x + y ≤ 65534) ∧
  ((List.finRange 16).map gain = [0, 2, 3, 4, 6, 8, 11, 16, 23, 32, 45, 64, 91, 128, 181, 256]) ∧
  ∀ n m : Level, gain n ≤ 256 ∧ (n < m → gain n < gain m)

/-! ### Video and chain frames -/

/-- R118, R119, R120: serving a queue splits it, in order, into what is sent, what is discarded late and what stays.
The sent entries are in time and cost exactly the budget spent, the discarded ones are late, and serving stops only at
an empty queue or at a head that is in time and does not fit. W becomes 0 when something was sent, rises by 1 up to 15
when the queue held an entry and nothing was sent, and stays when it was empty. An assembly discards the late heads of
both queues, serves the priority queue first while W is below the service ratio and the program queue first from then
on, and counts and releases what it sent and what it discarded; nothing is lost, and the sizes stay within the budget.
R6: the distance from one cycle number to another is their difference mod 65536, read as a signed number. -/
def Obligations.QueueServed : Prop :=
  (∀ a b : Word16, -32768 ≤ cycleDistance a b ∧ cycleDistance a b ≤ 32767 ∧
    cycleDistance a b % 65536 = ((a.toNat : Int) - b.toNat) % 65536) ∧
  (∀ (n : Word16) (q : List VideoEntry) (budget : Nat),
    let r := serveQueue n q budget
    (∃ served, q = served ++ r.rest ∧ r.sent = (served.filter fun e => !entryLate n e) ∧
      r.late = served.filter (entryLate n)) ∧
    (r.sent.map fun e => e.length + 8).sum + r.budget = budget ∧
    (∀ e ∈ r.sent, 0 ≤ cycleDistance e.due n) ∧ (∀ e ∈ r.late, cycleDistance e.due n < 0) ∧
    (∀ e es, r.rest = e :: es → 0 ≤ cycleDistance e.due n ∧ r.budget < e.length + 8)) ∧
  (∀ (w : Nat) (before sent : List VideoEntry), w ≤ 15 →
    (before = [] → waitAfter w before sent = w) ∧
    (before ≠ [] → sent = [] → waitAfter w before sent = min 15 (w + 1)) ∧
    (before ≠ [] → sent ≠ [] → waitAfter w before sent = 0)) ∧
  (∀ (n : Word16) (ch : Chain),
    let a := ch.assemble n
    let pr := ch.priority.dropWhile (entryLate n)
    let pg := ch.program.dropWhile (entryLate n)
    (ch.wait < ch.ratio →
      let x := serveQueue n pr ch.budget
      let y := serveQueue n pg x.budget
      a.sent = x.sent ++ y.sent ∧ a.priority = x.rest ∧ a.program = y.rest ∧ a.wait = waitAfter ch.wait pg y.sent) ∧
    (ch.ratio ≤ ch.wait →
      let y := serveQueue n pg ch.budget
      let x := serveQueue n pr y.budget
      a.sent = y.sent ++ x.sent ∧ a.priority = x.rest ∧ a.program = y.rest ∧ a.wait = waitAfter ch.wait pg y.sent) ∧
    (a.sent ++ a.late ++ a.priority ++ a.program).Perm (ch.priority ++ ch.program) ∧
    (a.sent.map fun e => e.length + 8).sum ≤ ch.budget ∧
    (∀ e ∈ a.sent, 0 ≤ cycleDistance e.due n) ∧ (∀ e ∈ a.late, cycleDistance e.due n < 0)) ∧
  ∀ (n : Word16) (c : ChainIx) (s : State),
    let a := s.chains[c].assemble n
    let t := s.assembleVideo c n
    t = { s with store := t.store, chains := s.chains.set c { s.chains[c] with
      priority := a.priority, program := a.program, wait := a.wait
      counts := { s.chains[c].counts with
        sent := addCount s.chains[c].counts.sent a.sent.length
        lateDiscards := addCount s.chains[c].counts.lateDiscards a.late.length } } } ∧
    (s.videoArea c n = a.sent.map fun e =>
      { stream := e.stream, due := e.due, bytes := ((s.store[e.slot]).map Segment.bytes).getD [] }) ∧
    SlotsReleased s t (references (a.sent ++ a.late))

/-- R118 to R121, R130 to R134 at a cycle start, taken by SELF_START or by a mark: every chain skips, withholds or
sends its frame as SendsFrame says, and the frame carries the control words of R132, the slots of the mix, the query
not yet placed, and the segments sent, in order; the segment store releases the references of the entries that the
chains sent and discarded, and no other slot changes (R121); after the cycle start the windows that the frames
supersede close with the slots that the command brings. A mark starts a cycle from 0.9 ms on, 900 of the model's
microseconds, and up to 1.1 ms no self-start comes before it (log 1). CHAIN_FRAME_COMPLETE frees the line, and the
frame that waits follows directly; the window that is still open then closes, with the slots that the command brings
(the model's reading of the moments, logs 8, 9 and 10). On an idle line it changes nothing (the model's reading, log
24). -/
def Obligations.FrameSending : Prop :=
  (∀ (lines : LineSample) (s : State), s.held = none →
    ∃ u place, exec (.selfStart lines) s = .next (u.closeAllSuperseded lines.returns) ∧
      CycleBlocks s u lines (s.timer.cycle + 1) place ∧ SlotsReleased s u (takenAt s (s.timer.cycle + 1)) ∧
      ∀ c : ChainIx, SendsFrame s u place c (s.timer.cycle + 1)) ∧
  (∀ (h : Header) (elapsed : Nat) (lines : LineSample) (payload : List Byte) (s : State), s.held = none →
    payload.length = 2 → 900 ≤ s.timer.sinceStart + elapsed → s.timer.sinceStart + elapsed ≤ 1100 →
    ∃ u place, exec (.cycleMark h elapsed lines payload) s = .next (u.closeAllSuperseded lines.returns) ∧
      CycleBlocks s u lines (wordAt payload 0) place ∧ SlotsReleased s u (takenAt s (wordAt payload 0)) ∧
      ∀ c : ChainIx, SendsFrame s u place c (wordAt payload 0)) ∧
  (∀ (s : State) (b : BerthIx), ControlsBerth s b (s.controlWord b)) ∧
  (∀ ch : Chain, (∀ q, ch.inFlight = some q → q.placed = false →
      ch.queryField = some { token := q.token, query := q.query }) ∧
    ((∀ q, ch.inFlight = some q → q.placed = true) → ch.queryField = none)) ∧
  ∀ (c : ChainIx) (slots : ReturnSlots) (s : State), s.held = none →
    ∃ t, exec (.chainFrameComplete ⟨c, slots⟩) s = .next t ∧
      (s.chains[c].line = none → t = s) ∧
      (s.chains[c].line ≠ none → s.chains[c].waiting = none →
        t = { s with chains := s.chains.set c { s.chains[c] with line := none } }) ∧
      (s.chains[c].line ≠ none → ∀ f, s.chains[c].waiting = some f →
        ∃ w : Window, w.cycle = f.cycle ∧ (w.judges = true ↔ ∃ q, s.chains[c].inFlight = some q ∧ q.placed = true) ∧
          let u := { s with chains := s.chains.set c { s.chains[c] with
            line := some f, waiting := none, windows := s.chains[c].windows ++ [w]
            counts := { s.chains[c].counts with framesSent := bump s.chains[c].counts.framesSent } } }
          (s.chains[c].windows = [] → t = u) ∧
          (s.chains[c].windows.length = 1 → exec (.returnWindowClose c slots) u = .next t))

/-- R130, R131, R167 and ch. 11: a frame on the line is 1642 bytes and its video area, whose size and number of
segments the header carries with the chain, the cycle and the mode; its last two bytes are the check over the rest,
high byte first. The control word and the audio slot of each position, the query field, and the descriptor and the
bytes of each segment stand at their places, and every byte marked zero is zero. -/
def Obligations.FrameBytesRule : Prop :=
  (∀ xs : List VideoItem, videoSize xs = (xs.map fun x => x.bytes.length + 8).sum) ∧
  ∀ f : ChainFrame, videoSize f.video < 65536 →
    let bs := frameBytes f
    bs.length = 1642 + videoSize f.video ∧ byteAt bs 0 = BitVec.ofNat 8 f.chain.val ∧ wordAt bs 1 = f.cycle ∧
      byteAt bs 3 = (if f.mode = .service then 1 else 0) ∧ fieldAt bs 4 2 = videoSize f.video ∧
      fieldAt bs 6 2 = f.video.length ∧ (∀ i : Fin 8, byteAt bs (8 + i.val) = 0) ∧
      wordAt bs (1640 + videoSize f.video) = checkOf (bs.take (1640 + videoSize f.video)) ∧
      (∀ (p : PosIx) (i : Fin 48),
        wordAt bs (16 + 200 * p.val + 8 + 4 * i.val) = f.audio[p][i].left ∧
        wordAt bs (16 + 200 * p.val + 10 + 4 * i.val) = f.audio[p][i].right) ∧
      (∀ p : PosIx,
        let o := 16 + 200 * p.val
        let w := f.controls[p]
        byteAt bs o = (match w.screen with | .off => 0 | .dim => 1 | .on => 2) ∧
        byteAt bs (o + 1) = BitVec.ofNat 8 w.brightness.val ∧
        byteAt bs (o + 2) = ((w.video.map fun v => BitVec.ofNat 8 v.val).getD 0xFF) ∧
        byteAt bs (o + 3) = ((w.caption.map fun v => BitVec.ofNat 8 v.val).getD 0xFF) ∧
        byteAt bs (o + 4) = (match w.alert with
          | some .emergency => 0 | some .safety => 1 | some .service => 2 | some .courtesy => 3 | none => 0xFF) ∧
        byteAt bs (o + 5) = (if w.lamp then 1 else 0) ∧ byteAt bs (o + 6) = 0 ∧ byteAt bs (o + 7) = 0) ∧
      (f.query = none → ∀ i : Fin 24, byteAt bs (1616 + i.val) = 0) ∧
      (∀ q, f.query = some q →
        byteAt bs 1616 = BitVec.ofNat 8 q.token ∧ byteAt bs 1617 = BitVec.ofNat 8 q.query.pos.val ∧
        byteAt bs 1618 = q.query.code ∧ (∀ i : Fin 8, byteAt bs (1619 + i.val) = q.query.arg[i]) ∧
        ∀ i : Fin 13, byteAt bs (1627 + i.val) = 0) ∧
      ∀ (xs ys : List VideoItem) (x : VideoItem), f.video = xs ++ x :: ys →
        let o := 1640 + videoSize xs
        byteAt bs o = BitVec.ofNat 8 x.stream.val ∧ byteAt bs (o + 1) = 0 ∧ wordAt bs (o + 2) = x.due ∧
        fieldAt bs (o + 4) 2 = x.bytes.length ∧ byteAt bs (o + 6) = 0 ∧ byteAt bs (o + 7) = 0 ∧
        (bs.drop (o + 8)).take x.bytes.length = x.bytes

/-- R144, R145, R148 and ch. 11: the bytes of a parcel and the parcel determine each other. Every parcel of at most
1472 payload bytes passes the receive checks and is read back as it is, and a run of bytes that passes them is exactly
the bytes of the parcel read, so that a forwarded parcel is sent as it was received. Target, origin, kind code, flags,
length, payload and check stand at their places; a field holds its most significant byte first; and the check takes
each byte, most significant bit first, into a register that starts at FFFFh, with 8005h where the top bit and the
incoming bit differ. -/
def Obligations.ParcelRoundTrip : Prop :=
  (∀ (bs : List Byte) (o n : Nat), o + n < bs.length →
    fieldAt bs o 0 = 0 ∧ fieldAt bs o (n + 1) = 256 * fieldAt bs o n + (byteAt bs (o + n)).toNat ∧
      bs[o + n]? = some (byteAt bs (o + n)) ∧ wordAt bs o = BitVec.ofNat 16 (fieldAt bs o 2)) ∧
  (∀ n v : Nat, (beBytes n v).length = n ∧ fieldAt (beBytes n v) 0 n = v % 256 ^ n) ∧
  (checkOf [] = 0xFFFF ∧ ∀ (bs : List Byte) (b : Byte), checkOf (bs ++ [b]) =
    (List.range 8).foldl (fun (r : Word16) i =>
      if r.getLsbD 15 = b.getLsbD (7 - i) then r <<< 1 else (r <<< 1) ^^^ 0x8005#16) (checkOf bs)) ∧
  (∀ (k : Kind) (h : Header) (payload : List Byte), parcelOf k h payload =
    { target := h.target, origin := h.origin, kind := k, flags := h.flags, payload := payload }) ∧
  (∀ p : Parcel, p.payload.length ≤ 1472 →
    let bs := parcelBytes p
    bs.length = 8 + p.payload.length ∧ readParcel true bs = some p ∧ byteAt bs 0 = p.target ∧ byteAt bs 1 = p.origin ∧
      byteAt bs 2 = (match p.kind with
        | .cycleMark => 0x01 | .programAudio => 0x10 | .videoSegment => 0x11 | .announceCue => 0x20
        | .announceAudio => 0x21 | .command => 0x30 | .reply => 0x31) ∧
      byteAt bs 3 = p.flags ∧ fieldAt bs 4 2 = p.payload.length ∧ (bs.drop 6).take p.payload.length = p.payload ∧
      wordAt bs (6 + p.payload.length) = checkOf (bs.take (6 + p.payload.length))) ∧
  ∀ (clean : Bool) (bytes : List Byte) (p : Parcel), readParcel clean bytes = some p →
    clean = true ∧ p.payload.length ≤ 1472 ∧ parcelBytes p = bytes

/-- R158, R160 and ch. 11: what READ ENTRIES gives of a berth's configured part, a settings set, a class, a zone and
the loaded fields of the part settings, LOAD ENTRIES takes as valid and reads back as the same value. Of a chain entry
the three loaded fields are read back as they stand. Entry i of the profile, class and zone tables holds record i.
Every byte stands where ch. 11 has it, the read-only ones too: the live part of a berth, and the bytes of a chain, a
stream and a channel. -/
def Obligations.EntryRoundTrip : Prop :=
  (∀ c : BerthConfig,
    let e := berthConfigBytes c
    e.length = 10 ∧ entryGood .berth e = true ∧ berthConfigOf e = c ∧
      byteAt e 0 = BitVec.ofNat 8 c.profile.val ∧
      byteAt e 1 = (match c.quietSource with | .none => 0 | .a => 1 | .b => 2 | .either => 3) ∧
      fieldAt e 2 4 = c.allowed.toNat ∧
      byteAt e 6 = ((c.alightStop.map fun v => BitVec.ofNat 8 v.val).getD 0xFF) ∧
      byteAt e 7 = ((c.defaultAudio.map fun v => BitVec.ofNat 8 v.val).getD 0xFF) ∧
      byteAt e 8 = ((c.defaultVideo.map fun v => BitVec.ofNat 8 v.val).getD 0xFF) ∧
      byteAt e 9 = BitVec.ofNat 8 c.defaultLevel.val) ∧
  (∀ x y : Settings, (settingsBytes x ++ settingsBytes y).length = 18 ∧
    entryGood .profile (settingsBytes x ++ settingsBytes y) = true ∧
    settingsOf (settingsBytes x ++ settingsBytes y) = x ∧
    settingsOf ((settingsBytes x ++ settingsBytes y).drop 9) = y) ∧
  (∀ x : Settings,
    let e := settingsBytes x
    e.length = 9 ∧ byteAt e 0 = BitVec.ofNat 8 x.headphoneCeiling.val ∧
      byteAt e 1 = BitVec.ofNat 8 x.speakerCeiling.val ∧ byteAt e 2 = BitVec.ofNat 8 x.onBrightness.val ∧
      byteAt e 3 = BitVec.ofNat 8 x.dimBrightness.val ∧ byteAt e 4 = BitVec.ofNat 8 x.glideStep.val ∧
      fieldAt e 5 2 = x.idleToDim.val ∧ fieldAt e 7 2 = x.idleToSleep.val) ∧
  (∀ c : ClassEntry,
    let e := classEntryBytes c
    e.length = 5 ∧ entryGood .cls e = true ∧ classEntryOf e = c ∧ fieldAt e 0 2 = c.duckTarget.val ∧
      byteAt e 2 = BitVec.ofNat 8 c.duckStep.val ∧ byteAt e 3 = BitVec.ofNat 8 c.level.val ∧
      byteAt e 4 = BitVec.ofNat 8 c.lead.val) ∧
  (∀ z : BitVec 48, (beBytes 6 z.toNat).length = 6 ∧ BitVec.ofNat 48 (fieldAt (beBytes 6 z.toNat) 0 6) = z) ∧
  (∀ s : State,
    (∀ i : Fin 4, s.entryBytes .profile i.val =
      settingsBytes s.profiles[i].day ++ settingsBytes s.profiles[i].night) ∧
    (∀ i : Fin 4, s.entryBytes .cls i.val = classEntryBytes s.classes[i]) ∧
    ∀ z : Fin 16, s.entryBytes .zone z.val = beBytes 6 s.zones[z].toNat) ∧
  (∀ s : State, 60 ≤ s.mgmt.settings.threshold → s.mgmt.settings.threshold ≤ 125 →
    let e := s.entryBytes .settings 0
    let p := s.mgmt.settings
    let mode := fun m : QuietMode => match m with | .follow => 0#8 | .forceOn => 1 | .forceOff => 2
    e.length = 10 ∧ entryGood .settings e = true ∧ partSettingsOf e = p ∧
      byteAt e 0 = BitVec.ofNat 8 p.recoveryStep.val ∧ byteAt e 1 = BitVec.ofNat 8 p.threshold ∧
      byteAt e 2 = (if p.faultMask.markLoss then 1 else 0) + (if p.faultMask.overheat then 2 else 0) +
        (if p.faultMask.backboneDown then 4 else 0) ∧
      wordAt e 3 = p.attentionMask ∧ byteAt e 5 = mode p.modeQA ∧ byteAt e 6 = mode p.modeQB ∧
      byteAt e 7 = (if s.timer.qa.accepted then 1 else 0) + (if s.timer.qb.accepted then 2 else 0) ∧
      fieldAt e 8 2 = ((List.finRange 256).filter fun i => s.store[i] ≠ none).length) ∧
  (∀ (s : State) (c : ChainIx), s.chains[c].budget ≤ 10752 → 1 ≤ s.chains[c].ratio → s.chains[c].ratio ≤ 15 →
    let e := s.entryBytes .chain c.val
    e.length = 11 ∧ entryGood .chain e = true ∧ byteAt e 0 = (if s.chains[c].enabled then 1 else 0) ∧
      fieldAt e 1 2 = s.chains[c].budget ∧ byteAt e 3 = BitVec.ofNat 8 s.chains[c].ratio ∧
      clampBudget (fieldAt e 1 2) = s.chains[c].budget ∧ clampRatio (byteAt e 3).toNat = s.chains[c].ratio ∧
      e.drop 4 = [if s.chains[c].link then 1 else 0, BitVec.ofNat 8 s.chains[c].priority.length,
        BitVec.ofNat 8 s.chains[c].program.length, BitVec.ofNat 8 s.chains[c].wait,
        BitVec.ofNat 8 s.chains[c].queries.length, if s.chains[c].inFlight = none then 0 else 1,
        BitVec.ofNat 8 s.chains[c].results.length]) ∧
  (∀ (s : State) (b : BerthIx),
    let r := s.berths[b]
    let e := s.entryBytes .berth b.val
    let live := e.drop 10
    r.idle ≤ 1023 → r.ap ≤ 256 → r.ad ≤ 256 →
    e.length = 34 ∧ e.take 10 = berthConfigBytes r.config ∧
      byteAt live 0 = (match r.presence with | .absent => 0 | .joining => 1 | .present => 2) ∧
      byteAt live 1 = BitVec.ofNat 8 r.validRun ∧ byteAt live 2 = BitVec.ofNat 8 r.missingRun ∧
      byteAt live 3 = (match r.awake with | .asleep => 0 | .awake => 1 | .dimmed => 2) ∧
      fieldAt live 4 2 = r.idle ∧
      byteAt live 6 = ((r.audio.map fun v => BitVec.ofNat 8 v.val).getD 0xFF) ∧
      byteAt live 7 = ((r.video.map fun v => BitVec.ofNat 8 v.val).getD 0xFF) ∧
      byteAt live 8 = BitVec.ofNat 8 r.level.val ∧
      byteAt live 9 = (if r.headphone then 1 else 0) + (if r.unitFault then 2 else 0) + (if r.ducked then 4 else 0) +
        (if r.regime = .night then 8 else 0) ∧
      byteAt live 10 = ((r.governing.map fun a => BitVec.ofNat 8 a.val).getD 0xFF) ∧
      fieldAt live 11 2 = r.ap ∧ fieldAt live 13 2 = r.ad ∧ live.drop 15 = settingsBytes r.settings) ∧
  (∀ (s : State) (v : StreamIx), s.entryBytes .stream v.val =
    [if s.streams[v].kind = none then 0 else 1,
      (match s.streams[v].kind with
        | some .programAudio => 1 | some .programVideo => 2 | some .captionVideo => 3 | none => 0xFF),
      (s.streams[v].ring.map fun r => BitVec.ofNat 8 r.val).getD 0xFF,
      BitVec.ofNat 8 (match s.streams[v].ring with
        | some r => ((List.finRange 16).filter fun i => s.rings[r][i] ≠ none).length
        | none => 0)]) ∧
  ∀ (s : State) (a : ChannelIx),
    let ch := s.channels[a]
    let e := s.entryBytes .channel a.val
    e.length = 20 ∧
      byteAt e 0 = (match ch.state with | .idle => 0 | .ducking => 1 | .lead => 2 | .playing => 3) ∧
      byteAt e 1 = ((ch.cls.map fun c => BitVec.ofNat 8 c.index.val).getD 0xFF) ∧ fieldAt e 2 6 = ch.reach.toNat ∧
      byteAt e 8 = ((ch.caption.map fun v => BitVec.ofNat 8 v.val).getD 0xFF) ∧
      fieldAt e 9 2 = ((ch.leadOverride.map Fin.val).getD 0xFFFF) ∧ wordAt e 11 = ch.nextSeq ∧
      byteAt e 13 = (if ch.lastSeq = none then 0 else 1) ∧ wordAt e 14 = ch.lastSeq.getD 0 ∧
      byteAt e 16 = BitVec.ofNat 8 ch.lead ∧ byteAt e 17 = BitVec.ofNat 8 ch.stall ∧
      fieldAt e 18 2 = ((List.finRange 256).filter fun i => ch.ring[i] ≠ none).length

/-! ### Returns, keys and berths -/

/-- R20, R21, R22, R134: the close of a return window. Each slot not taken in, badly marked or badly summed is missing
and is counted as its cause says, each other slot is valid; presence and its runs move as R21 and R22 say, position by
position; berths and chains elsewhere keep their presence and their records. The windows of a chain are a queue, of
which a close takes the oldest (the model's choice, log 9). At a cycle start the windows superseded by the new frames
close after it, as so many closes: of the chains the command names, in its order and with its slots, and then of the
others in chain order, with every slot missing (log 9). A slot that is missing or invalid changes nothing of an ABSENT
berth, sends a JOINING one back to ABSENT with headphone and unit fault no, uncounted and unlatched, raises the missing
run of a PRESENT one, and at its sixteenth sends that to ABSENT with all that R24 brings (EntersAbsent). Each valid
slot is taken as a return with the status, keys, token and answer bytes it holds (R26), and after the eight the placed
query in flight has waited one window more and ends NO ANSWER at its eighth (R138). Position p of chain c is berth
8c + p. -/
def Obligations.WindowCloses : Prop :=
  (∀ (c : ChainIx) (p : PosIx), (berthAt c p).val = 8 * c.val + p.val ∧ chainOf (berthAt c p) = c ∧
    posOf (berthAt c p) = p) ∧
  (∀ (c : ChainIx) (w : Window) (ws : List Window) (slots : ReturnSlots) (s : State), s.held = none →
    s.chains[c].windows = w :: ws →
    let u := { s with chains := s.chains.set c { s.chains[c] with windows := ws } }
    exec (.returnWindowClose c slots) s =
      .next (((List.finRange 8).foldl (fun x p => x.takeSlot c w.judges p slots[p]) u).countWindow c w.judges)) ∧
  (∀ (r : WindowReturn) (rs : List WindowReturn) (s : State), s.held = none →
    (s.chains[r.chain].windows.length ≤ 1 → s.closeAllSuperseded (r :: rs) = s.closeAllSuperseded rs) ∧
    (2 ≤ s.chains[r.chain].windows.length → ∃ u, exec (.returnWindowClose r.chain r.slots) s = .next u ∧
      s.closeAllSuperseded (r :: rs) = u.closeAllSuperseded rs)) ∧
  (∀ s : State, s.held = none →
    ((∀ c : ChainIx, s.chains[c].windows.length ≤ 1) → s.closeAllSuperseded [] = s) ∧
    ∀ c : ChainIx, s.chains[c].windows.length = 2 → (∀ c' < c, s.chains[c'].windows.length ≤ 1) →
      ∃ u, exec (.returnWindowClose c (Vector.replicate 8 none)) s = .next u ∧
        s.closeAllSuperseded [] = u.closeAllSuperseded []) ∧
  (∀ (c : ChainIx) (p : PosIx) (judges : Bool) (v : SlotBytes) (s : State), ValidSlot (some v) →
    ∃ r : ReturnData, r.headphone = v[1].getLsbD 0 ∧ r.unitFault = v[1].getLsbD 1 ∧ r.key1 = v[2] ∧ r.key2 = v[3] ∧
      r.token = v[4] ∧ (∀ i : Fin 16, r.answer[i] = v[i.val + 5]) ∧
      s.takeSlot c judges p (some v) =
        State.takeReturn { s with chains := s.chains.set c { s.chains[c] with
          counts := { s.chains[c].counts with returnsValid := bump s.chains[c].counts.returnsValid } } }
          (berthAt c p) judges r) ∧
  (∀ (c : ChainIx) (p : PosIx) (judges : Bool) (slot : Option SlotBytes) (s : State), ¬ ValidSlot slot →
    let b := berthAt c p
    let r := s.berths[b]
    let k := s.chains[c].counts
    let u := { s with chains := s.chains.set c { s.chains[c] with
      counts := if slot = none then { k with returnsMissing := bump k.returnsMissing }
        else { k with returnsInvalid := bump k.returnsInvalid } } }
    let t := s.takeSlot c judges p slot
    (r.presence = .absent → t = u) ∧
    (r.presence = .joining → t = { u with berths := u.berths.set b (joiningLeft r) }) ∧
    (r.presence = .present → r.missingRun < 15 →
      t = { u with berths := u.berths.set b { r with missingRun := r.missingRun + 1 } }) ∧
    (r.presence = .present → 15 ≤ r.missingRun → EntersAbsent u t b)) ∧
  (∀ (c : ChainIx) (judges : Bool) (s : State),
    let t := s.countWindow c judges
    (judges = false ∨ (∀ q, s.chains[c].inFlight = some q → q.placed = false) → t = s) ∧
    ∀ q, s.chains[c].inFlight = some q → q.placed = true → judges = true →
      (q.waited < 7 → t = { s with chains := s.chains.set c { s.chains[c] with
        inFlight := some { q with waited := q.waited + 1 } } }) ∧
      (7 ≤ q.waited → t = { s with chains := s.chains.set c t.chains[c] } ∧
        NextQueries s c { queryEnded s.chains[c] c q .noAnswer none with
          counts := { s.chains[c].counts with noAnswer := bump s.chains[c].counts.noAnswer } } t.chains[c])) ∧
  ∀ (c : ChainIx) (slots : ReturnSlots) (s : State), s.held = none → s.chains[c].windows ≠ [] →
    ∃ t, exec (.returnWindowClose c slots) s = .next t ∧
      t = { s with berths := t.berths, calls := t.calls, chains := t.chains, channels := t.channels
                   mgmt := { s.mgmt with presence := t.mgmt.presence } } ∧
      t.chains[c].windows.map Window.cycle = (s.chains[c].windows.map Window.cycle).tail ∧
      (∀ c' : ChainIx, c' ≠ c → t.chains[c'] = s.chains[c']) ∧
      (∀ (p : PosIx) (valid : Bool), (valid = true ↔ ValidSlot slots[p]) →
        (t.berths[berthAt c p].presence, t.berths[berthAt c p].validRun, t.berths[berthAt c p].missingRun) =
          presenceAfter s.berths[berthAt c p] valid) ∧
      (∀ b : BerthIx, chainOf b ≠ c → t.berths[b] = { s.berths[b] with
        governing := t.berths[b].governing, ducked := t.berths[b].ducked }) ∧
      t.chains[c].counts.returnsMissing = addCount s.chains[c].counts.returnsMissing
        ((List.finRange 8).filter fun p => slots[p] = none).length ∧
      ∀ valid : PosIx → Bool, (∀ p, valid p = true ↔ ValidSlot slots[p]) →
        t.chains[c].counts.returnsValid = addCount s.chains[c].counts.returnsValid
          ((List.finRange 8).filter valid).length ∧
        t.chains[c].counts.returnsInvalid = addCount s.chains[c].counts.returnsInvalid
          ((List.finRange 8).filter fun p => slots[p] ≠ none ∧ valid p = false).length

/-- R21, R22, R23, R26, R31, R35, R36, R37, R138: the steps of one valid return, in their order. Presence advances: an
ABSENT berth is JOINING, a JOINING one counts the return and with the fourth becomes PRESENT with all that brings
(BecomesPresent), and a PRESENT one clears its missing run. Then headphone and unit fault are recorded and their
changes counted. On a berth that was PRESENT before, in SERVICE, each key code 1..9 is applied, and a CALL key appends
the berth to the call list unless it is listed; every other key code but 0 is discarded. A token that answers the
placed query of this position, in a window that counts for it, ends it ANSWERED, the next may start (R137), and an open
window then counts for no later query (the model's field for R138, log 9); any other token but 0 is foreign. -/
def Obligations.ReturnTaken : Prop :=
  ∀ (c : ChainIx) (p : PosIx) (judges : Bool) (r : ReturnData) (s : State),
    let b := berthAt c p
    let x := s.berths[b]
    let live := x.presence = .present ∧ s.mgmt.mode = .service
    let named := ([r.key1, r.key2].filter fun k => decide (1 ≤ k.toNat ∧ k.toNat ≤ 9)).length
    let pressed := ([r.key1, r.key2].filter fun k => decide (k ≠ 0)).length
    let calls := live ∧ (r.key1 = 9 ∨ r.key2 = 9) ∧ b ∉ s.calls
    let press := fun (code : Byte) (y : Berth) => match keyOf code with
      | some key => s.keyed key y
      | none => y
    ∃ u v : State,
      (x.presence = .absent → u = { s with berths := s.berths.set b { x with presence := .joining, validRun := 1 } }) ∧
      (x.presence = .joining → x.validRun < 3 →
        u = { s with berths := s.berths.set b { x with validRun := x.validRun + 1 } }) ∧
      (x.presence = .joining → 3 ≤ x.validRun → BecomesPresent s u b) ∧
      (x.presence = .present → u = { s with berths := s.berths.set b { x with missingRun := 0 } }) ∧
      v = { u with berths := u.berths.set b v.berths[b], calls := v.calls, chains := u.chains.set c v.chains[c] } ∧
      (live → v.berths[b] = press r.key2 (press r.key1
        { u.berths[b] with headphone := r.headphone, unitFault := r.unitFault })) ∧
      (¬ live → v.berths[b] = { u.berths[b] with headphone := r.headphone, unitFault := r.unitFault }) ∧
      (calls → v.calls = s.calls ++ [b]) ∧ (¬ calls → v.calls = s.calls) ∧
      (let k := u.chains[c].counts
       ∃ applied placed : Nat, (live → applied = named) ∧ (¬ live → applied = 0) ∧
        (calls → placed = 1) ∧ (¬ calls → placed = 0) ∧
        v.chains[c] = { u.chains[c] with counts := { k with
          headphoneChanges := if x.headphone = r.headphone then k.headphoneChanges else bump k.headphoneChanges
          unitFaults := if x.unitFault = false ∧ r.unitFault = true then bump k.unitFaults else k.unitFaults
          keysApplied := addCount k.keysApplied applied
          keysDiscarded := addCount k.keysDiscarded (pressed - applied)
          callsPlaced := addCount k.callsPlaced placed } }) ∧
      TokenTaken v (s.takeReturn b judges r) c p judges r.token r.answer

/-- R29 to R33: a key on the record of a PRESENT berth. A sleeping berth is woken by the VIDEO, SCREEN and TOUCH keys,
which makes it AWAKE with idle seconds 0, and by no other, under which it stays ASLEEP with its idle seconds; a VIDEO
key that wakes steps nothing. On any other berth a key zeroes the idle seconds and makes it AWAKE before its own
effect, which for SCREEN is to put it to sleep. Levels stay at 15 and at 0. A key changes nothing of the record but the
awake state, the idle seconds, the level and the two selections. In the circular order of none and the choices, NEXT
and PREV undo each other, and NEXT goes from none to the lowest choice. The nine key codes name the keys as ch. 11
lists them. -/
def Obligations.KeyRules : Prop :=
  (∀ code : Byte, keyOf code = match code.toNat with
    | 1 => some .volumeUp | 2 => some .volumeDown | 3 => some .audioNext | 4 => some .audioPrev | 5 => some .videoNext
    | 6 => some .videoPrev | 7 => some .screen | 8 => some .touch | 9 => some .call | _ => none) ∧
  (∀ (s : State) (k : Key) (b : Berth), b.presence = .present →
    let wakes := k = .videoNext ∨ k = .videoPrev ∨ k = .screen ∨ k = .touch
    s.keyed k b = { b with
      awake := (s.keyed k b).awake, idle := (s.keyed k b).idle, level := (s.keyed k b).level
      audio := (s.keyed k b).audio, video := (s.keyed k b).video } ∧
    (b.awake = .asleep → wakes → (s.keyed k b).awake = .awake ∧ (s.keyed k b).idle = 0) ∧
    (b.awake = .asleep → ¬ wakes → (s.keyed k b).awake = .asleep ∧ (s.keyed k b).idle = b.idle) ∧
    (b.awake = .asleep → (s.keyed k b).video = b.video) ∧
    (b.awake ≠ .asleep → (s.keyed k b).idle = 0 ∧ (s.keyed k b).awake = if k = .screen then .asleep else .awake) ∧
    (s.keyed k b).level.val =
      (if k = .volumeUp then min 15 (b.level.val + 1) else if k = .volumeDown then b.level.val - 1
        else b.level.val) ∧
    (k ≠ .audioNext → k ≠ .audioPrev → (s.keyed k b).audio = b.audio) ∧
    (k ≠ .videoNext → k ≠ .videoPrev → (s.keyed k b).video = b.video) ∧
    (k = .audioNext → (s.keyed k b).audio = stepNext (s.choices .programAudio b.config.allowed) b.audio) ∧
    (k = .audioPrev → (s.keyed k b).audio = stepPrev (s.choices .programAudio b.config.allowed) b.audio) ∧
    (b.awake ≠ .asleep → k = .videoNext →
      (s.keyed k b).video = stepNext (s.choices .programVideo b.config.allowed) b.video) ∧
    (b.awake ≠ .asleep → k = .videoPrev →
      (s.keyed k b).video = stepPrev (s.choices .programVideo b.config.allowed) b.video)) ∧
  ∀ (s : State) (kind : StreamKind) (allowed : BitVec 32) (cur : Option StreamIx),
    (∀ v, cur = some v → s.streams[v].kind = some kind ∧ allowed.getLsbD v.val = true) →
    let cs := s.choices kind allowed
    stepPrev cs (stepNext cs cur) = cur ∧ stepNext cs (stepPrev cs cur) = cur ∧
    (∀ v, stepNext cs cur = some v →
      s.streams[v].kind = some kind ∧ allowed.getLsbD v.val = true ∧
        ∀ w : StreamIx, s.streams[w].kind = some kind → allowed.getLsbD w.val = true →
          (∀ u, cur = some u → u < w) → v ≤ w) ∧
    (stepNext cs cur = none → ∀ w : StreamIx, s.streams[w].kind = some kind → allowed.getLsbD w.val = true →
      ∃ u, cur = some u ∧ w ≤ u)

/-- R23, R27: a JOINING berth at its fourth valid return becomes PRESENT. In SERVICE it is join-initialised, with its
defaults kept only where their stream is open as the right kind and allowed; PRESENCE is latched, the join is counted,
its governing announcement is the one that R79 gives, and each channel evaluates its release. -/
def Obligations.BerthJoins : Prop :=
  ∀ (b : BerthIx) (s : State), s.held = none → s.berths[b].presence = .joining → s.berths[b].validRun = 3 →
    ∃ t, exec (.berthPresent b) s = .next t ∧ BecomesPresent s t b

/-- R24: a PRESENT berth at its sixteenth missing return enters ABSENT. It is ASLEEP, ungoverned, with Ap 0 and Ad 256,
and off the call list, and it keeps its configured part, selections, level, regime and settings; each channel evaluates
its release; a query in flight for it ends ABSENT, the next may start (R137), and an open window then counts for no
later query (the model's field for R138, log 9); PRESENCE is latched and the loss counted. -/
def Obligations.BerthLeaves : Prop :=
  ∀ (b : BerthIx) (s : State), s.held = none → s.berths[b].presence = .present → s.berths[b].missingRun = 15 →
    ∃ t, exec (.berthAbsent b) s = .next t ∧ EntersAbsent s t b

/-- R128, R129, R25, R123: a link that goes DOWN discards the chain's queries without results, sends its berths to
ABSENT as R24 and R25 say, flushes its queues and releases their references, abandons its windows and discards its
waiting frame, and counts the loss; a link that comes UP changes no other state. The frame on the line is completed
(the model's reading, log 10). On a chain that is disabled already, queries queued behind 4 results are discarded and
counted by this second stop (the model's reading, log 26). Every listed berth is PRESENT in every state that a run
reaches (CallLaw). -/
def Obligations.ChainLinkRows : Prop :=
  (∀ (c : ChainIx) (s : State), s.held = none → s.chains[c].link = true →
    ∃ t, exec (.chainLinkDown c) s = .next t ∧
      t = { s with pins := { s.pins with chainLines := s.pins.chainLines.set c false }, berths := t.berths
                   calls := t.calls, channels := t.channels, chains := t.chains
                   store := t.store, mgmt := { s.mgmt with presence := t.mgmt.presence } } ∧
      ChainStopped s t c ∧
      t.chains[c] = { s.chains[c] with
        link := false, priority := [], program := [], wait := 0, waiting := none, windows := [], queries := []
        inFlight := none
        counts := { s.chains[c].counts with
          linkDowns := bump s.chains[c].counts.linkDowns
          queriesDiscarded := addCount s.chains[c].counts.queriesDiscarded
            (s.chains[c].queries.length + if s.chains[c].inFlight.isSome then 1 else 0)
          presenceLost := addCount s.chains[c].counts.presenceLost
            ((List.finRange 8).filter fun p => s.berths[berthAt c p].presence = .present).length
          flushed := addCount s.chains[c].counts.flushed
            (s.chains[c].priority.length + s.chains[c].program.length) } }) ∧
  ∀ (c : ChainIx) (s : State), s.held = none →
    exec (.chainLinkUp c) s = .next { s with
      pins := { s.pins with chainLines := s.pins.chainLines.set c true }
      chains := s.chains.set c { s.chains[c] with link := true } }

/-- R137, R138: a placed query that has waited its eighth window ends NO ANSWER, its result is appended, and the engine
starts the next queries that it can; an open window then counts for no later query (the model's field for R138, log 9).
-/
def Obligations.QueryUnanswered : Prop :=
  ∀ (c : ChainIx) (q : InFlight) (s : State), s.held = none → s.chains[c].inFlight = some q → q.placed = true →
    q.waited = 7 →
    let result : QueryResult :=
      { chain := c, pos := q.query.pos, code := q.query.code, outcome := .noAnswer, answer := none }
    ∃ t, exec (.noAnswer c) s = .next t ∧ t = { s with chains := s.chains.set c t.chains[c] } ∧
      NextQueries s c { queryEnded s.chains[c] c q .noAnswer none with
        counts := { s.chains[c].counts with noAnswer := bump s.chains[c].counts.noAnswer } } t.chains[c] ∧
      (s.chains[c].queries = [] →
        t.chains[c].inFlight = none ∧ t.chains[c].results = s.chains[c].results ++ [result] ∧
          t.chains[c].nextToken = s.chains[c].nextToken) ∧
      (∀ n ns, s.chains[c].queries = n :: ns → s.chains[c].results.length < 3 →
        s.berths[berthAt c n.pos].presence = .present →
        t.chains[c].queries = ns ∧ t.chains[c].results = s.chains[c].results ++ [result] ∧
        t.chains[c].inFlight =
          some { query := n, token := s.chains[c].nextToken, placed := false, waited := 0 } ∧
        t.chains[c].nextToken = (if s.chains[c].nextToken = 15 then 1 else s.chains[c].nextToken + 1))

/-! ### Backbone ports -/

/-- R144, R146, R147: what the receivers and classifiers do with what is not for this part's blocks. A failed check is
counted under its first cause on the port that received the parcel; a REPLY on port U is dropped and counted; a command
to another target is queued for the through port alone; on port T replies and commands are queued for the upstream
port, and every other kind is dropped and counted. A RECEIVE_CHECK_FAILURE whose bytes pass every check changes nothing
(the model's choice, log 13). A parcel that passes is counted as received on its port, and that alone. -/
def Obligations.PortArrivals : Prop :=
  (∀ s : State,
    s.receivedU = { s with up := { s.up with counts := { s.up.counts with
      receive := { s.up.counts.receive with received := bump s.up.counts.receive.received } } } } ∧
    s.receivedT = { s with thru := { s.thru with counts := { s.thru.counts with
      receive := { s.thru.counts.receive with received := bump s.thru.counts.receive.received } } } }) ∧
  (∀ (port : Port) (clean : Bool) (bytes : List Byte) (s : State), s.held = none →
    ∃ t, exec (.receiveCheckFailure port clean bytes) s = .next t ∧ t = { s with up := t.up, thru := t.thru } ∧
      let k := if port = .upstream then s.up.counts.receive else s.thru.counts.receive
      let check := checkOf (bytes.take (bytes.length - 2))
      ∀ k', k' = (if clean = false then { k with framing := bump k.framing }
          else if bytes.length < 8 then { k with runts := bump k.runts }
          else if 1480 < bytes.length then { k with oversize := bump k.oversize }
          else if fieldAt bytes (bytes.length - 2) 2 ≠ check.toNat then { k with checks := bump k.checks }
          else if fieldAt bytes 4 2 ≠ bytes.length - 8 then { k with lengths := bump k.lengths }
          else if byteAt bytes 2 ∉ [0x01, 0x10, 0x11, 0x20, 0x21, 0x30, 0x31] then
            { k with kinds := bump k.kinds }
          else k) →
        (port = .upstream →
          t.up = { s.up with counts := { s.up.counts with receive := k' } } ∧ t.thru = s.thru) ∧
        (port = .through →
          t.thru = { s.thru with counts := { s.thru.counts with receive := k' } } ∧ t.up = s.up)) ∧
  (∀ (h : Header) (payload : List Byte) (s : State), s.held = none →
    exec (.wrongDirection h payload) s = .next { s with
      up := { s.up with counts := { s.up.counts with
        receive := { s.up.counts.receive with received := bump s.up.counts.receive.received }
        wrongDirection := bump s.up.counts.wrongDirection } } }) ∧
  (∀ (h : Header) (payload : List Byte) (s : State), s.held = none → ¬ Addressed s h →
    exec (.forwardCommand h payload) s = .next { s with
      up := s.receivedU.up, thru := s.thru.enqueue (parcelOf .command h payload) }) ∧
  ∀ (p : Parcel) (s : State), s.held = none →
    ∃ t, exec (.throughArrival p) s = .next t ∧ t = { s with up := t.up, thru := t.thru } ∧
      (p.kind = .reply ∨ p.kind = .command →
        t.thru = s.receivedT.thru ∧
        (8 ≤ s.up.queue.length → t.up = { s.up with counts := { s.up.counts with
          queueFull := bump s.up.counts.queueFull } }) ∧
        (s.up.queue.length < 8 → s.up.sending ≠ none → t.up = { s.up with queue := s.up.queue ++ [p] }) ∧
        (s.up.sending = none → s.up.slot = none → s.up.queue = [] →
          t.up = { s.up with sending := some (.forward p), lastServed := .forward })) ∧
      (p.kind ≠ .reply → p.kind ≠ .command →
        t.up = s.up ∧ t.thru = { s.thru with counts := { s.thru.counts with
          receive := { s.thru.counts.receive with received := bump s.thru.counts.receive.received }
          wrongDirection := bump s.thru.counts.wrongDirection } })

/-- R143, R148: the through port. Nothing is queued while its link is DOWN; a full queue drops and counts; the
transmitter takes the head as soon as it is idle. A link that goes DOWN discards and counts the queue and cuts off the
parcel on the line. -/
def Obligations.ThroughPortRules : Prop :=
  (∀ (t : ThroughPort) (p : Parcel),
    (t.link = false → t.enqueue p = t) ∧
    (t.link = true → 16 ≤ t.queue.length →
      t.enqueue p = { t with counts := { t.counts with queueFull := bump t.counts.queueFull } }) ∧
    (t.link = true → t.queue.length < 16 → t.sending ≠ none → t.enqueue p = { t with queue := t.queue ++ [p] }) ∧
    (t.link = true → t.sending = none → t.queue = [] → t.enqueue p = { t with sending := some p })) ∧
  (∀ s : State, s.held = none → s.thru.sending ≠ none →
    ∃ t, exec .throughSendComplete s = .next t ∧ t = { s with thru := t.thru } ∧
      t.thru.counts = { s.thru.counts with parcelsSent := bump s.thru.counts.parcelsSent } ∧
      t.thru.link = s.thru.link ∧
      (s.thru.queue = [] → t.thru.sending = none ∧ t.thru.queue = []) ∧
      (∀ p ps, s.thru.queue = p :: ps → s.thru.link = true → t.thru.sending = some p ∧ t.thru.queue = ps)) ∧
  (∀ s : State, s.held = none → s.thru.link = true →
    exec .throughLinkDown s = .next { s with
      pins := { s.pins with throughLine := false }
      thru := { s.thru with
        link := false, queue := [], sending := none
        counts := { s.thru.counts with
          discardedAtDown := addCount s.thru.counts.discardedAtDown s.thru.queue.length } } }) ∧
  ∀ s : State, s.held = none →
    exec .throughLinkUp s = .next { s with
      pins := { s.pins with throughLine := true }, thru := { s.thru with link := true } }

/-- R150, R166: the upstream transmitter completes a send, counts it, and takes the only waiting source, or of both the
one that the last-served indicator does not name; at the completion of the reply of a RESTART the part is reset, on the
pins and lines as a command last named them (the model's choice, log 22). -/
def Obligations.UpstreamSendRule : Prop :=
  ∀ (x : Sending) (s : State), s.held = none → s.up.sending = some x →
    ∃ t, exec .upstreamSendComplete s = .next t ∧
      (∀ r, x = .reply r → r.restart = true →
        t = { State.afterReset s.pins with pending := s.pending, draws := s.draws }) ∧
      ((∀ r, x = .reply r → r.restart = false) →
        t = { s with up := t.up } ∧
        t.up.counts = (match x with
          | .reply _ => { s.up.counts with repliesSent := bump s.up.counts.repliesSent }
          | .forward _ => { s.up.counts with parcelsSent := bump s.up.counts.parcelsSent }) ∧
        (s.up.slot = none → s.up.queue = [] → t.up.sending = none ∧ t.up.lastServed = s.up.lastServed) ∧
        (∀ r, s.up.slot = some r → s.up.queue = [] ∨ s.up.lastServed = .forward →
          t.up.sending = some (.reply r) ∧ t.up.slot = none ∧ t.up.queue = s.up.queue ∧
            t.up.lastServed = .reply) ∧
        (∀ p ps, s.up.queue = p :: ps → s.up.slot = none ∨ s.up.lastServed = .reply →
          t.up.sending = some (.forward p) ∧ t.up.queue = ps ∧ t.up.slot = s.up.slot ∧
            t.up.lastServed = .forward))

/-! ### Management commands -/

/-- R160 to R165: the reading commands change nothing but the ports, and their replies carry what they report as it
stands, the counts of port U with the parcel of the command itself (log 25). The attention set has bit 0 CALL, bits
1..6 QUERY, bit 7 FAULT, bits 8..13 PRESENCE, bits 14..15 ANNOUNCE STALL. A group code and an index name their group,
its counts are returned in the order of ch. 11, and a count stops at its largest value (R17). -/
def Obligations.ReadingCommands : Prop :=
  (∀ (k : Count) (n : Nat), (addCount k n).toNat = min 4294967295 (k.toNat + n) ∧ bump k = addCount k 1) ∧
  (∀ f : FaultBits, faultByte f = (if f.markLoss then 1 else 0) + (if f.overheat then 2 else 0) +
    (if f.backboneDown then 4 else 0)) ∧
  (∀ index : Byte, groupOf 1 index = .ok .portU ∧ groupOf 2 index = .ok .portT ∧ groupOf 6 index = .ok .part ∧
    (∀ v : StreamIx, index.toNat = v.val → groupOf 3 index = .ok (.stream v)) ∧
    (∀ a : ChannelIx, index.toNat = a.val → groupOf 4 index = .ok (.channel a)) ∧
    ∀ c : ChainIx, index.toNat = c.val → groupOf 5 index = .ok (.chain c)) ∧
  (∀ s : State,
    (let k := s.up.counts
     let r := k.receive
     s.groupCounts .portU = [r.received, r.framing, r.runts, r.oversize, r.checks, r.lengths, r.kinds, k.wrongDirection,
       k.notInService, k.unusedStream, k.badPayload, k.queueFull, k.parcelsSent, k.repliesSent, k.repliesDiscarded]) ∧
    (let k := s.thru.counts
     let r := k.receive
     s.groupCounts .portT = [r.received, r.framing, r.runts, r.oversize, r.checks, r.lengths, r.kinds, k.wrongDirection,
       k.queueFull, k.parcelsSent, k.discardedAtDown]) ∧
    (∀ v : StreamIx, let k := s.streams[v].counts
      s.groupCounts (.stream v) = [k.accepted, k.late, k.early, k.duplicate, k.underrun]) ∧
    (∀ a : ChannelIx, let k := s.channels[a].counts
      s.groupCounts (.channel a) = [k.accepted, k.stale, k.duplicate, k.gapCycles, k.cuesRefused]) ∧
    (∀ c : ChainIx, let k := s.chains[c].counts
      s.groupCounts (.chain c) = [k.presenceGained, k.presenceLost, k.keysApplied, k.keysDiscarded, k.callsPlaced,
        k.headphoneChanges, k.unitFaults, k.mixClips, k.oversize, k.queueFull, k.sent, k.lateDiscards, k.flushed,
        k.framesSent, k.framesSkipped, k.linkDowns, k.returnsValid, k.returnsMissing, k.returnsInvalid, k.queriesSent,
        k.answered, k.noAnswer, k.absentOutcomes, k.foreignTokens, k.queriesDiscarded]) ∧
    let k := s.counts
    s.groupCounts .part = [k.marksTaken, k.earlyMarks, k.slips, k.selfStarts, k.markLossRaises, k.overheatRaises,
      k.backboneDownRaises, k.qaChanges, k.qbChanges, k.regimeChanges, k.noDemand, k.unplaced, k.storeFull]) ∧
  ∀ (h : Header) (s : State), s.held = none → Addressed s h →
    (∃ t, exec (.identify h []) s = .next t ∧ t = { s with up := t.up, thru := t.thru } ∧
      Answers s t h [0x01] 0 0
        ([0x18, 0x50, 1, BitVec.ofNat 8 s.node.strap.toNat, s.node.address,
          (if s.node.fault then 1 else 0) + (if s.mgmt.mode = .service then 2 else 0)] ++
          beBytes 2 s.timer.cycle.toNat ++ beBytes 2 s.timer.missedRun ++
          beBytes 2 (BitVec.ofInt 16 s.faults.temperature).toNat ++
          [faultByte s.faults.flags, faultByte s.mgmt.settings.faultMask])) ∧
    (∃ t, exec (.readAttention h []) s = .next t ∧ t = { s with up := t.up, thru := t.thru } ∧
      Answers s t h [0x0A] 0 0 (beBytes 2 (s.attentionSet &&& s.mgmt.settings.attentionMask).toNat)) ∧
    (∃ t, exec (.readCalls h []) s = .next t ∧ t = { s with up := t.up, thru := t.thru } ∧
      Answers s t h [0x0C] 0 0 (BitVec.ofNat 8 s.calls.length :: s.calls.map fun b => BitVec.ofNat 8 b.val)) ∧
    (∀ (group index : Byte) (g : Group), groupOf group index = .ok g →
      ∃ t, exec (.readCounters h [group, index]) s = .next t ∧ t = { s with up := t.up, thru := t.thru } ∧
        Answers s t h [0x08, group, index] 0 0
          (BitVec.ofNat 8 (s.receivedU.groupCounts g).length ::
            (s.receivedU.groupCounts g).flatMap fun k => beBytes 4 k.toNat)) ∧
    (∀ rs : List ReadRange, 1 ≤ rs.length → rs.length ≤ 4 →
      (∀ x ∈ rs, tableOf x.code = some x.table ∧
        (x.first.toNat + x.count.toNat ≤ x.table.entries ∨ x.count = 0)) →
      3 + (rs.map fun x => 3 + x.count.toNat * x.table.readSize).sum ≤ 1472 →
      let body := rs.flatMap fun x => [x.code, x.first, x.count]
      ∃ t, exec (.readEntries h body) s = .next t ∧ t = { s with up := t.up, thru := t.thru } ∧
        Answers s t h (0x03 :: body) 0 0
          (rs.flatMap fun x => [x.code, x.first, x.count] ++
            (List.range x.count.toNat).flatMap fun j => s.entryBytes x.table (x.first.toNat + j))) ∧
    (s.attentionSet.getLsbD 0 = true ↔ s.calls ≠ []) ∧
    (∀ c : ChainIx, s.attentionSet.getLsbD (1 + c.val) = true ↔ s.chains[c].results ≠ []) ∧
    (s.attentionSet.getLsbD 7 = true ↔ s.faults.flags.markLoss = true ∨ s.faults.flags.overheat = true ∨
      s.faults.flags.backboneDown = true) ∧
    (∀ c : ChainIx, s.attentionSet.getLsbD (8 + c.val) = s.mgmt.presence[c]) ∧
    (∀ a : ChannelIx, s.attentionSet.getLsbD (14 + a.val) = s.mgmt.stall[a]) ∧
    s.attentionReported = s.attentionSet &&& s.mgmt.settings.attentionMask

/-- R153: an unknown command is refused UNKNOWN COMMAND with its code as detail, an empty payload BAD LENGTH under the
code 00h, and a body of the wrong length of a command with a fixed body BAD LENGTH with detail 0; none of them changes
the part. R149: the flags of a reply have bit 7 clear, bit 6 for accepted, bit 5 for attention, bit 4 zero, and the tag
of the command; a reply is wanted where bit 7 of the command's flags is set. -/
def Obligations.CommandRefused : Prop :=
  (∀ (h : Header) (accepted attention : Bool),
    let f := replyFlags h accepted attention
    replyWanted h = h.flags.getLsbD 7 ∧ f.getLsbD 7 = false ∧ f.getLsbD 6 = accepted ∧ f.getLsbD 5 = attention ∧
      f.getLsbD 4 = false ∧ ∀ i < 4, f.getLsbD i = h.flags.getLsbD i) ∧
  ∀ (h : Header) (s : State), s.held = none → Addressed s h →
    (∀ (code : Byte) (body : List Byte), code = 0 ∨ 0x14#8 < code →
      ∃ t, exec (.unknownCommand h (code :: body)) s = .next t ∧ Refuses s t h (code :: body) 0x01 code) ∧
    (∃ t, exec (.unknownCommand h []) s = .next t ∧ Refuses s t h [] 0x02 0) ∧
    ∀ (body : List Byte) (c : Instr) (code : Byte) (len : Nat),
      (c, code, len) ∈ [(Instr.identify h body, 0x01#8, 0), (Instr.openStream h body, 0x04#8, 2),
        (Instr.closeStream h body, 0x05#8, 1), (Instr.resetBerth h body, 0x06#8, 1),
        (Instr.setBerthActive h body, 0x07#8, 11), (Instr.readCounters h body, 0x08#8, 2),
        (Instr.clearCounters h body, 0x09#8, 2), (Instr.readAttention h body, 0x0A#8, 0),
        (Instr.clearAttention h body, 0x0B#8, 2), (Instr.readCalls h body, 0x0C#8, 0),
        (Instr.acknowledgeCalls h body, 0x0D#8, 6), (Instr.clearFaults h body, 0x0E#8, 0),
        (Instr.enterService h body, 0x0F#8, 0), (Instr.enterConfiguration h body, 0x10#8, 0),
        (Instr.berthQuery h body, 0x11#8, 11), (Instr.fetchQueryResults h body, 0x12#8, 1),
        (Instr.abortQueries h body, 0x13#8, 1), (Instr.restart h body, 0x14#8, 0)] →
      body.length ≠ len →
      ∃ t, exec c s = .next t ∧ Refuses s t h (code :: body) 0x02 0

/-- R146, R153: a command to another target is queued for the through port alone, whatever it is; and a payload that
carries the code of a command is that command, in the FORWARD_COMMAND and UNKNOWN_COMMAND rows too (the model's reading
of operands that do not fit those rows, log 14). -/
def Obligations.CommandAddressing : Prop :=
  ∀ (h : Header) (body : List Byte) (s : State), s.held = none →
    (∀ (c : Instr) (code : Byte),
      (c, code) ∈ [(Instr.identify h body, 0x01#8), (Instr.loadEntries h body, 0x02#8),
        (Instr.readEntries h body, 0x03#8), (Instr.openStream h body, 0x04#8), (Instr.closeStream h body, 0x05#8),
        (Instr.resetBerth h body, 0x06#8), (Instr.setBerthActive h body, 0x07#8), (Instr.readCounters h body, 0x08#8),
        (Instr.clearCounters h body, 0x09#8), (Instr.readAttention h body, 0x0A#8),
        (Instr.clearAttention h body, 0x0B#8), (Instr.readCalls h body, 0x0C#8),
        (Instr.acknowledgeCalls h body, 0x0D#8), (Instr.clearFaults h body, 0x0E#8), (Instr.enterService h body, 0x0F#8),
        (Instr.enterConfiguration h body, 0x10#8), (Instr.berthQuery h body, 0x11#8),
        (Instr.fetchQueryResults h body, 0x12#8), (Instr.abortQueries h body, 0x13#8), (Instr.restart h body, 0x14#8)] →
      (¬ Addressed s h → exec c s = .next { s with
        up := s.receivedU.up, thru := s.thru.enqueue (parcelOf .command h (code :: body)) }) ∧
      exec (.forwardCommand h (code :: body)) s = exec c s ∧ exec (.unknownCommand h (code :: body)) s = exec c s) ∧
    (¬ Addressed s h → exec (.unknownCommand h body) s = .next { s with
      up := s.receivedU.up, thru := s.thru.enqueue (parcelOf .command h body) })

/-- R158, R160, R162: the refusals of the table and counter commands, in their order: an unlisted table or group, a
length that does not fit, an index outside the table, an invalid entry. READ ENTRIES judges all its 1 to 4 ranges by
each check before the next: the first unlisted table code, whatever the indices of any range; then the first index
outside, over the ranges in the order named, where a range of no entries has none; then the size of the whole reply. A
LOAD ENTRIES body too short to hold its three leading bytes is BAD LENGTH (the model's reading, log 17). R168: an entry
is valid exactly where each of its coded fields holds a listed code and each number lies in its owner's range. The
codes, the numbers of entries and the sizes of the tables are those of ch. 11. -/
def Obligations.TableRefusals : Prop :=
  (∀ bs : List Byte,
    (entryGood .berth bs = true ↔ (byteAt bs 0).toNat ≤ 3 ∧ (byteAt bs 1).toNat ≤ 3 ∧
      ((byteAt bs 6).toNat < 0x40 ∨ byteAt bs 6 = 0xFF) ∧ ((byteAt bs 7).toNat < 0x20 ∨ byteAt bs 7 = 0xFF) ∧
      ((byteAt bs 8).toNat < 0x20 ∨ byteAt bs 8 = 0xFF) ∧ (byteAt bs 9).toNat ≤ 15) ∧
    entryGood .zone bs = true ∧
    (entryGood .profile bs = true ↔ ∀ o : Nat, o = 0 ∨ o = 9 → (∀ i < 4, (byteAt bs (o + i)).toNat ≤ 15) ∧
      fieldAt bs (o + 5) 2 ≤ 1023 ∧ fieldAt bs (o + 7) 2 ≤ 1023) ∧
    (entryGood .cls bs = true ↔ fieldAt bs 0 2 ≤ 256 ∧ (byteAt bs 3).toNat ≤ 15) ∧
    (entryGood .chain bs = true ↔ (byteAt bs 0).toNat ≤ 1) ∧
    (entryGood .settings bs = true ↔ (byteAt bs 5).toNat ≤ 2 ∧ (byteAt bs 6).toNat ≤ 2)) ∧
  (∀ code : Byte, tableOf code = match code.toNat with
    | 1 => some .berth | 2 => some .zone | 3 => some .profile | 4 => some .cls | 5 => some .chain
    | 6 => some .settings | 7 => some .stream | 8 => some .channel | _ => none) ∧
  (∀ tb : Table, (tb.loadable = true ↔ tb ≠ .stream ∧ tb ≠ .channel) ∧
    (tb.entries, tb.loadSize, tb.readSize) = match tb with
      | .berth => (48, 10, 34) | .zone => (16, 6, 6) | .profile => (4, 18, 18) | .cls => (4, 5, 5)
      | .chain => (6, 11, 11) | .settings => (1, 10, 10) | .stream => (32, 4, 4) | .channel => (2, 20, 20)) ∧
  ∀ (h : Header) (s : State), s.held = none → Addressed s h →
    (∀ body : List Byte, body.length < 3 →
      ∃ t, exec (.loadEntries h body) s = .next t ∧ Refuses s t h (0x02 :: body) 0x02 0) ∧
    (∀ (code first count : Byte) (entries : List Byte),
      let body := [code, first, count] ++ entries
      ∃ t, exec (.loadEntries h body) s = .next t ∧
        (code = 0 ∨ 8 < code.toNat → Refuses s t h (0x02 :: body) 0x04 code) ∧
        ∀ tb : Table, tableOf code = some tb → tb.loadable = true →
          (count = 0 ∨ entries.length ≠ count.toNat * tb.loadSize → Refuses s t h (0x02 :: body) 0x02 0) ∧
          (count ≠ 0 → entries.length = count.toNat * tb.loadSize →
            (tb.entries < first.toNat + count.toNat →
              Refuses s t h (0x02 :: body) 0x03 (BitVec.ofNat 8 (max tb.entries first.toNat))) ∧
            (first.toNat + count.toNat ≤ tb.entries → tb ≠ .zone ∨ first ≠ 0 →
              ∀ j < count.toNat, entryGood tb ((entries.drop (j * tb.loadSize)).take tb.loadSize) = false →
                (∀ i < j, entryGood tb ((entries.drop (i * tb.loadSize)).take tb.loadSize) = true) →
                Refuses s t h (0x02 :: body) 0x04 (BitVec.ofNat 8 (first.toNat + j))))) ∧
    (∀ body : List Byte, body.length ∉ [3, 6, 9, 12] →
      ∃ t, exec (.readEntries h body) s = .next t ∧ Refuses s t h (0x03 :: body) 0x02 0) ∧
    (∀ (before after : List ReadRange) (code first count : Byte), before.length + after.length < 4 →
      (∀ x ∈ before, tableOf x.code = some x.table) → code = 0 ∨ 8 < code.toNat →
      let body := before.flatMap (fun x => [x.code, x.first, x.count]) ++ [code, first, count] ++
        after.flatMap (fun x => [x.code, x.first, x.count])
      ∃ t, exec (.readEntries h body) s = .next t ∧ Refuses s t h (0x03 :: body) 0x04 code) ∧
    (∀ rs : List ReadRange, 1 ≤ rs.length → rs.length ≤ 4 → (∀ x ∈ rs, tableOf x.code = some x.table) →
      let body := rs.flatMap fun x => [x.code, x.first, x.count]
      let inside := fun x : ReadRange => x.count = 0 ∨ x.first.toNat + x.count.toNat ≤ x.table.entries
      ∃ t, exec (.readEntries h body) s = .next t ∧
        (∀ before x after, rs = before ++ x :: after → (∀ y ∈ before, inside y) → ¬ inside x →
          Refuses s t h (0x03 :: body) 0x03 (BitVec.ofNat 8 (max x.table.entries x.first.toNat))) ∧
        ((∀ x ∈ rs, inside x) → 1472 < 3 + (rs.map fun x => 3 + x.count.toNat * x.table.readSize).sum →
          Refuses s t h (0x03 :: body) 0x02 0)) ∧
    ∀ (group index : Byte) (c : Instr) (code : Byte),
      (c, code) ∈ [(Instr.readCounters h [group, index], 0x08#8), (Instr.clearCounters h [group, index], 0x09#8)] →
      ∃ t, exec c s = .next t ∧
        (group = 0 ∨ 6 < group.toNat → Refuses s t h [code, group, index] 0x04 group) ∧
        (group = 3 ∧ 32 ≤ index.toNat ∨ group = 4 ∧ 2 ≤ index.toNat ∨ group = 5 ∧ 6 ≤ index.toNat →
          Refuses s t h [code, group, index] 0x03 index)

/-- R158, R159: LOAD ENTRIES. A refused load changes nothing of the part: zone 0 is READ ONLY, the stream and channel
tables are READ ONLY, and an invalid entry refuses the whole. A load of zones replaces exactly the zones named. A load
of a berth replaces its configured part, drops the selections that left the allowed set, and copies a set only when the
profile or the regime changes; a regime change is counted (R53). A load of several entries writes them in index order,
each as a load of that entry alone. A load of a chain holds its budget within 10752 and its ratio within 1..15, and a
disable stops the chain as a link that goes DOWN does (one whose link is DOWN already too, whose queries queued behind
4 results are then discarded and counted: the model's reading, log 26). A load of a profile copies it into its berths;
one of a class entry clears the ducked marks under that class when its duck target changes; one of the part settings
judges OVERHEAT and evaluates the regimes, with level changes and regime changes counted (R53) and an OVERHEAT flag
raised (R11, R13). No load moves any other part count. -/
def Obligations.LoadEntriesRule : Prop :=
  ∀ (h : Header) (s : State), s.held = none → Addressed s h →
    (∀ (first count : Byte) (entries : List Byte), 1 ≤ count.toNat → entries.length = count.toNat * 6 →
      first.toNat + count.toNat ≤ 16 →
      ∃ t, exec (.loadEntries h ([0x02, first, count] ++ entries)) s = .next t ∧
        (first = 0 → Refuses s t h ([0x02, 0x02, first, count] ++ entries) 0x08 0) ∧
        (first ≠ 0 →
          t = { s with zones := t.zones, up := t.up, thru := t.thru } ∧
          Answers s t h ([0x02, 0x02, first, count] ++ entries) 0 0 [] ∧
          (∀ j < count.toNat, ∀ z : Fin 16, z.val = first.toNat + j →
            t.zones[z] = BitVec.ofNat 48 (fieldAt entries (6 * j) 6)) ∧
          ∀ z : Fin 16, z.val < first.toNat ∨ first.toNat + count.toNat ≤ z.val → t.zones[z] = s.zones[z])) ∧
    (∀ (tb : Table) (code first count : Byte) (entries : List Byte), tableOf code = some tb → tb.loadable = true →
      tb ≠ .zone ∨ first ≠ 0 → 1 ≤ count.toNat → entries.length = count.toNat * tb.loadSize →
      first.toNat + count.toNat ≤ tb.entries →
      (∀ j < count.toNat, entryGood tb ((entries.drop (j * tb.loadSize)).take tb.loadSize) = true) →
      ∃ t, exec (.loadEntries h ([code, first, count] ++ entries)) s = .next t ∧
        Answers s t h ([0x02, code, first, count] ++ entries) 0 0 [] ∧
        t = { (List.range count.toNat).foldl (fun x j =>
          x.loadEntry tb (first.toNat + j) ((entries.drop (j * tb.loadSize)).take tb.loadSize)) s with
          up := t.up, thru := t.thru }) ∧
    (∀ (code : Byte) (rest : List Byte), 2 ≤ rest.length → code = 0x07 ∨ code = 0x08 →
      ∃ t, exec (.loadEntries h (code :: rest)) s = .next t ∧ Refuses s t h (0x02 :: code :: rest) 0x08 code) ∧
    (∀ (b : BerthIx) (entry : List Byte), entry.length = 10 →
      let body := [0x01, BitVec.ofNat 8 b.val, 1] ++ entry
      ∃ t, exec (.loadEntries h body) s = .next t ∧
        (entryGood .berth entry = false → Refuses s t h (0x02 :: body) 0x04 (BitVec.ofNat 8 b.val)) ∧
        (entryGood .berth entry = true →
          let cfg := berthConfigOf entry
          let r := s.berths[b]
          t = { s with berths := s.berths.set b t.berths[b], counts := t.counts, up := t.up, thru := t.thru } ∧
          Answers s t h (0x02 :: body) 0 0 [] ∧
          t.berths[b].config = cfg ∧
          t.berths[b].audio = r.audio.filter (fun v => cfg.allowed.getLsbD v.val) ∧
          t.berths[b].video = r.video.filter (fun v => cfg.allowed.getLsbD v.val) ∧
          t.berths[b] = { r with
            config := cfg, audio := t.berths[b].audio, video := t.berths[b].video
            regime := t.berths[b].regime, settings := t.berths[b].settings } ∧
          t.counts = { s.counts with
            regimeChanges := addCount s.counts.regimeChanges (if t.berths[b].regime = r.regime then 0 else 1) } ∧
          (cfg.quietSource = r.config.quietSource → t.berths[b].regime = r.regime) ∧
          (cfg.quietSource ≠ r.config.quietSource →
            (t.berths[b].regime = .night ↔ NightUnder cfg.quietSource s.effectiveQA s.effectiveQB)) ∧
          (cfg.profile = r.config.profile → t.berths[b].regime = r.regime →
            t.berths[b].settings = r.settings) ∧
          (cfg.profile ≠ r.config.profile ∨ t.berths[b].regime ≠ r.regime →
            t.berths[b].settings = profileSet s.profiles[cfg.profile] t.berths[b].regime))) ∧
    (∀ (c : ChainIx) (entry : List Byte), entry.length = 11 → (byteAt entry 0).toNat < 2 →
      let body := [0x05, BitVec.ofNat 8 c.val, 1] ++ entry
      let ch := { s.chains[c] with
        enabled := byteAt entry 0 == 1, budget := min 10752 (fieldAt entry 1 2)
        ratio := max 1 (min 15 (byteAt entry 3).toNat) }
      ∃ t, exec (.loadEntries h body) s = .next t ∧ Answers s t h (0x02 :: body) 0 0 [] ∧
        (byteAt entry 0 = 1 ∨ s.chains[c].enabled = false →
          t = { s with chains := s.chains.set c ch, up := t.up, thru := t.thru }) ∧
        (byteAt entry 0 = 0 → s.chains[c].enabled = true →
          t = { s with
            berths := t.berths, calls := t.calls, channels := t.channels
            chains := t.chains, store := t.store, mgmt := { s.mgmt with presence := t.mgmt.presence }
            up := t.up, thru := t.thru } ∧
          ChainStopped s t c ∧
          t.chains[c] = { ch with
            priority := [], program := [], wait := 0, waiting := none, windows := [], queries := []
            inFlight := none
            counts := { ch.counts with
              queriesDiscarded := addCount ch.counts.queriesDiscarded
                (ch.queries.length + if ch.inFlight.isSome then 1 else 0)
              presenceLost := addCount ch.counts.presenceLost
                ((List.finRange 8).filter fun p => s.berths[berthAt c p].presence = .present).length
              flushed := addCount ch.counts.flushed (ch.priority.length + ch.program.length) } })) ∧
    (∀ (i : Fin 4) (entry : List Byte), entry.length = 18 → entryGood .profile entry = true →
      let body := [0x03, BitVec.ofNat 8 i.val, 1] ++ entry
      let p : Profile := { day := settingsOf entry, night := settingsOf (entry.drop 9) }
      ∃ t, exec (.loadEntries h body) s = .next t ∧ Answers s t h (0x02 :: body) 0 0 [] ∧
        t = { s with profiles := s.profiles.set i p, berths := t.berths, up := t.up, thru := t.thru } ∧
        ∀ b : BerthIx, t.berths[b] = if s.berths[b].config.profile = i then
          { s.berths[b] with settings := profileSet p s.berths[b].regime } else s.berths[b]) ∧
    (∀ (i : Fin 4) (entry : List Byte), entry.length = 5 → entryGood .cls entry = true →
      let body := [0x04, BitVec.ofNat 8 i.val, 1] ++ entry
      let e := classEntryOf entry
      ∃ t, exec (.loadEntries h body) s = .next t ∧ Answers s t h (0x02 :: body) 0 0 [] ∧
        t = { s with
          classes := s.classes.set i e, berths := t.berths, channels := t.channels, up := t.up, thru := t.thru } ∧
        (e.duckTarget = s.classes[i].duckTarget → t.berths = s.berths ∧ t.channels = s.channels) ∧
        (e.duckTarget ≠ s.classes[i].duckTarget →
          (∀ a : ChannelIx, s.channels[a].state ≠ .ducking → t.channels[a] = s.channels[a]) ∧
          (GoverningLaw s → ∀ a : ChannelIx, Released t a s.channels[a]) ∧
          (GoverningLaw s → ∀ b : BerthIx, t.berths[b] = { s.berths[b] with
            ducked := s.berths[b].ducked &&
              decide ((s.berths[b].governing.bind fun a => s.channels[a].cls.map Machine.Class.index) ≠ some i) }))) ∧
    ∀ entry : List Byte, entry.length = 10 → (byteAt entry 5).toNat < 3 → (byteAt entry 6).toNat < 3 →
      let body := [0x06, 0, 1] ++ entry
      ∃ t, exec (.loadEntries h body) s = .next t ∧ Answers s t h (0x02 :: body) 0 0 [] ∧
        t = { s with
          mgmt := { s.mgmt with settings := t.mgmt.settings }
          faults := { s.faults with
            overheat := t.faults.overheat, flags := { s.faults.flags with overheat := t.faults.flags.overheat } }
          counts := t.counts, berths := t.berths, up := t.up, thru := t.thru } ∧
        (let p := t.mgmt.settings
         p.recoveryStep.val = (byteAt entry 0).toNat ∧ p.threshold = max 60 (min 125 (byteAt entry 1).toNat) ∧
         p.faultMask.markLoss = (byteAt entry 2).getLsbD 0 ∧ p.faultMask.overheat = (byteAt entry 2).getLsbD 1 ∧
         p.faultMask.backboneDown = (byteAt entry 2).getLsbD 2 ∧
         p.attentionMask.toNat = (byteAt entry 3).toNat * 256 + (byteAt entry 4).toNat ∧
         (let mode := fun m : QuietMode => match m with | .follow => 0#8 | .forceOn => 1 | .forceOff => 2
          mode p.modeQA = byteAt entry 5 ∧ mode p.modeQB = byteAt entry 6)) ∧
        (s.faults.overheat = false →
          (t.faults.overheat = true ↔ (t.mgmt.settings.threshold : Int) ≤ s.faults.temperature)) ∧
        (s.faults.overheat = true →
          (t.faults.overheat = false ↔ s.faults.temperature ≤ (t.mgmt.settings.threshold : Int) - 5)) ∧
        (t.faults.flags.overheat = true ↔
          s.faults.flags.overheat = true ∨ (s.faults.overheat = false ∧ t.faults.overheat = true)) ∧
        t.counts = { regimesCounted s t with overheatRaises := overheatCount s t } ∧
        (t.mgmt.settings.modeQA = s.mgmt.settings.modeQA ∧ t.mgmt.settings.modeQB = s.mgmt.settings.modeQB →
          t.berths = s.berths) ∧
        (t.mgmt.settings.modeQA ≠ s.mgmt.settings.modeQA ∨ t.mgmt.settings.modeQB ≠ s.mgmt.settings.modeQB →
          ∀ b : BerthIx,
            (t.berths[b].regime = .night ↔ NightUnder s.berths[b].config.quietSource t.effectiveQA t.effectiveQB) ∧
            t.berths[b] = { s.berths[b] with
              regime := t.berths[b].regime
              settings := if t.berths[b].regime = s.berths[b].regime then s.berths[b].settings
                else profileSet s.profiles[s.berths[b].config.profile] t.berths[b].regime })

/-- R56, R57, R58: OPEN STREAM judges the number, the kind, the state and the pool in that order; a program-audio
stream takes the lowest free ring and presents silence. CLOSE STREAM empties and frees the ring and sets every
selection of the stream to none; on a CLOSED stream it is accepted and changes nothing. The counts stay. -/
def Obligations.StreamCommands : Prop :=
  ∀ (h : Header) (s : State), s.held = none → Addressed s h →
    (∀ num kind : Byte, ∃ t, exec (.openStream h [num, kind]) s = .next t ∧
      (32 ≤ num.toNat → Refuses s t h [0x04, num, kind] 0x03 num) ∧
      (∀ v : StreamIx, num.toNat = v.val →
        (kind = 0 ∨ 3 < kind.toNat → Refuses s t h [0x04, num, kind] 0x04 kind) ∧
        (1 ≤ kind.toNat → kind.toNat ≤ 3 → s.streams[v].kind ≠ none → Refuses s t h [0x04, num, kind] 0x06 num) ∧
        (kind = 1 → s.streams[v].kind = none →
          (∀ r : RingIx, ∃ w : StreamIx, s.streams[w].ring = some r) →
          Refuses s t h [0x04, num, kind] 0x07 num) ∧
        (kind = 1 → s.streams[v].kind = none →
          ∀ r : RingIx, (∀ w : StreamIx, s.streams[w].ring ≠ some r) →
          (∀ r' < r, ∃ w : StreamIx, s.streams[w].ring = some r') →
          Answers s t h [0x04, num, kind] 0 0 [] ∧
          t = { s with
            streams := s.streams.set v { s.streams[v] with
              kind := some .programAudio, ring := some r, presented := .silence }
            up := t.up, thru := t.thru }) ∧
        (kind = 2 ∨ kind = 3 → s.streams[v].kind = none →
          Answers s t h [0x04, num, kind] 0 0 [] ∧
          t = { s with
            streams := s.streams.set v { s.streams[v] with
              kind := some (if kind = 2 then .programVideo else .captionVideo), ring := none, presented := .absent }
            up := t.up, thru := t.thru }))) ∧
    ∀ num : Byte, ∃ t, exec (.closeStream h [num]) s = .next t ∧
      (32 ≤ num.toNat → Refuses s t h [0x05, num] 0x03 num) ∧
      ∀ v : StreamIx, num.toNat = v.val →
        Answers s t h [0x05, num] 0 0 [] ∧
        (s.streams[v].kind = none → t = { s with up := t.up, thru := t.thru }) ∧
        (s.streams[v].kind ≠ none →
          t = { s with
            streams := s.streams.set v { s.streams[v] with kind := none, ring := none, presented := .absent }
            rings := t.rings, berths := t.berths, up := t.up, thru := t.thru } ∧
          (∀ (r : RingIx) (i : Fin 16),
            t.rings[r][i] = if s.streams[v].ring = some r then none else s.rings[r][i]) ∧
          ∀ b : BerthIx, t.berths[b] = { s.berths[b] with
            audio := if s.berths[b].audio = some v then none else s.berths[b].audio
            video := if s.berths[b].video = some v then none else s.berths[b].video })

/-- R28, R48, R168: RESET BERTH and SET BERTH ACTIVE are refused WRONG MODE in CONFIGURATION, then BAD INDEX, then (for
the settings) BAD VALUE, then ABSENT. Accepted, RESET BERTH applies join initialisation to the berth alone, and SET
BERTH ACTIVE writes exactly the selected fields of its active settings. A field of a settings set is in its range where
it is a level or brightness up to 15, a glide step, or an idle field up to 1023 (R44). -/
def Obligations.BerthCommands : Prop :=
  (∀ (fields : List Byte) (i : Fin 7), settingsFieldGood fields i = true ↔
    (i.val < 4 → (byteAt fields i.val).toNat ≤ 15) ∧ (i.val = 5 → fieldAt fields 5 2 ≤ 1023) ∧
      (i.val = 6 → fieldAt fields 7 2 ≤ 1023)) ∧
  ∀ (h : Header) (s : State) (num : Byte), s.held = none → Addressed s h →
    (∃ t, exec (.resetBerth h [num]) s = .next t ∧
      (s.mgmt.mode = .configuration → Refuses s t h [0x06, num] 0x05 0) ∧
      (s.mgmt.mode = .service → 48 ≤ num.toNat → Refuses s t h [0x06, num] 0x03 num) ∧
      ∀ b : BerthIx, s.mgmt.mode = .service → num.toNat = b.val →
        (s.berths[b].presence ≠ .present → Refuses s t h [0x06, num] 0x0A num) ∧
        (s.berths[b].presence = .present →
          Answers s t h [0x06, num] 0 0 [] ∧
          t = { s with
            berths := s.berths.set b { s.berths[b] with
              audio := t.berths[b].audio, video := t.berths[b].video
              level := s.berths[b].config.defaultLevel
              awake := (if s.berths[b].regime = .day then .awake else .asleep)
              idle := 0, ap := 0, ad := 256, ducked := false }
            up := t.up, thru := t.thru } ∧
          t.berths[b].audio = (s.berths[b].config.defaultAudio.filter fun v =>
            decide (s.streams[v].kind = some .programAudio) && s.berths[b].config.allowed.getLsbD v.val) ∧
          t.berths[b].video = (s.berths[b].config.defaultVideo.filter fun v =>
            decide (s.streams[v].kind = some .programVideo) && s.berths[b].config.allowed.getLsbD v.val))) ∧
    ∀ (sel : Byte) (fields : List Byte), fields.length = 9 →
      let body := [num, sel] ++ fields
      let good := ∀ i : Fin 7, sel.getLsbD i.val = true → settingsFieldGood fields i = true
      ∃ t, exec (.setBerthActive h body) s = .next t ∧
        (s.mgmt.mode = .configuration → Refuses s t h (0x07 :: body) 0x05 0) ∧
        (s.mgmt.mode = .service → 48 ≤ num.toNat → Refuses s t h (0x07 :: body) 0x03 num) ∧
        ∀ b : BerthIx, s.mgmt.mode = .service → num.toNat = b.val →
          (∀ i : Fin 7, sel.getLsbD i.val = true → settingsFieldGood fields i = false →
            (∀ j < i, sel.getLsbD j.val = true → settingsFieldGood fields j = true) →
            Refuses s t h (0x07 :: body) 0x04 (BitVec.ofNat 8 i.val)) ∧
          (good → s.berths[b].presence ≠ .present → Refuses s t h (0x07 :: body) 0x0A num) ∧
          (good → s.berths[b].presence = .present →
            Answers s t h (0x07 :: body) 0 0 [] ∧
            t = { s with
              berths := s.berths.set b { s.berths[b] with settings := t.berths[b].settings }
              up := t.up, thru := t.thru } ∧
            let x := t.berths[b].settings
            let o := s.berths[b].settings
            x.headphoneCeiling.val = (if sel.getLsbD 0 then (byteAt fields 0).toNat else o.headphoneCeiling.val) ∧
            x.speakerCeiling.val = (if sel.getLsbD 1 then (byteAt fields 1).toNat else o.speakerCeiling.val) ∧
            x.onBrightness.val = (if sel.getLsbD 2 then (byteAt fields 2).toNat else o.onBrightness.val) ∧
            x.dimBrightness.val = (if sel.getLsbD 3 then (byteAt fields 3).toNat else o.dimBrightness.val) ∧
            x.glideStep.val = (if sel.getLsbD 4 then (byteAt fields 4).toNat else o.glideStep.val) ∧
            x.idleToDim.val = (if sel.getLsbD 5 then fieldAt fields 5 2 else o.idleToDim.val) ∧
            x.idleToSleep.val = (if sel.getLsbD 6 then fieldAt fields 7 2 else o.idleToSleep.val))

/-- R11, R38, R162, R164, R165: the clearing commands. CLEAR COUNTERS zeroes the counts of its group and no other (a
reply that finds the slot occupied is counted on port U after the clear, log 25; the copy of a broadcast CLEAR COUNTERS
of port T that finds the through queue full is counted before it and so cleared: the model's choice, log 27); CLEAR
ATTENTION clears the named latched flags; ACKNOWLEDGE CALLS removes the named berths and reports how many; CLEAR FAULTS
clears each flag whose condition has ended. -/
def Obligations.ClearingCommands : Prop :=
  (∀ s : State, s.up.counts = .zero → s.thru.counts = .zero → ∀ k ∈ s.groupCounts .portU ++ s.groupCounts .portT,
    k = 0) ∧
  ∀ (h : Header) (s : State), s.held = none → Addressed s h →
    (∀ (group index : Byte) (g : Group), groupOf group index = .ok g → g ≠ .portU → g ≠ .portT →
      ∃ t, exec (.clearCounters h [group, index]) s = .next t ∧ Answers s t h [0x09, group, index] 0 0 [] ∧
        t = { s with counts := t.counts, streams := t.streams, channels := t.channels, chains := t.chains
                     up := t.up, thru := t.thru } ∧
        (∀ v : StreamIx, t.streams[v] = { s.streams[v] with counts := t.streams[v].counts }) ∧
        (∀ a : ChannelIx, t.channels[a] = { s.channels[a] with counts := t.channels[a].counts }) ∧
        (∀ c : ChainIx, t.chains[c] = { s.chains[c] with counts := t.chains[c].counts }) ∧
        (∀ k ∈ t.groupCounts g, k = 0) ∧
        (∀ g', g' ≠ g → g' ≠ .portU → g' ≠ .portT → t.groupCounts g' = s.groupCounts g')) ∧
    (∀ index : Byte, ∃ t, exec (.clearCounters h [1, index]) s = .next t ∧
      t = { s with up := t.up, thru := t.thru } ∧
      t.up.counts = if h.target = s.node.address ∧ replyWanted h = true ∧ s.up.slot ≠ none then
        { UpstreamCounts.zero with repliesDiscarded := 1 } else .zero) ∧
    (∀ index : Byte, ∃ t, exec (.clearCounters h [2, index]) s = .next t ∧
      t = { s with up := t.up, thru := t.thru } ∧ t.thru.counts = .zero ∧ t.thru.link = s.thru.link) ∧
    (∀ hi lo : Byte, ∃ t, exec (.clearAttention h [hi, lo]) s = .next t ∧
      let named := BitVec.ofNat 16 (hi.toNat * 256 + lo.toNat)
      t = { s with mgmt := { s.mgmt with presence := t.mgmt.presence, stall := t.mgmt.stall }
                   up := t.up, thru := t.thru } ∧
      (∀ c : ChainIx, t.mgmt.presence[c] = (s.mgmt.presence[c] && !named.getLsbD (8 + c.val))) ∧
      (∀ a : ChannelIx, t.mgmt.stall[a] = (s.mgmt.stall[a] && !named.getLsbD (14 + a.val))) ∧
      Answers s t h [0x0B, hi, lo] 0 0 (beBytes 2 (t.attentionSet &&& s.mgmt.settings.attentionMask).toNat)) ∧
    (∀ body : List Byte, body.length = 6 →
      let named := BitVec.ofNat 48 (fieldAt body 0 6)
      ∃ t, exec (.acknowledgeCalls h body) s = .next t ∧
        t = { s with calls := s.calls.filter (fun b => !named.getLsbD b.val), up := t.up, thru := t.thru } ∧
        Answers s t h (0x0D :: body) 0 (BitVec.ofNat 8 (s.calls.filter fun b => named.getLsbD b.val).length) []) ∧
    (∃ t, exec (.clearFaults h []) s = .next t ∧
      t = { s with faults := { s.faults with flags := t.faults.flags }, up := t.up, thru := t.thru } ∧
      (t.faults.flags.markLoss = true ↔ s.faults.flags.markLoss = true ∧ 50 ≤ s.timer.missedRun) ∧
      (t.faults.flags.overheat = true ↔ s.faults.flags.overheat = true ∧ s.faults.overheat = true) ∧
      (t.faults.flags.backboneDown = true ↔
        s.faults.flags.backboneDown = true ∧ s.faults.backboneDown = true) ∧
      Answers s t h [0x0E] 0 0 [faultByte t.faults.flags])

/-- R154, R155, R156: ENTER SERVICE is refused in SERVICE, and under a strap fault with detail 1; accepted, it
evaluates every regime, copies every set afresh and then initialises the PRESENT berths (R27), and leaves the rest of
every berth. ENTER CONFIGURATION is refused in CONFIGURATION; accepted, it leaves every channel IDLE, every ring and
every video queue empty, and the berths everything but governing and mark. That its flush counts the entries it removes
(R123), although R156 has every counter keep its value, is the model's choice (log 29). R15: program hold is in force
exactly in SERVICE while a fault flag is raised that the fault mask does not mask, so the mode commands bring and end
it. -/
def Obligations.ModeCommands : Prop :=
  (∀ s : State,
    let f := s.faults.flags
    let m := s.mgmt.settings.faultMask
    s.programHold = true ↔ s.mgmt.mode = .service ∧
      ((f.markLoss = true ∧ m.markLoss = false) ∨ (f.overheat = true ∧ m.overheat = false) ∨
        (f.backboneDown = true ∧ m.backboneDown = false))) ∧
  ∀ (h : Header) (s : State), s.held = none → Addressed s h →
    (∃ t, exec (.enterService h []) s = .next t ∧
      (s.mgmt.mode = .service → Refuses s t h [0x0F] 0x05 0) ∧
      (s.mgmt.mode = .configuration → s.node.fault = true → Refuses s t h [0x0F] 0x05 1) ∧
      (s.mgmt.mode = .configuration → s.node.fault = false →
        t = { s with mgmt := { s.mgmt with mode := .service }, berths := t.berths, counts := t.counts
                     up := t.up, thru := t.thru } ∧
        (let changed := (List.finRange 48).filter fun b => t.berths[b].regime ≠ s.berths[b].regime
         t.counts = { s.counts with regimeChanges := addCount s.counts.regimeChanges changed.length }) ∧
        Answers s t h [0x0F] 0 0 [] ∧
        ∀ b : BerthIx,
          let r := s.berths[b]
          (t.berths[b].regime = .night ↔ NightUnder r.config.quietSource s.effectiveQA s.effectiveQB) ∧
          t.berths[b].settings = profileSet s.profiles[r.config.profile] t.berths[b].regime ∧
          (r.presence = .present →
            t.berths[b] = { r with
              regime := t.berths[b].regime, settings := t.berths[b].settings
              audio := t.berths[b].audio, video := t.berths[b].video, level := r.config.defaultLevel
              awake := (if t.berths[b].regime = .day then .awake else .asleep)
              idle := 0, ap := 0, ad := 256, ducked := false } ∧
            t.berths[b].audio = (r.config.defaultAudio.filter fun v =>
              decide (s.streams[v].kind = some .programAudio) && r.config.allowed.getLsbD v.val) ∧
            t.berths[b].video = (r.config.defaultVideo.filter fun v =>
              decide (s.streams[v].kind = some .programVideo) && r.config.allowed.getLsbD v.val)) ∧
          (r.presence ≠ .present → t.berths[b] = { r with
            regime := t.berths[b].regime, settings := t.berths[b].settings }))) ∧
    (∃ t, exec (.enterConfiguration h []) s = .next t ∧
      (s.mgmt.mode = .configuration → Refuses s t h [0x10] 0x05 0) ∧
      (s.mgmt.mode = .service →
        t = { s with mgmt := { s.mgmt with mode := .configuration }, channels := t.channels, berths := t.berths
                     rings := t.rings, chains := t.chains, store := t.store, up := t.up, thru := t.thru } ∧
        Answers s t h [0x10] 0 0 [] ∧
        (∀ a : ChannelIx, t.channels[a] = if s.channels[a].state = .idle then s.channels[a] else
          { Channel.initial with nextSeq := s.channels[a].nextSeq, counts := s.channels[a].counts }) ∧
        (GoverningLaw s → ∀ b : BerthIx, t.berths[b].governing = none ∧ t.berths[b].ducked = false) ∧
        (∀ (r : RingIx) (i : Fin 16), t.rings[r][i] = none) ∧
        SlotsReleased s t (fun i => ((List.finRange 6).map fun c =>
          references (s.chains[c].priority ++ s.chains[c].program) i).sum) ∧
        (∀ c : ChainIx, t.chains[c] = { s.chains[c] with
          priority := [], program := [], wait := 0
          counts := { s.chains[c].counts with
            flushed := addCount s.chains[c].counts.flushed
              (s.chains[c].priority.length + s.chains[c].program.length) } }) ∧
        ∀ b : BerthIx, t.berths[b] = { s.berths[b] with
          governing := t.berths[b].governing, ducked := t.berths[b].ducked }))

/-- R136, R137, R139, R140: the query commands. BERTH QUERY judges the chain, the position and the queue in that order;
with nothing in flight or queued and fewer than 4 results, a query toward a PRESENT berth is in flight at once under
the next token, and one toward any other berth gives a result ABSENT at once; behind a query in flight or 4 results it
is queued. FETCH QUERY RESULTS returns and removes every result, and the next query may start; ABORT QUERIES discards
the queue and the query in flight, keeps the results and reports the number; an open window then counts for no later
query (the model's field for R138, log 9). A result is 20 bytes as ch. 11 lays them out. -/
def Obligations.QueryCommands : Prop :=
  (∀ r : QueryResult,
    let bs := resultBytes r
    bs.length = 20 ∧ byteAt bs 0 = BitVec.ofNat 8 r.chain.val ∧ byteAt bs 1 = BitVec.ofNat 8 r.pos.val ∧
      byteAt bs 2 = r.code ∧ byteAt bs 3 = (match r.outcome with | .answered => 0 | .noAnswer => 1 | .absent => 2) ∧
      ∀ i : Fin 16, byteAt bs (4 + i.val) = (match r.answer with | some v => v[i] | none => 0)) ∧
  ∀ (h : Header) (s : State), s.held = none → Addressed s h →
    (∀ (cb pb code : Byte) (arg : List Byte), arg.length = 8 →
      let body := [cb, pb, code] ++ arg
      ∃ t, exec (.berthQuery h body) s = .next t ∧
        (6 ≤ cb.toNat → Refuses s t h (0x11 :: body) 0x03 cb) ∧
        (cb.toNat < 6 → 8 ≤ pb.toNat → Refuses s t h (0x11 :: body) 0x03 pb) ∧
        ∀ (c : ChainIx) (p : PosIx), cb.toNat = c.val → pb.toNat = p.val →
          (4 ≤ s.chains[c].queries.length → Refuses s t h (0x11 :: body) 0x09 cb) ∧
          (s.chains[c].queries.length < 4 →
            Answers s t h (0x11 :: body) 0 0 [] ∧
            t = { s with chains := s.chains.set c t.chains[c], up := t.up, thru := t.thru } ∧
            (s.chains[c].inFlight ≠ none ∨ 4 ≤ s.chains[c].results.length →
              ∃ q : Query, q.pos = p ∧ q.code = code ∧ q.arg.toList = arg ∧
              t.chains[c] = { s.chains[c] with queries := s.chains[c].queries ++ [q] }) ∧
            (s.chains[c].inFlight = none → ∃ q : Query, q.pos = p ∧ q.code = code ∧ q.arg.toList = arg ∧
              NextQueries s c { s.chains[c] with queries := s.chains[c].queries ++ [q] } t.chains[c]) ∧
            (s.chains[c].inFlight = none → s.chains[c].queries = [] → s.chains[c].results.length < 4 →
              (s.berths[berthAt c p].presence = .present →
                ∃ q : Query, q.pos = p ∧ q.code = code ∧ q.arg.toList = arg ∧
                t.chains[c] = { s.chains[c] with
                  inFlight := some { query := q, token := s.chains[c].nextToken, placed := false, waited := 0 }
                  nextToken := if s.chains[c].nextToken = 15 then 1 else s.chains[c].nextToken + 1
                  counts := { s.chains[c].counts with
                    queriesSent := bump s.chains[c].counts.queriesSent } }) ∧
              (s.berths[berthAt c p].presence ≠ .present →
                t.chains[c] = { s.chains[c] with
                  results := s.chains[c].results ++
                    [{ chain := c, pos := p, code := code, outcome := .absent, answer := none }]
                  counts := { s.chains[c].counts with
                    absentOutcomes := bump s.chains[c].counts.absentOutcomes } })))) ∧
    (∀ cb : Byte, ∃ t, exec (.fetchQueryResults h [cb]) s = .next t ∧
      (6 ≤ cb.toNat → Refuses s t h [0x12, cb] 0x03 cb) ∧
      ∀ c : ChainIx, cb.toNat = c.val →
        Answers s t h [0x12, cb] 0 0
          (BitVec.ofNat 8 s.chains[c].results.length :: s.chains[c].results.flatMap resultBytes) ∧
        t = { s with chains := s.chains.set c t.chains[c], up := t.up, thru := t.thru } ∧
        (s.chains[c].queries = [] ∨ s.chains[c].inFlight ≠ none →
          t.chains[c] = { s.chains[c] with results := [] }) ∧
        (s.chains[c].inFlight = none → NextQueries s c { s.chains[c] with results := [] } t.chains[c]) ∧
        (∀ n ns, s.chains[c].queries = n :: ns → s.chains[c].inFlight = none →
          s.berths[berthAt c n.pos].presence = .present →
          t.chains[c] = { s.chains[c] with
            results := [], queries := ns
            inFlight := some { query := n, token := s.chains[c].nextToken, placed := false, waited := 0 }
            nextToken := if s.chains[c].nextToken = 15 then 1 else s.chains[c].nextToken + 1
            counts := { s.chains[c].counts with queriesSent := bump s.chains[c].counts.queriesSent } })) ∧
    ∀ cb : Byte, ∃ t, exec (.abortQueries h [cb]) s = .next t ∧
      (6 ≤ cb.toNat → Refuses s t h [0x13, cb] 0x03 cb) ∧
      ∀ c : ChainIx, cb.toNat = c.val →
        let n := s.chains[c].queries.length + if s.chains[c].inFlight.isSome then 1 else 0
        Answers s t h [0x13, cb] 0 (BitVec.ofNat 8 n) [] ∧
        t = { s with chains := s.chains.set c t.chains[c], up := t.up, thru := t.thru } ∧
        t.chains[c] = { s.chains[c] with
          queries := [], inFlight := none
          windows := s.chains[c].windows.map fun w => { w with judges := false }
          counts := { s.chains[c].counts with
            queriesDiscarded := addCount s.chains[c].counts.queriesDiscarded n } }

/-- R166: RESTART. Without a reply, with the reply slot occupied, or with the restart-pending indication already set,
the reset is taken at once; with its reply placed, the indication is set and the part goes on. That the reset of a
broadcast RESTART also empties the through queue that holds its own copy is the model's reading (log 12); that the
reset reads the pins and lines as a command last named them is the model's choice (log 22). -/
def Obligations.RestartRule : Prop :=
  ∀ (h : Header) (s : State), s.held = none → Addressed s h →
    ∃ t, exec (.restart h []) s = .next t ∧
      (h.target ≠ s.node.address ∨ replyWanted h = false ∨ s.up.slot ≠ none ∨ s.mgmt.restartPending = true →
        t = { State.afterReset s.pins with pending := s.pending, draws := s.draws }) ∧
      (h.target = s.node.address → replyWanted h = true → s.up.slot = none → s.mgmt.restartPending = false →
        t = { s with mgmt := { s.mgmt with restartPending := true }, up := t.up } ∧
        ∃ r : Reply, (t.up.slot = some r ∨ t.up.sending = some (.reply r)) ∧ r.restart = true ∧
          r.parcel.target = h.origin ∧ r.parcel.origin = s.node.address ∧ r.parcel.kind = .reply ∧
          r.parcel.payload = [0x14, 0, 0])

/-! ### The laws, kept by every step from every state -/

/-- R24: every step keeps the law of absent berths. -/
def Obligations.PresenceLawKept : Prop := ∀ s t : State, PresenceLaw s → step s = .next t → PresenceLaw t

/-- R37: every step keeps the law of the call list. -/
def Obligations.CallLawKept : Prop := ∀ s t : State, CallLaw s → step s = .next t → CallLaw t

/-- Ch. 2, and R43: every step keeps the law of selections, and every step keeps every regime as the berth's quiet
source and the effective levels give it. -/
def Obligations.SelectionAndRegimeLawsKept : Prop :=
  (∀ s t : State, SelectionLaw s → step s = .next t → SelectionLaw t) ∧
    ∀ s t : State, RegimeLaw s → step s = .next t → RegimeLaw t

/-- R55: every step keeps the laws of the ring pool. -/
def Obligations.RingLawKept : Prop := ∀ s t : State, RingLaw s → step s = .next t → RingLaw t

/-- R73: every step keeps the laws of the channel records. -/
def Obligations.ChannelLawKept : Prop := ∀ s t : State, ChannelLaw s → step s = .next t → ChannelLaw t

/-- R79: every step keeps governing as the rule chooses it. -/
def Obligations.GoverningLawKept : Prop := ∀ s t : State, GoverningLaw s → step s = .next t → GoverningLaw t

/-- R110, R111: every step keeps the law of the segment store, and with it the capacity of the video queues. -/
def Obligations.StoreLawKept : Prop :=
  ∀ s t : State, StoreLaw s → CapacityLaw s → step s = .next t → StoreLaw t ∧ CapacityLaw t

/-- R25, R111, R129: every step keeps a stopped chain empty and its berths ABSENT. -/
def Obligations.StoppedChainLawKept : Prop :=
  ∀ s t : State, StoppedChainLaw s → step s = .next t → StoppedChainLaw t

/-- R67, R92, R111: every step keeps the laws of CONFIGURATION. -/
def Obligations.ConfigurationLawKept : Prop :=
  ∀ s t : State, ConfigurationLaw s → step s = .next t → ConfigurationLaw t

/-- R134, R135: every step keeps the law of the query engines, and at most one return window open on a chain. -/
def Obligations.QueryLawKept : Prop :=
  (∀ s t : State, QueryLaw s → step s = .next t → QueryLaw t) ∧
    ∀ s t : State, WindowLaw s → step s = .next t → WindowLaw t

/-- R143, R148, R150: every step keeps the law of the ports. -/
def Obligations.PortLawKept : Prop := ∀ s t : State, PortLaw s → step s = .next t → PortLaw t

/-- R4, R8, R9, R10, R11, R34, R71, R102, R127: every step keeps the ranges of the counted values and of the applied
gains, zone 0, and a flag raised under each fault condition that holds. -/
def Obligations.RangeLawKept : Prop :=
  ∀ s t : State, RangeLaw s → FaultLaw s → GainsLaw s → step s = .next t → RangeLaw t ∧ FaultLaw t ∧ GainsLaw t

/-- The state right after reset meets every law. -/
def Obligations.ResetMeetsTheLaws : Prop :=
  GainsLaw State.reset ∧ RegimeLaw State.reset ∧ WindowLaw State.reset ∧ PresenceLaw State.reset ∧
    CallLaw State.reset ∧ SelectionLaw State.reset ∧
    RingLaw State.reset ∧ ChannelLaw State.reset ∧ GoverningLaw State.reset ∧ StoreLaw State.reset ∧
    CapacityLaw State.reset ∧ StoppedChainLaw State.reset ∧ ConfigurationLaw State.reset ∧ QueryLaw State.reset ∧
    PortLaw State.reset ∧ RangeLaw State.reset ∧ FaultLaw State.reset
end

