-- ==== Sys2Proof/Laws/State.lean ====
section
/-! SUPPORT. Each field of State after each named update of Machine/Ops.lean: the updated one as the update gives it, the
others as they were. All hold by definition and are simp lemmas, so that no proof unfolds a record update. -/

namespace Sys2Proof.Machine

/-! ### modBerth -/

@[simp] theorem State.modBerth_pins (s : State) (b : BerthIx) (f : Berth → Berth) : (s.modBerth b f).pins = s.pins := by
  dsimp only [State.modBerth]
@[simp] theorem State.modBerth_held (s : State) (b : BerthIx) (f : Berth → Berth) : (s.modBerth b f).held = s.held := by
  dsimp only [State.modBerth]
@[simp] theorem State.modBerth_timer (s : State) (b : BerthIx) (f : Berth → Berth) : (s.modBerth b f).timer = s.timer := by
  dsimp only [State.modBerth]
@[simp] theorem State.modBerth_faults (s : State) (b : BerthIx) (f : Berth → Berth) : (s.modBerth b f).faults = s.faults := by
  dsimp only [State.modBerth]
@[simp] theorem State.modBerth_mgmt (s : State) (b : BerthIx) (f : Berth → Berth) : (s.modBerth b f).mgmt = s.mgmt := by
  dsimp only [State.modBerth]
@[simp] theorem State.modBerth_counts (s : State) (b : BerthIx) (f : Berth → Berth) : (s.modBerth b f).counts = s.counts := by
  dsimp only [State.modBerth]
@[simp] theorem State.modBerth_berths (s : State) (b : BerthIx) (f : Berth → Berth) : (s.modBerth b f).berths = s.berths.set b (f s.berths[b]) := by
  dsimp only [State.modBerth]
@[simp] theorem State.modBerth_calls (s : State) (b : BerthIx) (f : Berth → Berth) : (s.modBerth b f).calls = s.calls := by
  dsimp only [State.modBerth]
@[simp] theorem State.modBerth_slots (s : State) (b : BerthIx) (f : Berth → Berth) : (s.modBerth b f).slots = s.slots := by
  dsimp only [State.modBerth]
@[simp] theorem State.modBerth_profiles (s : State) (b : BerthIx) (f : Berth → Berth) : (s.modBerth b f).profiles = s.profiles := by
  dsimp only [State.modBerth]
@[simp] theorem State.modBerth_streams (s : State) (b : BerthIx) (f : Berth → Berth) : (s.modBerth b f).streams = s.streams := by
  dsimp only [State.modBerth]
@[simp] theorem State.modBerth_rings (s : State) (b : BerthIx) (f : Berth → Berth) : (s.modBerth b f).rings = s.rings := by
  dsimp only [State.modBerth]
@[simp] theorem State.modBerth_zones (s : State) (b : BerthIx) (f : Berth → Berth) : (s.modBerth b f).zones = s.zones := by
  dsimp only [State.modBerth]
@[simp] theorem State.modBerth_classes (s : State) (b : BerthIx) (f : Berth → Berth) : (s.modBerth b f).classes = s.classes := by
  dsimp only [State.modBerth]
@[simp] theorem State.modBerth_channels (s : State) (b : BerthIx) (f : Berth → Berth) : (s.modBerth b f).channels = s.channels := by
  dsimp only [State.modBerth]
@[simp] theorem State.modBerth_store (s : State) (b : BerthIx) (f : Berth → Berth) : (s.modBerth b f).store = s.store := by
  dsimp only [State.modBerth]
@[simp] theorem State.modBerth_chains (s : State) (b : BerthIx) (f : Berth → Berth) : (s.modBerth b f).chains = s.chains := by
  dsimp only [State.modBerth]
@[simp] theorem State.modBerth_node (s : State) (b : BerthIx) (f : Berth → Berth) : (s.modBerth b f).node = s.node := by
  dsimp only [State.modBerth]
@[simp] theorem State.modBerth_up (s : State) (b : BerthIx) (f : Berth → Berth) : (s.modBerth b f).up = s.up := by
  dsimp only [State.modBerth]
@[simp] theorem State.modBerth_thru (s : State) (b : BerthIx) (f : Berth → Berth) : (s.modBerth b f).thru = s.thru := by
  dsimp only [State.modBerth]
@[simp] theorem State.modBerth_draws (s : State) (b : BerthIx) (f : Berth → Berth) : (s.modBerth b f).draws = s.draws := by
  dsimp only [State.modBerth]
@[simp] theorem State.modBerth_pending (s : State) (b : BerthIx) (f : Berth → Berth) : (s.modBerth b f).pending = s.pending := by
  dsimp only [State.modBerth]

/-! ### mapBerths -/

@[simp] theorem State.mapBerths_pins (s : State) (f : BerthIx → Berth → Berth) : (s.mapBerths f).pins = s.pins := by
  dsimp only [State.mapBerths]
@[simp] theorem State.mapBerths_held (s : State) (f : BerthIx → Berth → Berth) : (s.mapBerths f).held = s.held := by
  dsimp only [State.mapBerths]
@[simp] theorem State.mapBerths_timer (s : State) (f : BerthIx → Berth → Berth) : (s.mapBerths f).timer = s.timer := by
  dsimp only [State.mapBerths]
@[simp] theorem State.mapBerths_faults (s : State) (f : BerthIx → Berth → Berth) : (s.mapBerths f).faults = s.faults := by
  dsimp only [State.mapBerths]
@[simp] theorem State.mapBerths_mgmt (s : State) (f : BerthIx → Berth → Berth) : (s.mapBerths f).mgmt = s.mgmt := by
  dsimp only [State.mapBerths]
@[simp] theorem State.mapBerths_counts (s : State) (f : BerthIx → Berth → Berth) : (s.mapBerths f).counts = s.counts := by
  dsimp only [State.mapBerths]
@[simp] theorem State.mapBerths_berths (s : State) (f : BerthIx → Berth → Berth) : (s.mapBerths f).berths = Vector.ofFn fun b => f b s.berths[b] := by
  dsimp only [State.mapBerths]
@[simp] theorem State.mapBerths_calls (s : State) (f : BerthIx → Berth → Berth) : (s.mapBerths f).calls = s.calls := by
  dsimp only [State.mapBerths]
@[simp] theorem State.mapBerths_slots (s : State) (f : BerthIx → Berth → Berth) : (s.mapBerths f).slots = s.slots := by
  dsimp only [State.mapBerths]
@[simp] theorem State.mapBerths_profiles (s : State) (f : BerthIx → Berth → Berth) : (s.mapBerths f).profiles = s.profiles := by
  dsimp only [State.mapBerths]
@[simp] theorem State.mapBerths_streams (s : State) (f : BerthIx → Berth → Berth) : (s.mapBerths f).streams = s.streams := by
  dsimp only [State.mapBerths]
@[simp] theorem State.mapBerths_rings (s : State) (f : BerthIx → Berth → Berth) : (s.mapBerths f).rings = s.rings := by
  dsimp only [State.mapBerths]
@[simp] theorem State.mapBerths_zones (s : State) (f : BerthIx → Berth → Berth) : (s.mapBerths f).zones = s.zones := by
  dsimp only [State.mapBerths]
@[simp] theorem State.mapBerths_classes (s : State) (f : BerthIx → Berth → Berth) : (s.mapBerths f).classes = s.classes := by
  dsimp only [State.mapBerths]
@[simp] theorem State.mapBerths_channels (s : State) (f : BerthIx → Berth → Berth) : (s.mapBerths f).channels = s.channels := by
  dsimp only [State.mapBerths]
@[simp] theorem State.mapBerths_store (s : State) (f : BerthIx → Berth → Berth) : (s.mapBerths f).store = s.store := by
  dsimp only [State.mapBerths]
@[simp] theorem State.mapBerths_chains (s : State) (f : BerthIx → Berth → Berth) : (s.mapBerths f).chains = s.chains := by
  dsimp only [State.mapBerths]
@[simp] theorem State.mapBerths_node (s : State) (f : BerthIx → Berth → Berth) : (s.mapBerths f).node = s.node := by
  dsimp only [State.mapBerths]
@[simp] theorem State.mapBerths_up (s : State) (f : BerthIx → Berth → Berth) : (s.mapBerths f).up = s.up := by
  dsimp only [State.mapBerths]
@[simp] theorem State.mapBerths_thru (s : State) (f : BerthIx → Berth → Berth) : (s.mapBerths f).thru = s.thru := by
  dsimp only [State.mapBerths]
@[simp] theorem State.mapBerths_draws (s : State) (f : BerthIx → Berth → Berth) : (s.mapBerths f).draws = s.draws := by
  dsimp only [State.mapBerths]
@[simp] theorem State.mapBerths_pending (s : State) (f : BerthIx → Berth → Berth) : (s.mapBerths f).pending = s.pending := by
  dsimp only [State.mapBerths]

/-! ### modChain -/

@[simp] theorem State.modChain_pins (s : State) (c : ChainIx) (f : Chain → Chain) : (s.modChain c f).pins = s.pins := by
  dsimp only [State.modChain]
@[simp] theorem State.modChain_held (s : State) (c : ChainIx) (f : Chain → Chain) : (s.modChain c f).held = s.held := by
  dsimp only [State.modChain]
@[simp] theorem State.modChain_timer (s : State) (c : ChainIx) (f : Chain → Chain) : (s.modChain c f).timer = s.timer := by
  dsimp only [State.modChain]
@[simp] theorem State.modChain_faults (s : State) (c : ChainIx) (f : Chain → Chain) : (s.modChain c f).faults = s.faults := by
  dsimp only [State.modChain]
@[simp] theorem State.modChain_mgmt (s : State) (c : ChainIx) (f : Chain → Chain) : (s.modChain c f).mgmt = s.mgmt := by
  dsimp only [State.modChain]
@[simp] theorem State.modChain_counts (s : State) (c : ChainIx) (f : Chain → Chain) : (s.modChain c f).counts = s.counts := by
  dsimp only [State.modChain]
@[simp] theorem State.modChain_berths (s : State) (c : ChainIx) (f : Chain → Chain) : (s.modChain c f).berths = s.berths := by
  dsimp only [State.modChain]
@[simp] theorem State.modChain_calls (s : State) (c : ChainIx) (f : Chain → Chain) : (s.modChain c f).calls = s.calls := by
  dsimp only [State.modChain]
@[simp] theorem State.modChain_slots (s : State) (c : ChainIx) (f : Chain → Chain) : (s.modChain c f).slots = s.slots := by
  dsimp only [State.modChain]
@[simp] theorem State.modChain_profiles (s : State) (c : ChainIx) (f : Chain → Chain) : (s.modChain c f).profiles = s.profiles := by
  dsimp only [State.modChain]
@[simp] theorem State.modChain_streams (s : State) (c : ChainIx) (f : Chain → Chain) : (s.modChain c f).streams = s.streams := by
  dsimp only [State.modChain]
@[simp] theorem State.modChain_rings (s : State) (c : ChainIx) (f : Chain → Chain) : (s.modChain c f).rings = s.rings := by
  dsimp only [State.modChain]
@[simp] theorem State.modChain_zones (s : State) (c : ChainIx) (f : Chain → Chain) : (s.modChain c f).zones = s.zones := by
  dsimp only [State.modChain]
@[simp] theorem State.modChain_classes (s : State) (c : ChainIx) (f : Chain → Chain) : (s.modChain c f).classes = s.classes := by
  dsimp only [State.modChain]
@[simp] theorem State.modChain_channels (s : State) (c : ChainIx) (f : Chain → Chain) : (s.modChain c f).channels = s.channels := by
  dsimp only [State.modChain]
@[simp] theorem State.modChain_store (s : State) (c : ChainIx) (f : Chain → Chain) : (s.modChain c f).store = s.store := by
  dsimp only [State.modChain]
@[simp] theorem State.modChain_chains (s : State) (c : ChainIx) (f : Chain → Chain) : (s.modChain c f).chains = s.chains.set c (f s.chains[c]) := by
  dsimp only [State.modChain]
@[simp] theorem State.modChain_node (s : State) (c : ChainIx) (f : Chain → Chain) : (s.modChain c f).node = s.node := by
  dsimp only [State.modChain]
@[simp] theorem State.modChain_up (s : State) (c : ChainIx) (f : Chain → Chain) : (s.modChain c f).up = s.up := by
  dsimp only [State.modChain]
@[simp] theorem State.modChain_thru (s : State) (c : ChainIx) (f : Chain → Chain) : (s.modChain c f).thru = s.thru := by
  dsimp only [State.modChain]
@[simp] theorem State.modChain_draws (s : State) (c : ChainIx) (f : Chain → Chain) : (s.modChain c f).draws = s.draws := by
  dsimp only [State.modChain]
@[simp] theorem State.modChain_pending (s : State) (c : ChainIx) (f : Chain → Chain) : (s.modChain c f).pending = s.pending := by
  dsimp only [State.modChain]

/-! ### mapChains -/

@[simp] theorem State.mapChains_pins (s : State) (f : ChainIx → Chain → Chain) : (s.mapChains f).pins = s.pins := by
  dsimp only [State.mapChains]
@[simp] theorem State.mapChains_held (s : State) (f : ChainIx → Chain → Chain) : (s.mapChains f).held = s.held := by
  dsimp only [State.mapChains]
@[simp] theorem State.mapChains_timer (s : State) (f : ChainIx → Chain → Chain) : (s.mapChains f).timer = s.timer := by
  dsimp only [State.mapChains]
@[simp] theorem State.mapChains_faults (s : State) (f : ChainIx → Chain → Chain) : (s.mapChains f).faults = s.faults := by
  dsimp only [State.mapChains]
@[simp] theorem State.mapChains_mgmt (s : State) (f : ChainIx → Chain → Chain) : (s.mapChains f).mgmt = s.mgmt := by
  dsimp only [State.mapChains]
@[simp] theorem State.mapChains_counts (s : State) (f : ChainIx → Chain → Chain) : (s.mapChains f).counts = s.counts := by
  dsimp only [State.mapChains]
@[simp] theorem State.mapChains_berths (s : State) (f : ChainIx → Chain → Chain) : (s.mapChains f).berths = s.berths := by
  dsimp only [State.mapChains]
@[simp] theorem State.mapChains_calls (s : State) (f : ChainIx → Chain → Chain) : (s.mapChains f).calls = s.calls := by
  dsimp only [State.mapChains]
@[simp] theorem State.mapChains_slots (s : State) (f : ChainIx → Chain → Chain) : (s.mapChains f).slots = s.slots := by
  dsimp only [State.mapChains]
@[simp] theorem State.mapChains_profiles (s : State) (f : ChainIx → Chain → Chain) : (s.mapChains f).profiles = s.profiles := by
  dsimp only [State.mapChains]
@[simp] theorem State.mapChains_streams (s : State) (f : ChainIx → Chain → Chain) : (s.mapChains f).streams = s.streams := by
  dsimp only [State.mapChains]
@[simp] theorem State.mapChains_rings (s : State) (f : ChainIx → Chain → Chain) : (s.mapChains f).rings = s.rings := by
  dsimp only [State.mapChains]
@[simp] theorem State.mapChains_zones (s : State) (f : ChainIx → Chain → Chain) : (s.mapChains f).zones = s.zones := by
  dsimp only [State.mapChains]
@[simp] theorem State.mapChains_classes (s : State) (f : ChainIx → Chain → Chain) : (s.mapChains f).classes = s.classes := by
  dsimp only [State.mapChains]
@[simp] theorem State.mapChains_channels (s : State) (f : ChainIx → Chain → Chain) : (s.mapChains f).channels = s.channels := by
  dsimp only [State.mapChains]
@[simp] theorem State.mapChains_store (s : State) (f : ChainIx → Chain → Chain) : (s.mapChains f).store = s.store := by
  dsimp only [State.mapChains]
@[simp] theorem State.mapChains_chains (s : State) (f : ChainIx → Chain → Chain) : (s.mapChains f).chains = Vector.ofFn fun c => f c s.chains[c] := by
  dsimp only [State.mapChains]
@[simp] theorem State.mapChains_node (s : State) (f : ChainIx → Chain → Chain) : (s.mapChains f).node = s.node := by
  dsimp only [State.mapChains]
@[simp] theorem State.mapChains_up (s : State) (f : ChainIx → Chain → Chain) : (s.mapChains f).up = s.up := by
  dsimp only [State.mapChains]
@[simp] theorem State.mapChains_thru (s : State) (f : ChainIx → Chain → Chain) : (s.mapChains f).thru = s.thru := by
  dsimp only [State.mapChains]
@[simp] theorem State.mapChains_draws (s : State) (f : ChainIx → Chain → Chain) : (s.mapChains f).draws = s.draws := by
  dsimp only [State.mapChains]
@[simp] theorem State.mapChains_pending (s : State) (f : ChainIx → Chain → Chain) : (s.mapChains f).pending = s.pending := by
  dsimp only [State.mapChains]

/-! ### countChain -/

@[simp] theorem State.countChain_pins (s : State) (c : ChainIx) (f : ChainCounts → ChainCounts) : (s.countChain c f).pins = s.pins := by
  dsimp only [State.countChain, State.modChain]
@[simp] theorem State.countChain_held (s : State) (c : ChainIx) (f : ChainCounts → ChainCounts) : (s.countChain c f).held = s.held := by
  dsimp only [State.countChain, State.modChain]
@[simp] theorem State.countChain_timer (s : State) (c : ChainIx) (f : ChainCounts → ChainCounts) : (s.countChain c f).timer = s.timer := by
  dsimp only [State.countChain, State.modChain]
@[simp] theorem State.countChain_faults (s : State) (c : ChainIx) (f : ChainCounts → ChainCounts) : (s.countChain c f).faults = s.faults := by
  dsimp only [State.countChain, State.modChain]
@[simp] theorem State.countChain_mgmt (s : State) (c : ChainIx) (f : ChainCounts → ChainCounts) : (s.countChain c f).mgmt = s.mgmt := by
  dsimp only [State.countChain, State.modChain]
@[simp] theorem State.countChain_counts (s : State) (c : ChainIx) (f : ChainCounts → ChainCounts) : (s.countChain c f).counts = s.counts := by
  dsimp only [State.countChain, State.modChain]
@[simp] theorem State.countChain_berths (s : State) (c : ChainIx) (f : ChainCounts → ChainCounts) : (s.countChain c f).berths = s.berths := by
  dsimp only [State.countChain, State.modChain]
@[simp] theorem State.countChain_calls (s : State) (c : ChainIx) (f : ChainCounts → ChainCounts) : (s.countChain c f).calls = s.calls := by
  dsimp only [State.countChain, State.modChain]
@[simp] theorem State.countChain_slots (s : State) (c : ChainIx) (f : ChainCounts → ChainCounts) : (s.countChain c f).slots = s.slots := by
  dsimp only [State.countChain, State.modChain]
@[simp] theorem State.countChain_profiles (s : State) (c : ChainIx) (f : ChainCounts → ChainCounts) : (s.countChain c f).profiles = s.profiles := by
  dsimp only [State.countChain, State.modChain]
@[simp] theorem State.countChain_streams (s : State) (c : ChainIx) (f : ChainCounts → ChainCounts) : (s.countChain c f).streams = s.streams := by
  dsimp only [State.countChain, State.modChain]
@[simp] theorem State.countChain_rings (s : State) (c : ChainIx) (f : ChainCounts → ChainCounts) : (s.countChain c f).rings = s.rings := by
  dsimp only [State.countChain, State.modChain]
@[simp] theorem State.countChain_zones (s : State) (c : ChainIx) (f : ChainCounts → ChainCounts) : (s.countChain c f).zones = s.zones := by
  dsimp only [State.countChain, State.modChain]
@[simp] theorem State.countChain_classes (s : State) (c : ChainIx) (f : ChainCounts → ChainCounts) : (s.countChain c f).classes = s.classes := by
  dsimp only [State.countChain, State.modChain]
@[simp] theorem State.countChain_channels (s : State) (c : ChainIx) (f : ChainCounts → ChainCounts) : (s.countChain c f).channels = s.channels := by
  dsimp only [State.countChain, State.modChain]
@[simp] theorem State.countChain_store (s : State) (c : ChainIx) (f : ChainCounts → ChainCounts) : (s.countChain c f).store = s.store := by
  dsimp only [State.countChain, State.modChain]
@[simp] theorem State.countChain_chains (s : State) (c : ChainIx) (f : ChainCounts → ChainCounts) : (s.countChain c f).chains = s.chains.set c { s.chains[c] with counts := f s.chains[c].counts } := by
  dsimp only [State.countChain, State.modChain]
@[simp] theorem State.countChain_node (s : State) (c : ChainIx) (f : ChainCounts → ChainCounts) : (s.countChain c f).node = s.node := by
  dsimp only [State.countChain, State.modChain]
@[simp] theorem State.countChain_up (s : State) (c : ChainIx) (f : ChainCounts → ChainCounts) : (s.countChain c f).up = s.up := by
  dsimp only [State.countChain, State.modChain]
@[simp] theorem State.countChain_thru (s : State) (c : ChainIx) (f : ChainCounts → ChainCounts) : (s.countChain c f).thru = s.thru := by
  dsimp only [State.countChain, State.modChain]
@[simp] theorem State.countChain_draws (s : State) (c : ChainIx) (f : ChainCounts → ChainCounts) : (s.countChain c f).draws = s.draws := by
  dsimp only [State.countChain, State.modChain]
@[simp] theorem State.countChain_pending (s : State) (c : ChainIx) (f : ChainCounts → ChainCounts) : (s.countChain c f).pending = s.pending := by
  dsimp only [State.countChain, State.modChain]

/-! ### modStream -/

@[simp] theorem State.modStream_pins (s : State) (v : StreamIx) (f : StreamEntry → StreamEntry) : (s.modStream v f).pins = s.pins := by
  dsimp only [State.modStream]
@[simp] theorem State.modStream_held (s : State) (v : StreamIx) (f : StreamEntry → StreamEntry) : (s.modStream v f).held = s.held := by
  dsimp only [State.modStream]
@[simp] theorem State.modStream_timer (s : State) (v : StreamIx) (f : StreamEntry → StreamEntry) : (s.modStream v f).timer = s.timer := by
  dsimp only [State.modStream]
@[simp] theorem State.modStream_faults (s : State) (v : StreamIx) (f : StreamEntry → StreamEntry) : (s.modStream v f).faults = s.faults := by
  dsimp only [State.modStream]
@[simp] theorem State.modStream_mgmt (s : State) (v : StreamIx) (f : StreamEntry → StreamEntry) : (s.modStream v f).mgmt = s.mgmt := by
  dsimp only [State.modStream]
@[simp] theorem State.modStream_counts (s : State) (v : StreamIx) (f : StreamEntry → StreamEntry) : (s.modStream v f).counts = s.counts := by
  dsimp only [State.modStream]
@[simp] theorem State.modStream_berths (s : State) (v : StreamIx) (f : StreamEntry → StreamEntry) : (s.modStream v f).berths = s.berths := by
  dsimp only [State.modStream]
@[simp] theorem State.modStream_calls (s : State) (v : StreamIx) (f : StreamEntry → StreamEntry) : (s.modStream v f).calls = s.calls := by
  dsimp only [State.modStream]
@[simp] theorem State.modStream_slots (s : State) (v : StreamIx) (f : StreamEntry → StreamEntry) : (s.modStream v f).slots = s.slots := by
  dsimp only [State.modStream]
@[simp] theorem State.modStream_profiles (s : State) (v : StreamIx) (f : StreamEntry → StreamEntry) : (s.modStream v f).profiles = s.profiles := by
  dsimp only [State.modStream]
@[simp] theorem State.modStream_streams (s : State) (v : StreamIx) (f : StreamEntry → StreamEntry) : (s.modStream v f).streams = s.streams.set v (f s.streams[v]) := by
  dsimp only [State.modStream]
@[simp] theorem State.modStream_rings (s : State) (v : StreamIx) (f : StreamEntry → StreamEntry) : (s.modStream v f).rings = s.rings := by
  dsimp only [State.modStream]
@[simp] theorem State.modStream_zones (s : State) (v : StreamIx) (f : StreamEntry → StreamEntry) : (s.modStream v f).zones = s.zones := by
  dsimp only [State.modStream]
@[simp] theorem State.modStream_classes (s : State) (v : StreamIx) (f : StreamEntry → StreamEntry) : (s.modStream v f).classes = s.classes := by
  dsimp only [State.modStream]
@[simp] theorem State.modStream_channels (s : State) (v : StreamIx) (f : StreamEntry → StreamEntry) : (s.modStream v f).channels = s.channels := by
  dsimp only [State.modStream]
@[simp] theorem State.modStream_store (s : State) (v : StreamIx) (f : StreamEntry → StreamEntry) : (s.modStream v f).store = s.store := by
  dsimp only [State.modStream]
@[simp] theorem State.modStream_chains (s : State) (v : StreamIx) (f : StreamEntry → StreamEntry) : (s.modStream v f).chains = s.chains := by
  dsimp only [State.modStream]
@[simp] theorem State.modStream_node (s : State) (v : StreamIx) (f : StreamEntry → StreamEntry) : (s.modStream v f).node = s.node := by
  dsimp only [State.modStream]
@[simp] theorem State.modStream_up (s : State) (v : StreamIx) (f : StreamEntry → StreamEntry) : (s.modStream v f).up = s.up := by
  dsimp only [State.modStream]
@[simp] theorem State.modStream_thru (s : State) (v : StreamIx) (f : StreamEntry → StreamEntry) : (s.modStream v f).thru = s.thru := by
  dsimp only [State.modStream]
@[simp] theorem State.modStream_draws (s : State) (v : StreamIx) (f : StreamEntry → StreamEntry) : (s.modStream v f).draws = s.draws := by
  dsimp only [State.modStream]
@[simp] theorem State.modStream_pending (s : State) (v : StreamIx) (f : StreamEntry → StreamEntry) : (s.modStream v f).pending = s.pending := by
  dsimp only [State.modStream]

/-! ### countStream -/

@[simp] theorem State.countStream_pins (s : State) (v : StreamIx) (f : StreamCounts → StreamCounts) : (s.countStream v f).pins = s.pins := by
  dsimp only [State.countStream, State.modStream]
@[simp] theorem State.countStream_held (s : State) (v : StreamIx) (f : StreamCounts → StreamCounts) : (s.countStream v f).held = s.held := by
  dsimp only [State.countStream, State.modStream]
@[simp] theorem State.countStream_timer (s : State) (v : StreamIx) (f : StreamCounts → StreamCounts) : (s.countStream v f).timer = s.timer := by
  dsimp only [State.countStream, State.modStream]
@[simp] theorem State.countStream_faults (s : State) (v : StreamIx) (f : StreamCounts → StreamCounts) : (s.countStream v f).faults = s.faults := by
  dsimp only [State.countStream, State.modStream]
@[simp] theorem State.countStream_mgmt (s : State) (v : StreamIx) (f : StreamCounts → StreamCounts) : (s.countStream v f).mgmt = s.mgmt := by
  dsimp only [State.countStream, State.modStream]
@[simp] theorem State.countStream_counts (s : State) (v : StreamIx) (f : StreamCounts → StreamCounts) : (s.countStream v f).counts = s.counts := by
  dsimp only [State.countStream, State.modStream]
@[simp] theorem State.countStream_berths (s : State) (v : StreamIx) (f : StreamCounts → StreamCounts) : (s.countStream v f).berths = s.berths := by
  dsimp only [State.countStream, State.modStream]
@[simp] theorem State.countStream_calls (s : State) (v : StreamIx) (f : StreamCounts → StreamCounts) : (s.countStream v f).calls = s.calls := by
  dsimp only [State.countStream, State.modStream]
@[simp] theorem State.countStream_slots (s : State) (v : StreamIx) (f : StreamCounts → StreamCounts) : (s.countStream v f).slots = s.slots := by
  dsimp only [State.countStream, State.modStream]
@[simp] theorem State.countStream_profiles (s : State) (v : StreamIx) (f : StreamCounts → StreamCounts) : (s.countStream v f).profiles = s.profiles := by
  dsimp only [State.countStream, State.modStream]
@[simp] theorem State.countStream_streams (s : State) (v : StreamIx) (f : StreamCounts → StreamCounts) : (s.countStream v f).streams = s.streams.set v { s.streams[v] with counts := f s.streams[v].counts } := by
  dsimp only [State.countStream, State.modStream]
@[simp] theorem State.countStream_rings (s : State) (v : StreamIx) (f : StreamCounts → StreamCounts) : (s.countStream v f).rings = s.rings := by
  dsimp only [State.countStream, State.modStream]
@[simp] theorem State.countStream_zones (s : State) (v : StreamIx) (f : StreamCounts → StreamCounts) : (s.countStream v f).zones = s.zones := by
  dsimp only [State.countStream, State.modStream]
@[simp] theorem State.countStream_classes (s : State) (v : StreamIx) (f : StreamCounts → StreamCounts) : (s.countStream v f).classes = s.classes := by
  dsimp only [State.countStream, State.modStream]
@[simp] theorem State.countStream_channels (s : State) (v : StreamIx) (f : StreamCounts → StreamCounts) : (s.countStream v f).channels = s.channels := by
  dsimp only [State.countStream, State.modStream]
@[simp] theorem State.countStream_store (s : State) (v : StreamIx) (f : StreamCounts → StreamCounts) : (s.countStream v f).store = s.store := by
  dsimp only [State.countStream, State.modStream]
@[simp] theorem State.countStream_chains (s : State) (v : StreamIx) (f : StreamCounts → StreamCounts) : (s.countStream v f).chains = s.chains := by
  dsimp only [State.countStream, State.modStream]
@[simp] theorem State.countStream_node (s : State) (v : StreamIx) (f : StreamCounts → StreamCounts) : (s.countStream v f).node = s.node := by
  dsimp only [State.countStream, State.modStream]
@[simp] theorem State.countStream_up (s : State) (v : StreamIx) (f : StreamCounts → StreamCounts) : (s.countStream v f).up = s.up := by
  dsimp only [State.countStream, State.modStream]
@[simp] theorem State.countStream_thru (s : State) (v : StreamIx) (f : StreamCounts → StreamCounts) : (s.countStream v f).thru = s.thru := by
  dsimp only [State.countStream, State.modStream]
@[simp] theorem State.countStream_draws (s : State) (v : StreamIx) (f : StreamCounts → StreamCounts) : (s.countStream v f).draws = s.draws := by
  dsimp only [State.countStream, State.modStream]
@[simp] theorem State.countStream_pending (s : State) (v : StreamIx) (f : StreamCounts → StreamCounts) : (s.countStream v f).pending = s.pending := by
  dsimp only [State.countStream, State.modStream]

/-! ### modChannel -/

@[simp] theorem State.modChannel_pins (s : State) (a : ChannelIx) (f : Channel → Channel) : (s.modChannel a f).pins = s.pins := by
  dsimp only [State.modChannel]
@[simp] theorem State.modChannel_held (s : State) (a : ChannelIx) (f : Channel → Channel) : (s.modChannel a f).held = s.held := by
  dsimp only [State.modChannel]
@[simp] theorem State.modChannel_timer (s : State) (a : ChannelIx) (f : Channel → Channel) : (s.modChannel a f).timer = s.timer := by
  dsimp only [State.modChannel]
@[simp] theorem State.modChannel_faults (s : State) (a : ChannelIx) (f : Channel → Channel) : (s.modChannel a f).faults = s.faults := by
  dsimp only [State.modChannel]
@[simp] theorem State.modChannel_mgmt (s : State) (a : ChannelIx) (f : Channel → Channel) : (s.modChannel a f).mgmt = s.mgmt := by
  dsimp only [State.modChannel]
@[simp] theorem State.modChannel_counts (s : State) (a : ChannelIx) (f : Channel → Channel) : (s.modChannel a f).counts = s.counts := by
  dsimp only [State.modChannel]
@[simp] theorem State.modChannel_berths (s : State) (a : ChannelIx) (f : Channel → Channel) : (s.modChannel a f).berths = s.berths := by
  dsimp only [State.modChannel]
@[simp] theorem State.modChannel_calls (s : State) (a : ChannelIx) (f : Channel → Channel) : (s.modChannel a f).calls = s.calls := by
  dsimp only [State.modChannel]
@[simp] theorem State.modChannel_slots (s : State) (a : ChannelIx) (f : Channel → Channel) : (s.modChannel a f).slots = s.slots := by
  dsimp only [State.modChannel]
@[simp] theorem State.modChannel_profiles (s : State) (a : ChannelIx) (f : Channel → Channel) : (s.modChannel a f).profiles = s.profiles := by
  dsimp only [State.modChannel]
@[simp] theorem State.modChannel_streams (s : State) (a : ChannelIx) (f : Channel → Channel) : (s.modChannel a f).streams = s.streams := by
  dsimp only [State.modChannel]
@[simp] theorem State.modChannel_rings (s : State) (a : ChannelIx) (f : Channel → Channel) : (s.modChannel a f).rings = s.rings := by
  dsimp only [State.modChannel]
@[simp] theorem State.modChannel_zones (s : State) (a : ChannelIx) (f : Channel → Channel) : (s.modChannel a f).zones = s.zones := by
  dsimp only [State.modChannel]
@[simp] theorem State.modChannel_classes (s : State) (a : ChannelIx) (f : Channel → Channel) : (s.modChannel a f).classes = s.classes := by
  dsimp only [State.modChannel]
@[simp] theorem State.modChannel_channels (s : State) (a : ChannelIx) (f : Channel → Channel) : (s.modChannel a f).channels = s.channels.set a (f s.channels[a]) := by
  dsimp only [State.modChannel]
@[simp] theorem State.modChannel_store (s : State) (a : ChannelIx) (f : Channel → Channel) : (s.modChannel a f).store = s.store := by
  dsimp only [State.modChannel]
@[simp] theorem State.modChannel_chains (s : State) (a : ChannelIx) (f : Channel → Channel) : (s.modChannel a f).chains = s.chains := by
  dsimp only [State.modChannel]
@[simp] theorem State.modChannel_node (s : State) (a : ChannelIx) (f : Channel → Channel) : (s.modChannel a f).node = s.node := by
  dsimp only [State.modChannel]
@[simp] theorem State.modChannel_up (s : State) (a : ChannelIx) (f : Channel → Channel) : (s.modChannel a f).up = s.up := by
  dsimp only [State.modChannel]
@[simp] theorem State.modChannel_thru (s : State) (a : ChannelIx) (f : Channel → Channel) : (s.modChannel a f).thru = s.thru := by
  dsimp only [State.modChannel]
@[simp] theorem State.modChannel_draws (s : State) (a : ChannelIx) (f : Channel → Channel) : (s.modChannel a f).draws = s.draws := by
  dsimp only [State.modChannel]
@[simp] theorem State.modChannel_pending (s : State) (a : ChannelIx) (f : Channel → Channel) : (s.modChannel a f).pending = s.pending := by
  dsimp only [State.modChannel]

/-! ### countChannel -/

@[simp] theorem State.countChannel_pins (s : State) (a : ChannelIx) (f : ChannelCounts → ChannelCounts) : (s.countChannel a f).pins = s.pins := by
  dsimp only [State.countChannel, State.modChannel]
@[simp] theorem State.countChannel_held (s : State) (a : ChannelIx) (f : ChannelCounts → ChannelCounts) : (s.countChannel a f).held = s.held := by
  dsimp only [State.countChannel, State.modChannel]
@[simp] theorem State.countChannel_timer (s : State) (a : ChannelIx) (f : ChannelCounts → ChannelCounts) : (s.countChannel a f).timer = s.timer := by
  dsimp only [State.countChannel, State.modChannel]
@[simp] theorem State.countChannel_faults (s : State) (a : ChannelIx) (f : ChannelCounts → ChannelCounts) : (s.countChannel a f).faults = s.faults := by
  dsimp only [State.countChannel, State.modChannel]
@[simp] theorem State.countChannel_mgmt (s : State) (a : ChannelIx) (f : ChannelCounts → ChannelCounts) : (s.countChannel a f).mgmt = s.mgmt := by
  dsimp only [State.countChannel, State.modChannel]
@[simp] theorem State.countChannel_counts (s : State) (a : ChannelIx) (f : ChannelCounts → ChannelCounts) : (s.countChannel a f).counts = s.counts := by
  dsimp only [State.countChannel, State.modChannel]
@[simp] theorem State.countChannel_berths (s : State) (a : ChannelIx) (f : ChannelCounts → ChannelCounts) : (s.countChannel a f).berths = s.berths := by
  dsimp only [State.countChannel, State.modChannel]
@[simp] theorem State.countChannel_calls (s : State) (a : ChannelIx) (f : ChannelCounts → ChannelCounts) : (s.countChannel a f).calls = s.calls := by
  dsimp only [State.countChannel, State.modChannel]
@[simp] theorem State.countChannel_slots (s : State) (a : ChannelIx) (f : ChannelCounts → ChannelCounts) : (s.countChannel a f).slots = s.slots := by
  dsimp only [State.countChannel, State.modChannel]
@[simp] theorem State.countChannel_profiles (s : State) (a : ChannelIx) (f : ChannelCounts → ChannelCounts) : (s.countChannel a f).profiles = s.profiles := by
  dsimp only [State.countChannel, State.modChannel]
@[simp] theorem State.countChannel_streams (s : State) (a : ChannelIx) (f : ChannelCounts → ChannelCounts) : (s.countChannel a f).streams = s.streams := by
  dsimp only [State.countChannel, State.modChannel]
@[simp] theorem State.countChannel_rings (s : State) (a : ChannelIx) (f : ChannelCounts → ChannelCounts) : (s.countChannel a f).rings = s.rings := by
  dsimp only [State.countChannel, State.modChannel]
@[simp] theorem State.countChannel_zones (s : State) (a : ChannelIx) (f : ChannelCounts → ChannelCounts) : (s.countChannel a f).zones = s.zones := by
  dsimp only [State.countChannel, State.modChannel]
@[simp] theorem State.countChannel_classes (s : State) (a : ChannelIx) (f : ChannelCounts → ChannelCounts) : (s.countChannel a f).classes = s.classes := by
  dsimp only [State.countChannel, State.modChannel]
@[simp] theorem State.countChannel_channels (s : State) (a : ChannelIx) (f : ChannelCounts → ChannelCounts) : (s.countChannel a f).channels = s.channels.set a { s.channels[a] with counts := f s.channels[a].counts } := by
  dsimp only [State.countChannel, State.modChannel]
@[simp] theorem State.countChannel_store (s : State) (a : ChannelIx) (f : ChannelCounts → ChannelCounts) : (s.countChannel a f).store = s.store := by
  dsimp only [State.countChannel, State.modChannel]
@[simp] theorem State.countChannel_chains (s : State) (a : ChannelIx) (f : ChannelCounts → ChannelCounts) : (s.countChannel a f).chains = s.chains := by
  dsimp only [State.countChannel, State.modChannel]
@[simp] theorem State.countChannel_node (s : State) (a : ChannelIx) (f : ChannelCounts → ChannelCounts) : (s.countChannel a f).node = s.node := by
  dsimp only [State.countChannel, State.modChannel]
@[simp] theorem State.countChannel_up (s : State) (a : ChannelIx) (f : ChannelCounts → ChannelCounts) : (s.countChannel a f).up = s.up := by
  dsimp only [State.countChannel, State.modChannel]
@[simp] theorem State.countChannel_thru (s : State) (a : ChannelIx) (f : ChannelCounts → ChannelCounts) : (s.countChannel a f).thru = s.thru := by
  dsimp only [State.countChannel, State.modChannel]
@[simp] theorem State.countChannel_draws (s : State) (a : ChannelIx) (f : ChannelCounts → ChannelCounts) : (s.countChannel a f).draws = s.draws := by
  dsimp only [State.countChannel, State.modChannel]
@[simp] theorem State.countChannel_pending (s : State) (a : ChannelIx) (f : ChannelCounts → ChannelCounts) : (s.countChannel a f).pending = s.pending := by
  dsimp only [State.countChannel, State.modChannel]

/-! ### countPart -/

@[simp] theorem State.countPart_pins (s : State) (f : PartCounts → PartCounts) : (s.countPart f).pins = s.pins := by
  dsimp only [State.countPart]
@[simp] theorem State.countPart_held (s : State) (f : PartCounts → PartCounts) : (s.countPart f).held = s.held := by
  dsimp only [State.countPart]
@[simp] theorem State.countPart_timer (s : State) (f : PartCounts → PartCounts) : (s.countPart f).timer = s.timer := by
  dsimp only [State.countPart]
@[simp] theorem State.countPart_faults (s : State) (f : PartCounts → PartCounts) : (s.countPart f).faults = s.faults := by
  dsimp only [State.countPart]
@[simp] theorem State.countPart_mgmt (s : State) (f : PartCounts → PartCounts) : (s.countPart f).mgmt = s.mgmt := by
  dsimp only [State.countPart]
@[simp] theorem State.countPart_counts (s : State) (f : PartCounts → PartCounts) : (s.countPart f).counts = f s.counts := by
  dsimp only [State.countPart]
@[simp] theorem State.countPart_berths (s : State) (f : PartCounts → PartCounts) : (s.countPart f).berths = s.berths := by
  dsimp only [State.countPart]
@[simp] theorem State.countPart_calls (s : State) (f : PartCounts → PartCounts) : (s.countPart f).calls = s.calls := by
  dsimp only [State.countPart]
@[simp] theorem State.countPart_slots (s : State) (f : PartCounts → PartCounts) : (s.countPart f).slots = s.slots := by
  dsimp only [State.countPart]
@[simp] theorem State.countPart_profiles (s : State) (f : PartCounts → PartCounts) : (s.countPart f).profiles = s.profiles := by
  dsimp only [State.countPart]
@[simp] theorem State.countPart_streams (s : State) (f : PartCounts → PartCounts) : (s.countPart f).streams = s.streams := by
  dsimp only [State.countPart]
@[simp] theorem State.countPart_rings (s : State) (f : PartCounts → PartCounts) : (s.countPart f).rings = s.rings := by
  dsimp only [State.countPart]
@[simp] theorem State.countPart_zones (s : State) (f : PartCounts → PartCounts) : (s.countPart f).zones = s.zones := by
  dsimp only [State.countPart]
@[simp] theorem State.countPart_classes (s : State) (f : PartCounts → PartCounts) : (s.countPart f).classes = s.classes := by
  dsimp only [State.countPart]
@[simp] theorem State.countPart_channels (s : State) (f : PartCounts → PartCounts) : (s.countPart f).channels = s.channels := by
  dsimp only [State.countPart]
@[simp] theorem State.countPart_store (s : State) (f : PartCounts → PartCounts) : (s.countPart f).store = s.store := by
  dsimp only [State.countPart]
@[simp] theorem State.countPart_chains (s : State) (f : PartCounts → PartCounts) : (s.countPart f).chains = s.chains := by
  dsimp only [State.countPart]
@[simp] theorem State.countPart_node (s : State) (f : PartCounts → PartCounts) : (s.countPart f).node = s.node := by
  dsimp only [State.countPart]
@[simp] theorem State.countPart_up (s : State) (f : PartCounts → PartCounts) : (s.countPart f).up = s.up := by
  dsimp only [State.countPart]
@[simp] theorem State.countPart_thru (s : State) (f : PartCounts → PartCounts) : (s.countPart f).thru = s.thru := by
  dsimp only [State.countPart]
@[simp] theorem State.countPart_draws (s : State) (f : PartCounts → PartCounts) : (s.countPart f).draws = s.draws := by
  dsimp only [State.countPart]
@[simp] theorem State.countPart_pending (s : State) (f : PartCounts → PartCounts) : (s.countPart f).pending = s.pending := by
  dsimp only [State.countPart]

/-! ### modTimer -/

@[simp] theorem State.modTimer_pins (s : State) (f : Timer → Timer) : (s.modTimer f).pins = s.pins := by
  dsimp only [State.modTimer]
@[simp] theorem State.modTimer_held (s : State) (f : Timer → Timer) : (s.modTimer f).held = s.held := by
  dsimp only [State.modTimer]
@[simp] theorem State.modTimer_timer (s : State) (f : Timer → Timer) : (s.modTimer f).timer = f s.timer := by
  dsimp only [State.modTimer]
@[simp] theorem State.modTimer_faults (s : State) (f : Timer → Timer) : (s.modTimer f).faults = s.faults := by
  dsimp only [State.modTimer]
@[simp] theorem State.modTimer_mgmt (s : State) (f : Timer → Timer) : (s.modTimer f).mgmt = s.mgmt := by
  dsimp only [State.modTimer]
@[simp] theorem State.modTimer_counts (s : State) (f : Timer → Timer) : (s.modTimer f).counts = s.counts := by
  dsimp only [State.modTimer]
@[simp] theorem State.modTimer_berths (s : State) (f : Timer → Timer) : (s.modTimer f).berths = s.berths := by
  dsimp only [State.modTimer]
@[simp] theorem State.modTimer_calls (s : State) (f : Timer → Timer) : (s.modTimer f).calls = s.calls := by
  dsimp only [State.modTimer]
@[simp] theorem State.modTimer_slots (s : State) (f : Timer → Timer) : (s.modTimer f).slots = s.slots := by
  dsimp only [State.modTimer]
@[simp] theorem State.modTimer_profiles (s : State) (f : Timer → Timer) : (s.modTimer f).profiles = s.profiles := by
  dsimp only [State.modTimer]
@[simp] theorem State.modTimer_streams (s : State) (f : Timer → Timer) : (s.modTimer f).streams = s.streams := by
  dsimp only [State.modTimer]
@[simp] theorem State.modTimer_rings (s : State) (f : Timer → Timer) : (s.modTimer f).rings = s.rings := by
  dsimp only [State.modTimer]
@[simp] theorem State.modTimer_zones (s : State) (f : Timer → Timer) : (s.modTimer f).zones = s.zones := by
  dsimp only [State.modTimer]
@[simp] theorem State.modTimer_classes (s : State) (f : Timer → Timer) : (s.modTimer f).classes = s.classes := by
  dsimp only [State.modTimer]
@[simp] theorem State.modTimer_channels (s : State) (f : Timer → Timer) : (s.modTimer f).channels = s.channels := by
  dsimp only [State.modTimer]
@[simp] theorem State.modTimer_store (s : State) (f : Timer → Timer) : (s.modTimer f).store = s.store := by
  dsimp only [State.modTimer]
@[simp] theorem State.modTimer_chains (s : State) (f : Timer → Timer) : (s.modTimer f).chains = s.chains := by
  dsimp only [State.modTimer]
@[simp] theorem State.modTimer_node (s : State) (f : Timer → Timer) : (s.modTimer f).node = s.node := by
  dsimp only [State.modTimer]
@[simp] theorem State.modTimer_up (s : State) (f : Timer → Timer) : (s.modTimer f).up = s.up := by
  dsimp only [State.modTimer]
@[simp] theorem State.modTimer_thru (s : State) (f : Timer → Timer) : (s.modTimer f).thru = s.thru := by
  dsimp only [State.modTimer]
@[simp] theorem State.modTimer_draws (s : State) (f : Timer → Timer) : (s.modTimer f).draws = s.draws := by
  dsimp only [State.modTimer]
@[simp] theorem State.modTimer_pending (s : State) (f : Timer → Timer) : (s.modTimer f).pending = s.pending := by
  dsimp only [State.modTimer]

/-! ### modFaults -/

@[simp] theorem State.modFaults_pins (s : State) (f : FaultMonitor → FaultMonitor) : (s.modFaults f).pins = s.pins := by
  dsimp only [State.modFaults]
@[simp] theorem State.modFaults_held (s : State) (f : FaultMonitor → FaultMonitor) : (s.modFaults f).held = s.held := by
  dsimp only [State.modFaults]
@[simp] theorem State.modFaults_timer (s : State) (f : FaultMonitor → FaultMonitor) : (s.modFaults f).timer = s.timer := by
  dsimp only [State.modFaults]
@[simp] theorem State.modFaults_faults (s : State) (f : FaultMonitor → FaultMonitor) : (s.modFaults f).faults = f s.faults := by
  dsimp only [State.modFaults]
@[simp] theorem State.modFaults_mgmt (s : State) (f : FaultMonitor → FaultMonitor) : (s.modFaults f).mgmt = s.mgmt := by
  dsimp only [State.modFaults]
@[simp] theorem State.modFaults_counts (s : State) (f : FaultMonitor → FaultMonitor) : (s.modFaults f).counts = s.counts := by
  dsimp only [State.modFaults]
@[simp] theorem State.modFaults_berths (s : State) (f : FaultMonitor → FaultMonitor) : (s.modFaults f).berths = s.berths := by
  dsimp only [State.modFaults]
@[simp] theorem State.modFaults_calls (s : State) (f : FaultMonitor → FaultMonitor) : (s.modFaults f).calls = s.calls := by
  dsimp only [State.modFaults]
@[simp] theorem State.modFaults_slots (s : State) (f : FaultMonitor → FaultMonitor) : (s.modFaults f).slots = s.slots := by
  dsimp only [State.modFaults]
@[simp] theorem State.modFaults_profiles (s : State) (f : FaultMonitor → FaultMonitor) : (s.modFaults f).profiles = s.profiles := by
  dsimp only [State.modFaults]
@[simp] theorem State.modFaults_streams (s : State) (f : FaultMonitor → FaultMonitor) : (s.modFaults f).streams = s.streams := by
  dsimp only [State.modFaults]
@[simp] theorem State.modFaults_rings (s : State) (f : FaultMonitor → FaultMonitor) : (s.modFaults f).rings = s.rings := by
  dsimp only [State.modFaults]
@[simp] theorem State.modFaults_zones (s : State) (f : FaultMonitor → FaultMonitor) : (s.modFaults f).zones = s.zones := by
  dsimp only [State.modFaults]
@[simp] theorem State.modFaults_classes (s : State) (f : FaultMonitor → FaultMonitor) : (s.modFaults f).classes = s.classes := by
  dsimp only [State.modFaults]
@[simp] theorem State.modFaults_channels (s : State) (f : FaultMonitor → FaultMonitor) : (s.modFaults f).channels = s.channels := by
  dsimp only [State.modFaults]
@[simp] theorem State.modFaults_store (s : State) (f : FaultMonitor → FaultMonitor) : (s.modFaults f).store = s.store := by
  dsimp only [State.modFaults]
@[simp] theorem State.modFaults_chains (s : State) (f : FaultMonitor → FaultMonitor) : (s.modFaults f).chains = s.chains := by
  dsimp only [State.modFaults]
@[simp] theorem State.modFaults_node (s : State) (f : FaultMonitor → FaultMonitor) : (s.modFaults f).node = s.node := by
  dsimp only [State.modFaults]
@[simp] theorem State.modFaults_up (s : State) (f : FaultMonitor → FaultMonitor) : (s.modFaults f).up = s.up := by
  dsimp only [State.modFaults]
@[simp] theorem State.modFaults_thru (s : State) (f : FaultMonitor → FaultMonitor) : (s.modFaults f).thru = s.thru := by
  dsimp only [State.modFaults]
@[simp] theorem State.modFaults_draws (s : State) (f : FaultMonitor → FaultMonitor) : (s.modFaults f).draws = s.draws := by
  dsimp only [State.modFaults]
@[simp] theorem State.modFaults_pending (s : State) (f : FaultMonitor → FaultMonitor) : (s.modFaults f).pending = s.pending := by
  dsimp only [State.modFaults]

/-! ### modMgmt -/

@[simp] theorem State.modMgmt_pins (s : State) (f : Management → Management) : (s.modMgmt f).pins = s.pins := by
  dsimp only [State.modMgmt]
@[simp] theorem State.modMgmt_held (s : State) (f : Management → Management) : (s.modMgmt f).held = s.held := by
  dsimp only [State.modMgmt]
@[simp] theorem State.modMgmt_timer (s : State) (f : Management → Management) : (s.modMgmt f).timer = s.timer := by
  dsimp only [State.modMgmt]
@[simp] theorem State.modMgmt_faults (s : State) (f : Management → Management) : (s.modMgmt f).faults = s.faults := by
  dsimp only [State.modMgmt]
@[simp] theorem State.modMgmt_mgmt (s : State) (f : Management → Management) : (s.modMgmt f).mgmt = f s.mgmt := by
  dsimp only [State.modMgmt]
@[simp] theorem State.modMgmt_counts (s : State) (f : Management → Management) : (s.modMgmt f).counts = s.counts := by
  dsimp only [State.modMgmt]
@[simp] theorem State.modMgmt_berths (s : State) (f : Management → Management) : (s.modMgmt f).berths = s.berths := by
  dsimp only [State.modMgmt]
@[simp] theorem State.modMgmt_calls (s : State) (f : Management → Management) : (s.modMgmt f).calls = s.calls := by
  dsimp only [State.modMgmt]
@[simp] theorem State.modMgmt_slots (s : State) (f : Management → Management) : (s.modMgmt f).slots = s.slots := by
  dsimp only [State.modMgmt]
@[simp] theorem State.modMgmt_profiles (s : State) (f : Management → Management) : (s.modMgmt f).profiles = s.profiles := by
  dsimp only [State.modMgmt]
@[simp] theorem State.modMgmt_streams (s : State) (f : Management → Management) : (s.modMgmt f).streams = s.streams := by
  dsimp only [State.modMgmt]
@[simp] theorem State.modMgmt_rings (s : State) (f : Management → Management) : (s.modMgmt f).rings = s.rings := by
  dsimp only [State.modMgmt]
@[simp] theorem State.modMgmt_zones (s : State) (f : Management → Management) : (s.modMgmt f).zones = s.zones := by
  dsimp only [State.modMgmt]
@[simp] theorem State.modMgmt_classes (s : State) (f : Management → Management) : (s.modMgmt f).classes = s.classes := by
  dsimp only [State.modMgmt]
@[simp] theorem State.modMgmt_channels (s : State) (f : Management → Management) : (s.modMgmt f).channels = s.channels := by
  dsimp only [State.modMgmt]
@[simp] theorem State.modMgmt_store (s : State) (f : Management → Management) : (s.modMgmt f).store = s.store := by
  dsimp only [State.modMgmt]
@[simp] theorem State.modMgmt_chains (s : State) (f : Management → Management) : (s.modMgmt f).chains = s.chains := by
  dsimp only [State.modMgmt]
@[simp] theorem State.modMgmt_node (s : State) (f : Management → Management) : (s.modMgmt f).node = s.node := by
  dsimp only [State.modMgmt]
@[simp] theorem State.modMgmt_up (s : State) (f : Management → Management) : (s.modMgmt f).up = s.up := by
  dsimp only [State.modMgmt]
@[simp] theorem State.modMgmt_thru (s : State) (f : Management → Management) : (s.modMgmt f).thru = s.thru := by
  dsimp only [State.modMgmt]
@[simp] theorem State.modMgmt_draws (s : State) (f : Management → Management) : (s.modMgmt f).draws = s.draws := by
  dsimp only [State.modMgmt]
@[simp] theorem State.modMgmt_pending (s : State) (f : Management → Management) : (s.modMgmt f).pending = s.pending := by
  dsimp only [State.modMgmt]

/-! ### modUp -/

@[simp] theorem State.modUp_pins (s : State) (f : UpstreamPort → UpstreamPort) : (s.modUp f).pins = s.pins := by
  dsimp only [State.modUp]
@[simp] theorem State.modUp_held (s : State) (f : UpstreamPort → UpstreamPort) : (s.modUp f).held = s.held := by
  dsimp only [State.modUp]
@[simp] theorem State.modUp_timer (s : State) (f : UpstreamPort → UpstreamPort) : (s.modUp f).timer = s.timer := by
  dsimp only [State.modUp]
@[simp] theorem State.modUp_faults (s : State) (f : UpstreamPort → UpstreamPort) : (s.modUp f).faults = s.faults := by
  dsimp only [State.modUp]
@[simp] theorem State.modUp_mgmt (s : State) (f : UpstreamPort → UpstreamPort) : (s.modUp f).mgmt = s.mgmt := by
  dsimp only [State.modUp]
@[simp] theorem State.modUp_counts (s : State) (f : UpstreamPort → UpstreamPort) : (s.modUp f).counts = s.counts := by
  dsimp only [State.modUp]
@[simp] theorem State.modUp_berths (s : State) (f : UpstreamPort → UpstreamPort) : (s.modUp f).berths = s.berths := by
  dsimp only [State.modUp]
@[simp] theorem State.modUp_calls (s : State) (f : UpstreamPort → UpstreamPort) : (s.modUp f).calls = s.calls := by
  dsimp only [State.modUp]
@[simp] theorem State.modUp_slots (s : State) (f : UpstreamPort → UpstreamPort) : (s.modUp f).slots = s.slots := by
  dsimp only [State.modUp]
@[simp] theorem State.modUp_profiles (s : State) (f : UpstreamPort → UpstreamPort) : (s.modUp f).profiles = s.profiles := by
  dsimp only [State.modUp]
@[simp] theorem State.modUp_streams (s : State) (f : UpstreamPort → UpstreamPort) : (s.modUp f).streams = s.streams := by
  dsimp only [State.modUp]
@[simp] theorem State.modUp_rings (s : State) (f : UpstreamPort → UpstreamPort) : (s.modUp f).rings = s.rings := by
  dsimp only [State.modUp]
@[simp] theorem State.modUp_zones (s : State) (f : UpstreamPort → UpstreamPort) : (s.modUp f).zones = s.zones := by
  dsimp only [State.modUp]
@[simp] theorem State.modUp_classes (s : State) (f : UpstreamPort → UpstreamPort) : (s.modUp f).classes = s.classes := by
  dsimp only [State.modUp]
@[simp] theorem State.modUp_channels (s : State) (f : UpstreamPort → UpstreamPort) : (s.modUp f).channels = s.channels := by
  dsimp only [State.modUp]
@[simp] theorem State.modUp_store (s : State) (f : UpstreamPort → UpstreamPort) : (s.modUp f).store = s.store := by
  dsimp only [State.modUp]
@[simp] theorem State.modUp_chains (s : State) (f : UpstreamPort → UpstreamPort) : (s.modUp f).chains = s.chains := by
  dsimp only [State.modUp]
@[simp] theorem State.modUp_node (s : State) (f : UpstreamPort → UpstreamPort) : (s.modUp f).node = s.node := by
  dsimp only [State.modUp]
@[simp] theorem State.modUp_up (s : State) (f : UpstreamPort → UpstreamPort) : (s.modUp f).up = f s.up := by
  dsimp only [State.modUp]
@[simp] theorem State.modUp_thru (s : State) (f : UpstreamPort → UpstreamPort) : (s.modUp f).thru = s.thru := by
  dsimp only [State.modUp]
@[simp] theorem State.modUp_draws (s : State) (f : UpstreamPort → UpstreamPort) : (s.modUp f).draws = s.draws := by
  dsimp only [State.modUp]
@[simp] theorem State.modUp_pending (s : State) (f : UpstreamPort → UpstreamPort) : (s.modUp f).pending = s.pending := by
  dsimp only [State.modUp]

/-! ### modThru -/

@[simp] theorem State.modThru_pins (s : State) (f : ThroughPort → ThroughPort) : (s.modThru f).pins = s.pins := by
  dsimp only [State.modThru]
@[simp] theorem State.modThru_held (s : State) (f : ThroughPort → ThroughPort) : (s.modThru f).held = s.held := by
  dsimp only [State.modThru]
@[simp] theorem State.modThru_timer (s : State) (f : ThroughPort → ThroughPort) : (s.modThru f).timer = s.timer := by
  dsimp only [State.modThru]
@[simp] theorem State.modThru_faults (s : State) (f : ThroughPort → ThroughPort) : (s.modThru f).faults = s.faults := by
  dsimp only [State.modThru]
@[simp] theorem State.modThru_mgmt (s : State) (f : ThroughPort → ThroughPort) : (s.modThru f).mgmt = s.mgmt := by
  dsimp only [State.modThru]
@[simp] theorem State.modThru_counts (s : State) (f : ThroughPort → ThroughPort) : (s.modThru f).counts = s.counts := by
  dsimp only [State.modThru]
@[simp] theorem State.modThru_berths (s : State) (f : ThroughPort → ThroughPort) : (s.modThru f).berths = s.berths := by
  dsimp only [State.modThru]
@[simp] theorem State.modThru_calls (s : State) (f : ThroughPort → ThroughPort) : (s.modThru f).calls = s.calls := by
  dsimp only [State.modThru]
@[simp] theorem State.modThru_slots (s : State) (f : ThroughPort → ThroughPort) : (s.modThru f).slots = s.slots := by
  dsimp only [State.modThru]
@[simp] theorem State.modThru_profiles (s : State) (f : ThroughPort → ThroughPort) : (s.modThru f).profiles = s.profiles := by
  dsimp only [State.modThru]
@[simp] theorem State.modThru_streams (s : State) (f : ThroughPort → ThroughPort) : (s.modThru f).streams = s.streams := by
  dsimp only [State.modThru]
@[simp] theorem State.modThru_rings (s : State) (f : ThroughPort → ThroughPort) : (s.modThru f).rings = s.rings := by
  dsimp only [State.modThru]
@[simp] theorem State.modThru_zones (s : State) (f : ThroughPort → ThroughPort) : (s.modThru f).zones = s.zones := by
  dsimp only [State.modThru]
@[simp] theorem State.modThru_classes (s : State) (f : ThroughPort → ThroughPort) : (s.modThru f).classes = s.classes := by
  dsimp only [State.modThru]
@[simp] theorem State.modThru_channels (s : State) (f : ThroughPort → ThroughPort) : (s.modThru f).channels = s.channels := by
  dsimp only [State.modThru]
@[simp] theorem State.modThru_store (s : State) (f : ThroughPort → ThroughPort) : (s.modThru f).store = s.store := by
  dsimp only [State.modThru]
@[simp] theorem State.modThru_chains (s : State) (f : ThroughPort → ThroughPort) : (s.modThru f).chains = s.chains := by
  dsimp only [State.modThru]
@[simp] theorem State.modThru_node (s : State) (f : ThroughPort → ThroughPort) : (s.modThru f).node = s.node := by
  dsimp only [State.modThru]
@[simp] theorem State.modThru_up (s : State) (f : ThroughPort → ThroughPort) : (s.modThru f).up = s.up := by
  dsimp only [State.modThru]
@[simp] theorem State.modThru_thru (s : State) (f : ThroughPort → ThroughPort) : (s.modThru f).thru = f s.thru := by
  dsimp only [State.modThru]
@[simp] theorem State.modThru_draws (s : State) (f : ThroughPort → ThroughPort) : (s.modThru f).draws = s.draws := by
  dsimp only [State.modThru]
@[simp] theorem State.modThru_pending (s : State) (f : ThroughPort → ThroughPort) : (s.modThru f).pending = s.pending := by
  dsimp only [State.modThru]

/-! ### countU -/

@[simp] theorem State.countU_pins (s : State) (f : UpstreamCounts → UpstreamCounts) : (s.countU f).pins = s.pins := by
  dsimp only [State.countU, State.modUp]
@[simp] theorem State.countU_held (s : State) (f : UpstreamCounts → UpstreamCounts) : (s.countU f).held = s.held := by
  dsimp only [State.countU, State.modUp]
@[simp] theorem State.countU_timer (s : State) (f : UpstreamCounts → UpstreamCounts) : (s.countU f).timer = s.timer := by
  dsimp only [State.countU, State.modUp]
@[simp] theorem State.countU_faults (s : State) (f : UpstreamCounts → UpstreamCounts) : (s.countU f).faults = s.faults := by
  dsimp only [State.countU, State.modUp]
@[simp] theorem State.countU_mgmt (s : State) (f : UpstreamCounts → UpstreamCounts) : (s.countU f).mgmt = s.mgmt := by
  dsimp only [State.countU, State.modUp]
@[simp] theorem State.countU_counts (s : State) (f : UpstreamCounts → UpstreamCounts) : (s.countU f).counts = s.counts := by
  dsimp only [State.countU, State.modUp]
@[simp] theorem State.countU_berths (s : State) (f : UpstreamCounts → UpstreamCounts) : (s.countU f).berths = s.berths := by
  dsimp only [State.countU, State.modUp]
@[simp] theorem State.countU_calls (s : State) (f : UpstreamCounts → UpstreamCounts) : (s.countU f).calls = s.calls := by
  dsimp only [State.countU, State.modUp]
@[simp] theorem State.countU_slots (s : State) (f : UpstreamCounts → UpstreamCounts) : (s.countU f).slots = s.slots := by
  dsimp only [State.countU, State.modUp]
@[simp] theorem State.countU_profiles (s : State) (f : UpstreamCounts → UpstreamCounts) : (s.countU f).profiles = s.profiles := by
  dsimp only [State.countU, State.modUp]
@[simp] theorem State.countU_streams (s : State) (f : UpstreamCounts → UpstreamCounts) : (s.countU f).streams = s.streams := by
  dsimp only [State.countU, State.modUp]
@[simp] theorem State.countU_rings (s : State) (f : UpstreamCounts → UpstreamCounts) : (s.countU f).rings = s.rings := by
  dsimp only [State.countU, State.modUp]
@[simp] theorem State.countU_zones (s : State) (f : UpstreamCounts → UpstreamCounts) : (s.countU f).zones = s.zones := by
  dsimp only [State.countU, State.modUp]
@[simp] theorem State.countU_classes (s : State) (f : UpstreamCounts → UpstreamCounts) : (s.countU f).classes = s.classes := by
  dsimp only [State.countU, State.modUp]
@[simp] theorem State.countU_channels (s : State) (f : UpstreamCounts → UpstreamCounts) : (s.countU f).channels = s.channels := by
  dsimp only [State.countU, State.modUp]
@[simp] theorem State.countU_store (s : State) (f : UpstreamCounts → UpstreamCounts) : (s.countU f).store = s.store := by
  dsimp only [State.countU, State.modUp]
@[simp] theorem State.countU_chains (s : State) (f : UpstreamCounts → UpstreamCounts) : (s.countU f).chains = s.chains := by
  dsimp only [State.countU, State.modUp]
@[simp] theorem State.countU_node (s : State) (f : UpstreamCounts → UpstreamCounts) : (s.countU f).node = s.node := by
  dsimp only [State.countU, State.modUp]
@[simp] theorem State.countU_up (s : State) (f : UpstreamCounts → UpstreamCounts) : (s.countU f).up = { s.up with counts := f s.up.counts } := by
  dsimp only [State.countU, State.modUp]
@[simp] theorem State.countU_thru (s : State) (f : UpstreamCounts → UpstreamCounts) : (s.countU f).thru = s.thru := by
  dsimp only [State.countU, State.modUp]
@[simp] theorem State.countU_draws (s : State) (f : UpstreamCounts → UpstreamCounts) : (s.countU f).draws = s.draws := by
  dsimp only [State.countU, State.modUp]
@[simp] theorem State.countU_pending (s : State) (f : UpstreamCounts → UpstreamCounts) : (s.countU f).pending = s.pending := by
  dsimp only [State.countU, State.modUp]

/-! ### countT -/

@[simp] theorem State.countT_pins (s : State) (f : ThroughCounts → ThroughCounts) : (s.countT f).pins = s.pins := by
  dsimp only [State.countT, State.modThru]
@[simp] theorem State.countT_held (s : State) (f : ThroughCounts → ThroughCounts) : (s.countT f).held = s.held := by
  dsimp only [State.countT, State.modThru]
@[simp] theorem State.countT_timer (s : State) (f : ThroughCounts → ThroughCounts) : (s.countT f).timer = s.timer := by
  dsimp only [State.countT, State.modThru]
@[simp] theorem State.countT_faults (s : State) (f : ThroughCounts → ThroughCounts) : (s.countT f).faults = s.faults := by
  dsimp only [State.countT, State.modThru]
@[simp] theorem State.countT_mgmt (s : State) (f : ThroughCounts → ThroughCounts) : (s.countT f).mgmt = s.mgmt := by
  dsimp only [State.countT, State.modThru]
@[simp] theorem State.countT_counts (s : State) (f : ThroughCounts → ThroughCounts) : (s.countT f).counts = s.counts := by
  dsimp only [State.countT, State.modThru]
@[simp] theorem State.countT_berths (s : State) (f : ThroughCounts → ThroughCounts) : (s.countT f).berths = s.berths := by
  dsimp only [State.countT, State.modThru]
@[simp] theorem State.countT_calls (s : State) (f : ThroughCounts → ThroughCounts) : (s.countT f).calls = s.calls := by
  dsimp only [State.countT, State.modThru]
@[simp] theorem State.countT_slots (s : State) (f : ThroughCounts → ThroughCounts) : (s.countT f).slots = s.slots := by
  dsimp only [State.countT, State.modThru]
@[simp] theorem State.countT_profiles (s : State) (f : ThroughCounts → ThroughCounts) : (s.countT f).profiles = s.profiles := by
  dsimp only [State.countT, State.modThru]
@[simp] theorem State.countT_streams (s : State) (f : ThroughCounts → ThroughCounts) : (s.countT f).streams = s.streams := by
  dsimp only [State.countT, State.modThru]
@[simp] theorem State.countT_rings (s : State) (f : ThroughCounts → ThroughCounts) : (s.countT f).rings = s.rings := by
  dsimp only [State.countT, State.modThru]
@[simp] theorem State.countT_zones (s : State) (f : ThroughCounts → ThroughCounts) : (s.countT f).zones = s.zones := by
  dsimp only [State.countT, State.modThru]
@[simp] theorem State.countT_classes (s : State) (f : ThroughCounts → ThroughCounts) : (s.countT f).classes = s.classes := by
  dsimp only [State.countT, State.modThru]
@[simp] theorem State.countT_channels (s : State) (f : ThroughCounts → ThroughCounts) : (s.countT f).channels = s.channels := by
  dsimp only [State.countT, State.modThru]
@[simp] theorem State.countT_store (s : State) (f : ThroughCounts → ThroughCounts) : (s.countT f).store = s.store := by
  dsimp only [State.countT, State.modThru]
@[simp] theorem State.countT_chains (s : State) (f : ThroughCounts → ThroughCounts) : (s.countT f).chains = s.chains := by
  dsimp only [State.countT, State.modThru]
@[simp] theorem State.countT_node (s : State) (f : ThroughCounts → ThroughCounts) : (s.countT f).node = s.node := by
  dsimp only [State.countT, State.modThru]
@[simp] theorem State.countT_up (s : State) (f : ThroughCounts → ThroughCounts) : (s.countT f).up = s.up := by
  dsimp only [State.countT, State.modThru]
@[simp] theorem State.countT_thru (s : State) (f : ThroughCounts → ThroughCounts) : (s.countT f).thru = { s.thru with counts := f s.thru.counts } := by
  dsimp only [State.countT, State.modThru]
@[simp] theorem State.countT_draws (s : State) (f : ThroughCounts → ThroughCounts) : (s.countT f).draws = s.draws := by
  dsimp only [State.countT, State.modThru]
@[simp] theorem State.countT_pending (s : State) (f : ThroughCounts → ThroughCounts) : (s.countT f).pending = s.pending := by
  dsimp only [State.countT, State.modThru]

/-! ### latchPresence -/

@[simp] theorem State.latchPresence_pins (s : State) (c : ChainIx) : (s.latchPresence c).pins = s.pins := by
  dsimp only [State.latchPresence, State.modMgmt]
@[simp] theorem State.latchPresence_held (s : State) (c : ChainIx) : (s.latchPresence c).held = s.held := by
  dsimp only [State.latchPresence, State.modMgmt]
@[simp] theorem State.latchPresence_timer (s : State) (c : ChainIx) : (s.latchPresence c).timer = s.timer := by
  dsimp only [State.latchPresence, State.modMgmt]
@[simp] theorem State.latchPresence_faults (s : State) (c : ChainIx) : (s.latchPresence c).faults = s.faults := by
  dsimp only [State.latchPresence, State.modMgmt]
@[simp] theorem State.latchPresence_mgmt (s : State) (c : ChainIx) : (s.latchPresence c).mgmt = { s.mgmt with presence := s.mgmt.presence.set c true } := by
  dsimp only [State.latchPresence, State.modMgmt]
@[simp] theorem State.latchPresence_counts (s : State) (c : ChainIx) : (s.latchPresence c).counts = s.counts := by
  dsimp only [State.latchPresence, State.modMgmt]
@[simp] theorem State.latchPresence_berths (s : State) (c : ChainIx) : (s.latchPresence c).berths = s.berths := by
  dsimp only [State.latchPresence, State.modMgmt]
@[simp] theorem State.latchPresence_calls (s : State) (c : ChainIx) : (s.latchPresence c).calls = s.calls := by
  dsimp only [State.latchPresence, State.modMgmt]
@[simp] theorem State.latchPresence_slots (s : State) (c : ChainIx) : (s.latchPresence c).slots = s.slots := by
  dsimp only [State.latchPresence, State.modMgmt]
@[simp] theorem State.latchPresence_profiles (s : State) (c : ChainIx) : (s.latchPresence c).profiles = s.profiles := by
  dsimp only [State.latchPresence, State.modMgmt]
@[simp] theorem State.latchPresence_streams (s : State) (c : ChainIx) : (s.latchPresence c).streams = s.streams := by
  dsimp only [State.latchPresence, State.modMgmt]
@[simp] theorem State.latchPresence_rings (s : State) (c : ChainIx) : (s.latchPresence c).rings = s.rings := by
  dsimp only [State.latchPresence, State.modMgmt]
@[simp] theorem State.latchPresence_zones (s : State) (c : ChainIx) : (s.latchPresence c).zones = s.zones := by
  dsimp only [State.latchPresence, State.modMgmt]
@[simp] theorem State.latchPresence_classes (s : State) (c : ChainIx) : (s.latchPresence c).classes = s.classes := by
  dsimp only [State.latchPresence, State.modMgmt]
@[simp] theorem State.latchPresence_channels (s : State) (c : ChainIx) : (s.latchPresence c).channels = s.channels := by
  dsimp only [State.latchPresence, State.modMgmt]
@[simp] theorem State.latchPresence_store (s : State) (c : ChainIx) : (s.latchPresence c).store = s.store := by
  dsimp only [State.latchPresence, State.modMgmt]
@[simp] theorem State.latchPresence_chains (s : State) (c : ChainIx) : (s.latchPresence c).chains = s.chains := by
  dsimp only [State.latchPresence, State.modMgmt]
@[simp] theorem State.latchPresence_node (s : State) (c : ChainIx) : (s.latchPresence c).node = s.node := by
  dsimp only [State.latchPresence, State.modMgmt]
@[simp] theorem State.latchPresence_up (s : State) (c : ChainIx) : (s.latchPresence c).up = s.up := by
  dsimp only [State.latchPresence, State.modMgmt]
@[simp] theorem State.latchPresence_thru (s : State) (c : ChainIx) : (s.latchPresence c).thru = s.thru := by
  dsimp only [State.latchPresence, State.modMgmt]
@[simp] theorem State.latchPresence_draws (s : State) (c : ChainIx) : (s.latchPresence c).draws = s.draws := by
  dsimp only [State.latchPresence, State.modMgmt]
@[simp] theorem State.latchPresence_pending (s : State) (c : ChainIx) : (s.latchPresence c).pending = s.pending := by
  dsimp only [State.latchPresence, State.modMgmt]

/-! ### latchStall -/

@[simp] theorem State.latchStall_pins (s : State) (a : ChannelIx) : (s.latchStall a).pins = s.pins := by
  dsimp only [State.latchStall, State.modMgmt]
@[simp] theorem State.latchStall_held (s : State) (a : ChannelIx) : (s.latchStall a).held = s.held := by
  dsimp only [State.latchStall, State.modMgmt]
@[simp] theorem State.latchStall_timer (s : State) (a : ChannelIx) : (s.latchStall a).timer = s.timer := by
  dsimp only [State.latchStall, State.modMgmt]
@[simp] theorem State.latchStall_faults (s : State) (a : ChannelIx) : (s.latchStall a).faults = s.faults := by
  dsimp only [State.latchStall, State.modMgmt]
@[simp] theorem State.latchStall_mgmt (s : State) (a : ChannelIx) : (s.latchStall a).mgmt = { s.mgmt with stall := s.mgmt.stall.set a true } := by
  dsimp only [State.latchStall, State.modMgmt]
@[simp] theorem State.latchStall_counts (s : State) (a : ChannelIx) : (s.latchStall a).counts = s.counts := by
  dsimp only [State.latchStall, State.modMgmt]
@[simp] theorem State.latchStall_berths (s : State) (a : ChannelIx) : (s.latchStall a).berths = s.berths := by
  dsimp only [State.latchStall, State.modMgmt]
@[simp] theorem State.latchStall_calls (s : State) (a : ChannelIx) : (s.latchStall a).calls = s.calls := by
  dsimp only [State.latchStall, State.modMgmt]
@[simp] theorem State.latchStall_slots (s : State) (a : ChannelIx) : (s.latchStall a).slots = s.slots := by
  dsimp only [State.latchStall, State.modMgmt]
@[simp] theorem State.latchStall_profiles (s : State) (a : ChannelIx) : (s.latchStall a).profiles = s.profiles := by
  dsimp only [State.latchStall, State.modMgmt]
@[simp] theorem State.latchStall_streams (s : State) (a : ChannelIx) : (s.latchStall a).streams = s.streams := by
  dsimp only [State.latchStall, State.modMgmt]
@[simp] theorem State.latchStall_rings (s : State) (a : ChannelIx) : (s.latchStall a).rings = s.rings := by
  dsimp only [State.latchStall, State.modMgmt]
@[simp] theorem State.latchStall_zones (s : State) (a : ChannelIx) : (s.latchStall a).zones = s.zones := by
  dsimp only [State.latchStall, State.modMgmt]
@[simp] theorem State.latchStall_classes (s : State) (a : ChannelIx) : (s.latchStall a).classes = s.classes := by
  dsimp only [State.latchStall, State.modMgmt]
@[simp] theorem State.latchStall_channels (s : State) (a : ChannelIx) : (s.latchStall a).channels = s.channels := by
  dsimp only [State.latchStall, State.modMgmt]
@[simp] theorem State.latchStall_store (s : State) (a : ChannelIx) : (s.latchStall a).store = s.store := by
  dsimp only [State.latchStall, State.modMgmt]
@[simp] theorem State.latchStall_chains (s : State) (a : ChannelIx) : (s.latchStall a).chains = s.chains := by
  dsimp only [State.latchStall, State.modMgmt]
@[simp] theorem State.latchStall_node (s : State) (a : ChannelIx) : (s.latchStall a).node = s.node := by
  dsimp only [State.latchStall, State.modMgmt]
@[simp] theorem State.latchStall_up (s : State) (a : ChannelIx) : (s.latchStall a).up = s.up := by
  dsimp only [State.latchStall, State.modMgmt]
@[simp] theorem State.latchStall_thru (s : State) (a : ChannelIx) : (s.latchStall a).thru = s.thru := by
  dsimp only [State.latchStall, State.modMgmt]
@[simp] theorem State.latchStall_draws (s : State) (a : ChannelIx) : (s.latchStall a).draws = s.draws := by
  dsimp only [State.latchStall, State.modMgmt]
@[simp] theorem State.latchStall_pending (s : State) (a : ChannelIx) : (s.latchStall a).pending = s.pending := by
  dsimp only [State.latchStall, State.modMgmt]

end Sys2Proof.Machine
end

