-- ==== Sys2Proof/Laws/Frames.lean ====
section
/-! SUPPORT. Frames of the shared operations: `Same fs s t` says that `t` differs from `s` at most in the fields `fs`, and
one lemma per operation names the fields it can change. A proof cites these and never unfolds an operation for its
frame. -/

namespace Sys2Proof.Machine

/-- The fields of State. -/
inductive StateField where
  | pins | held | timer | faults | mgmt | counts | berths | calls | slots | profiles | streams | rings | zones | classes | channels | store | chains | node | up | thru | draws | pending
deriving DecidableEq, Repr

/-- `t` differs from `s` at most in the fields `fs`. -/
def Same (fs : List StateField) (s t : State) : Prop :=
  (StateField.pins ∉ fs → t.pins = s.pins) ∧
  (StateField.held ∉ fs → t.held = s.held) ∧
  (StateField.timer ∉ fs → t.timer = s.timer) ∧
  (StateField.faults ∉ fs → t.faults = s.faults) ∧
  (StateField.mgmt ∉ fs → t.mgmt = s.mgmt) ∧
  (StateField.counts ∉ fs → t.counts = s.counts) ∧
  (StateField.berths ∉ fs → t.berths = s.berths) ∧
  (StateField.calls ∉ fs → t.calls = s.calls) ∧
  (StateField.slots ∉ fs → t.slots = s.slots) ∧
  (StateField.profiles ∉ fs → t.profiles = s.profiles) ∧
  (StateField.streams ∉ fs → t.streams = s.streams) ∧
  (StateField.rings ∉ fs → t.rings = s.rings) ∧
  (StateField.zones ∉ fs → t.zones = s.zones) ∧
  (StateField.classes ∉ fs → t.classes = s.classes) ∧
  (StateField.channels ∉ fs → t.channels = s.channels) ∧
  (StateField.store ∉ fs → t.store = s.store) ∧
  (StateField.chains ∉ fs → t.chains = s.chains) ∧
  (StateField.node ∉ fs → t.node = s.node) ∧
  (StateField.up ∉ fs → t.up = s.up) ∧
  (StateField.thru ∉ fs → t.thru = s.thru) ∧
  (StateField.draws ∉ fs → t.draws = s.draws) ∧
  (StateField.pending ∉ fs → t.pending = s.pending)

theorem Same.pins {fs : List StateField} {s t : State} (h : Same fs s t) (hf : StateField.pins ∉ fs) : t.pins = s.pins :=
  h.1 hf
theorem Same.held {fs : List StateField} {s t : State} (h : Same fs s t) (hf : StateField.held ∉ fs) : t.held = s.held :=
  h.2.1 hf
theorem Same.timer {fs : List StateField} {s t : State} (h : Same fs s t) (hf : StateField.timer ∉ fs) : t.timer = s.timer :=
  h.2.2.1 hf
theorem Same.faults {fs : List StateField} {s t : State} (h : Same fs s t) (hf : StateField.faults ∉ fs) : t.faults = s.faults :=
  h.2.2.2.1 hf
theorem Same.mgmt {fs : List StateField} {s t : State} (h : Same fs s t) (hf : StateField.mgmt ∉ fs) : t.mgmt = s.mgmt :=
  h.2.2.2.2.1 hf
theorem Same.counts {fs : List StateField} {s t : State} (h : Same fs s t) (hf : StateField.counts ∉ fs) : t.counts = s.counts :=
  h.2.2.2.2.2.1 hf
theorem Same.berths {fs : List StateField} {s t : State} (h : Same fs s t) (hf : StateField.berths ∉ fs) : t.berths = s.berths :=
  h.2.2.2.2.2.2.1 hf
theorem Same.calls {fs : List StateField} {s t : State} (h : Same fs s t) (hf : StateField.calls ∉ fs) : t.calls = s.calls :=
  h.2.2.2.2.2.2.2.1 hf
theorem Same.slots {fs : List StateField} {s t : State} (h : Same fs s t) (hf : StateField.slots ∉ fs) : t.slots = s.slots :=
  h.2.2.2.2.2.2.2.2.1 hf
theorem Same.profiles {fs : List StateField} {s t : State} (h : Same fs s t) (hf : StateField.profiles ∉ fs) : t.profiles = s.profiles :=
  h.2.2.2.2.2.2.2.2.2.1 hf
theorem Same.streams {fs : List StateField} {s t : State} (h : Same fs s t) (hf : StateField.streams ∉ fs) : t.streams = s.streams :=
  h.2.2.2.2.2.2.2.2.2.2.1 hf
theorem Same.rings {fs : List StateField} {s t : State} (h : Same fs s t) (hf : StateField.rings ∉ fs) : t.rings = s.rings :=
  h.2.2.2.2.2.2.2.2.2.2.2.1 hf
theorem Same.zones {fs : List StateField} {s t : State} (h : Same fs s t) (hf : StateField.zones ∉ fs) : t.zones = s.zones :=
  h.2.2.2.2.2.2.2.2.2.2.2.2.1 hf
theorem Same.classes {fs : List StateField} {s t : State} (h : Same fs s t) (hf : StateField.classes ∉ fs) : t.classes = s.classes :=
  h.2.2.2.2.2.2.2.2.2.2.2.2.2.1 hf
theorem Same.channels {fs : List StateField} {s t : State} (h : Same fs s t) (hf : StateField.channels ∉ fs) : t.channels = s.channels :=
  h.2.2.2.2.2.2.2.2.2.2.2.2.2.2.1 hf
theorem Same.store {fs : List StateField} {s t : State} (h : Same fs s t) (hf : StateField.store ∉ fs) : t.store = s.store :=
  h.2.2.2.2.2.2.2.2.2.2.2.2.2.2.2.1 hf
theorem Same.chains {fs : List StateField} {s t : State} (h : Same fs s t) (hf : StateField.chains ∉ fs) : t.chains = s.chains :=
  h.2.2.2.2.2.2.2.2.2.2.2.2.2.2.2.2.1 hf
theorem Same.node {fs : List StateField} {s t : State} (h : Same fs s t) (hf : StateField.node ∉ fs) : t.node = s.node :=
  h.2.2.2.2.2.2.2.2.2.2.2.2.2.2.2.2.2.1 hf
theorem Same.up {fs : List StateField} {s t : State} (h : Same fs s t) (hf : StateField.up ∉ fs) : t.up = s.up :=
  h.2.2.2.2.2.2.2.2.2.2.2.2.2.2.2.2.2.2.1 hf
theorem Same.thru {fs : List StateField} {s t : State} (h : Same fs s t) (hf : StateField.thru ∉ fs) : t.thru = s.thru :=
  h.2.2.2.2.2.2.2.2.2.2.2.2.2.2.2.2.2.2.2.1 hf
theorem Same.draws {fs : List StateField} {s t : State} (h : Same fs s t) (hf : StateField.draws ∉ fs) : t.draws = s.draws :=
  h.2.2.2.2.2.2.2.2.2.2.2.2.2.2.2.2.2.2.2.2.1 hf
theorem Same.pending {fs : List StateField} {s t : State} (h : Same fs s t) (hf : StateField.pending ∉ fs) : t.pending = s.pending :=
  h.2.2.2.2.2.2.2.2.2.2.2.2.2.2.2.2.2.2.2.2.2 hf

/-- A state is the same as itself. -/
theorem Same.refl (fs : List StateField) (s : State) : Same fs s s := by
  simp only [Same, implies_true, and_self]

/-- Two changes within the same fields are one. -/
theorem Same.trans {fs : List StateField} {s t u : State} (h : Same fs s t) (k : Same fs t u) : Same fs s u :=
  ⟨fun n => (k.pins n).trans (h.pins n),
    fun n => (k.held n).trans (h.held n),
    fun n => (k.timer n).trans (h.timer n),
    fun n => (k.faults n).trans (h.faults n),
    fun n => (k.mgmt n).trans (h.mgmt n),
    fun n => (k.counts n).trans (h.counts n),
    fun n => (k.berths n).trans (h.berths n),
    fun n => (k.calls n).trans (h.calls n),
    fun n => (k.slots n).trans (h.slots n),
    fun n => (k.profiles n).trans (h.profiles n),
    fun n => (k.streams n).trans (h.streams n),
    fun n => (k.rings n).trans (h.rings n),
    fun n => (k.zones n).trans (h.zones n),
    fun n => (k.classes n).trans (h.classes n),
    fun n => (k.channels n).trans (h.channels n),
    fun n => (k.store n).trans (h.store n),
    fun n => (k.chains n).trans (h.chains n),
    fun n => (k.node n).trans (h.node n),
    fun n => (k.up n).trans (h.up n),
    fun n => (k.thru n).trans (h.thru n),
    fun n => (k.draws n).trans (h.draws n),
    fun n => (k.pending n).trans (h.pending n)⟩

/-- A change within some fields is a change within more. -/
theorem Same.widen {fs gs : List StateField} {s t : State} (h : Same fs s t) (hfg : ∀ f ∈ fs, f ∈ gs) :
    Same gs s t :=
  ⟨fun n => h.pins fun m => n (hfg _ m),
    fun n => h.held fun m => n (hfg _ m),
    fun n => h.timer fun m => n (hfg _ m),
    fun n => h.faults fun m => n (hfg _ m),
    fun n => h.mgmt fun m => n (hfg _ m),
    fun n => h.counts fun m => n (hfg _ m),
    fun n => h.berths fun m => n (hfg _ m),
    fun n => h.calls fun m => n (hfg _ m),
    fun n => h.slots fun m => n (hfg _ m),
    fun n => h.profiles fun m => n (hfg _ m),
    fun n => h.streams fun m => n (hfg _ m),
    fun n => h.rings fun m => n (hfg _ m),
    fun n => h.zones fun m => n (hfg _ m),
    fun n => h.classes fun m => n (hfg _ m),
    fun n => h.channels fun m => n (hfg _ m),
    fun n => h.store fun m => n (hfg _ m),
    fun n => h.chains fun m => n (hfg _ m),
    fun n => h.node fun m => n (hfg _ m),
    fun n => h.up fun m => n (hfg _ m),
    fun n => h.thru fun m => n (hfg _ m),
    fun n => h.draws fun m => n (hfg _ m),
    fun n => h.pending fun m => n (hfg _ m)⟩

/-- The two branches of a conditional. -/
theorem Same.ite {fs : List StateField} {s t u : State} {c : Prop} [Decidable c] (h : Same fs s t) (k : Same fs s u) :
    Same fs s (if c then t else u) := by
  split
  · exact h
  · exact k

/-- A fold of steps that each change some fields changes no others. -/
theorem Same.foldl {fs : List StateField} {ι : Type} {f : State → ι → State} (h : ∀ s i, Same fs s (f s i))
    (l : List ι) (s : State) : Same fs s (l.foldl f s) := by
  induction l generalizing s with
  | nil => exact Same.refl fs s
  | cons i is ih => exact (h s i).trans (ih (f s i))

/-! ### The named updates -/

theorem State.modBerth_same (s : State) (b : BerthIx) (f : Berth → Berth) : Same [.berths] s (s.modBerth b f) := by
  simp [Same]

theorem State.mapBerths_same (s : State) (f : BerthIx → Berth → Berth) : Same [.berths] s (s.mapBerths f) := by
  simp [Same]

theorem State.modChain_same (s : State) (c : ChainIx) (f : Chain → Chain) : Same [.chains] s (s.modChain c f) := by
  simp [Same]

theorem State.mapChains_same (s : State) (f : ChainIx → Chain → Chain) : Same [.chains] s (s.mapChains f) := by
  simp [Same]

theorem State.countChain_same (s : State) (c : ChainIx) (f : ChainCounts → ChainCounts) : Same [.chains] s (s.countChain c f) := by
  simp [Same]

theorem State.modStream_same (s : State) (v : StreamIx) (f : StreamEntry → StreamEntry) : Same [.streams] s (s.modStream v f) := by
  simp [Same]

theorem State.countStream_same (s : State) (v : StreamIx) (f : StreamCounts → StreamCounts) : Same [.streams] s (s.countStream v f) := by
  simp [Same]

theorem State.modChannel_same (s : State) (a : ChannelIx) (f : Channel → Channel) : Same [.channels] s (s.modChannel a f) := by
  simp [Same]

theorem State.countChannel_same (s : State) (a : ChannelIx) (f : ChannelCounts → ChannelCounts) : Same [.channels] s (s.countChannel a f) := by
  simp [Same]

theorem State.countPart_same (s : State) (f : PartCounts → PartCounts) : Same [.counts] s (s.countPart f) := by
  simp [Same]

theorem State.modTimer_same (s : State) (f : Timer → Timer) : Same [.timer] s (s.modTimer f) := by
  simp [Same]

theorem State.modFaults_same (s : State) (f : FaultMonitor → FaultMonitor) : Same [.faults] s (s.modFaults f) := by
  simp [Same]

theorem State.modMgmt_same (s : State) (f : Management → Management) : Same [.mgmt] s (s.modMgmt f) := by
  simp [Same]

theorem State.modUp_same (s : State) (f : UpstreamPort → UpstreamPort) : Same [.up] s (s.modUp f) := by
  simp [Same]

theorem State.modThru_same (s : State) (f : ThroughPort → ThroughPort) : Same [.thru] s (s.modThru f) := by
  simp [Same]

theorem State.countU_same (s : State) (f : UpstreamCounts → UpstreamCounts) : Same [.up] s (s.countU f) := by
  simp [Same]

theorem State.countT_same (s : State) (f : ThroughCounts → ThroughCounts) : Same [.thru] s (s.countT f) := by
  simp [Same]

theorem State.latchPresence_same (s : State) (c : ChainIx) : Same [.mgmt] s (s.latchPresence c) := by
  simp [Same]

theorem State.latchStall_same (s : State) (a : ChannelIx) : Same [.mgmt] s (s.latchStall a) := by
  simp [Same]

/-! ### Direct updates -/

theorem same_set_calls (s : State) (x : List BerthIx) : Same [.calls] s { s with calls := x } := by
  simp [Same]

theorem same_set_store (s : State) (x : Vector (Option Segment) 256) : Same [.store] s { s with store := x } := by
  simp [Same]

theorem same_set_rings (s : State) (x : Vector Ring 16) : Same [.rings] s { s with rings := x } := by
  simp [Same]

theorem same_set_berths (s : State) (x : Vector Berth 48) : Same [.berths] s { s with berths := x } := by
  simp [Same]

theorem same_set_chains (s : State) (x : Vector Chain 6) : Same [.chains] s { s with chains := x } := by
  simp [Same]

theorem same_set_slots (s : State) (x : Vector ProgramBlock 48) : Same [.slots] s { s with slots := x } := by
  simp [Same]

theorem same_set_streams (s : State) (x : Vector StreamEntry 32) : Same [.streams] s { s with streams := x } := by
  simp [Same]

theorem same_set_classes (s : State) (x : Vector ClassEntry 4) : Same [.classes] s { s with classes := x } := by
  simp [Same]

theorem same_set_zones (s : State) (x : Vector (BitVec 48) 16) : Same [.zones] s { s with zones := x } := by
  simp [Same]

theorem same_set_profiles (s : State) (x : Vector Profile 4) : Same [.profiles] s { s with profiles := x } := by
  simp [Same]

theorem same_set_pins (s : State) (x : Pins) : Same [.pins] s { s with pins := x } := by
  simp [Same]

theorem same_set_timer (s : State) (x : Timer) : Same [.timer] s { s with timer := x } := by
  simp [Same]

theorem same_set_draws (s : State) (x : Nat) : Same [.draws] s { s with draws := x } := by
  simp [Same]

/-! ### Flags and quiet regime (ch. 1, 3) -/

theorem State.raiseMarkLoss_same (s : State) :
    Same [.faults, .counts] s (s.raiseMarkLoss) := by
  unfold State.raiseMarkLoss
  split
  · exact Same.refl _ _
  · exact (((State.modFaults_same _ _).widen (by decide)).trans ((State.countPart_same _ _).widen (by decide)))

theorem State.raiseOverheat_same (s : State) :
    Same [.faults, .counts] s (s.raiseOverheat) := by
  unfold State.raiseOverheat
  split
  · exact Same.refl _ _
  · exact (((State.modFaults_same _ _).widen (by decide)).trans ((State.countPart_same _ _).widen (by decide)))

theorem State.raiseBackboneDown_same (s : State) :
    Same [.faults, .counts] s (s.raiseBackboneDown) := by
  unfold State.raiseBackboneDown
  split
  · exact Same.refl _ _
  · exact (((State.modFaults_same _ _).widen (by decide)).trans ((State.countPart_same _ _).widen (by decide)))

theorem State.judgeOverheat_same (s : State) :
    Same [.faults, .counts] s (s.judgeOverheat) := by
  unfold State.judgeOverheat
  dsimp only
  split
  · exact (((State.modFaults_same _ _).widen (by decide)).trans ((State.raiseOverheat_same _).widen (by decide)))
  · exact ((State.modFaults_same _ _).widen (by decide))

theorem State.readTemperature_same (s : State) (v : Int) :
    Same [.faults, .counts] s (s.readTemperature v) := by
  unfold State.readTemperature
  exact (((State.modFaults_same _ _).widen (by decide)).trans ((State.judgeOverheat_same _).widen (by decide)))

theorem State.backboneFails_same (s : State) :
    Same [.faults, .counts] s (s.backboneFails) := by
  unfold State.backboneFails
  exact (((State.modFaults_same _ _).widen (by decide)).trans ((State.raiseBackboneDown_same _).widen (by decide)))

theorem State.clearFaults_same (s : State) :
    Same [.faults] s (s.clearFaults) := by
  unfold State.clearFaults
  exact ((State.modFaults_same _ _).widen (by decide))

theorem State.clearAttention_same (s : State) (x : BitVec 16) :
    Same [.mgmt] s (s.clearAttention x) := by
  unfold State.clearAttention
  exact ((State.modMgmt_same _ _).widen (by decide))

theorem State.evaluateBerth_same (s : State) (b : BerthIx) :
    Same [.berths, .counts] s (s.evaluateBerth b) := by
  unfold State.evaluateBerth
  exact (((State.modBerth_same _ _ _).widen (by decide)).trans ((State.countPart_same _ _).widen (by decide)))

theorem State.evaluateAll_same (s : State) :
    Same [.berths, .counts] s (s.evaluateAll) := by
  unfold State.evaluateAll
  exact (((State.mapBerths_same _ _).widen (by decide)).trans ((State.countPart_same _ _).widen (by decide)))

theorem State.quietHandOver_same (s : State) (qa qb : Bool) :
    Same [.berths, .counts] s (s.quietHandOver qa qb) := by
  unfold State.quietHandOver
  split
  · exact Same.refl _ _
  · exact (((State.countPart_same _ _).widen (by decide)).trans ((State.evaluateAll_same _).widen (by decide)))

theorem State.copyProfile_same (s : State) (p : Fin 4) :
    Same [.berths] s (s.copyProfile p) := by
  unfold State.copyProfile
  exact ((State.mapBerths_same _ _).widen (by decide))

theorem State.enterServiceSettings_same (s : State) :
    Same [.berths, .counts] s (s.enterServiceSettings) := by
  unfold State.enterServiceSettings
  dsimp only
  exact (((State.evaluateAll_same _).widen (by decide)).trans ((State.mapBerths_same _ _).widen (by decide)))

/-! ### Announcement channels (ch. 5) -/

theorem State.recomputeGoverning_same (s : State) :
    Same [.berths] s (s.recomputeGoverning) := by
  unfold State.recomputeGoverning
  exact ((State.mapBerths_same _ _).widen (by decide))

theorem State.enterPlaying_same (s : State) (a : ChannelIx) :
    Same [.berths, .channels] s (s.enterPlaying a) := by
  unfold State.enterPlaying
  exact (((State.modChannel_same _ _ _).widen (by decide)).trans ((State.recomputeGoverning_same _).widen (by decide)))

theorem State.enterLead_same (s : State) (a : ChannelIx) :
    Same [.berths, .channels] s (s.enterLead a) := by
  unfold State.enterLead
  split
  · exact State.enterPlaying_same _ _
  · exact (((State.modChannel_same _ _ _).widen (by decide)).trans ((State.recomputeGoverning_same _).widen (by decide)))

theorem State.evaluateRelease_same (s : State) (a : ChannelIx) :
    Same [.berths, .channels] s (s.evaluateRelease a) := by
  unfold State.evaluateRelease
  exact Same.ite (State.enterLead_same _ _) (Same.refl _ _)

theorem State.evaluateReleases_same (s : State) :
    Same [.berths, .channels] s (s.evaluateReleases) := by
  unfold State.evaluateReleases
  exact (((State.evaluateRelease_same _ _).widen (by decide)).trans ((State.evaluateRelease_same _ _).widen (by decide)))

theorem State.settleGoverning_same (s : State) :
    Same [.berths, .channels] s (s.settleGoverning) := by
  unfold State.settleGoverning
  exact (((State.recomputeGoverning_same _).widen (by decide)).trans ((State.evaluateReleases_same _).widen (by decide)))

theorem State.enterIdle_same (s : State) (a : ChannelIx) :
    Same [.berths, .channels] s (s.enterIdle a) := by
  unfold State.enterIdle
  exact ((((State.modChannel_same _ _ _).widen (by decide)).trans ((State.recomputeGoverning_same _).widen (by decide))).trans ((State.evaluateRelease_same _ _).widen (by decide)))

theorem State.beginAnnouncement_same (s : State) (a : ChannelIx) (c : Class) (q : CueBody) :
    Same [.berths, .channels] s (s.beginAnnouncement a c q) := by
  unfold State.beginAnnouncement
  dsimp only
  exact ((((State.mapBerths_same _ _).widen (by decide)).trans ((State.modChannel_same _ _ _).widen (by decide))).trans ((State.settleGoverning_same _).widen (by decide)))

theorem State.cancelForPreemption_same (s : State) (a : ChannelIx) :
    Same [.berths, .channels] s (s.cancelForPreemption a) := by
  unfold State.cancelForPreemption
  exact (((State.modChannel_same _ _ _).widen (by decide)).trans ((State.mapBerths_same _ _).widen (by decide)))

theorem State.refuseCue_same (s : State) (a : ChannelIx) :
    Same [.channels] s (s.refuseCue a) := by
  unfold State.refuseCue
  exact ((State.countChannel_same _ _ _).widen (by decide))

theorem State.takeStart_same (s : State) (a : ChannelIx) (c : Class) (q : CueBody) :
    Same [.berths, .channels] s (s.takeStart a c q) := by
  unfold State.takeStart
  split
  · exact State.beginAnnouncement_same _ _ _ _
  · exact (State.refuseCue_same _ _).widen (by decide)
  · split
    · exact (State.cancelForPreemption_same _ _).trans (State.beginAnnouncement_same _ _ _ _)
    · exact (State.refuseCue_same _ _).widen (by decide)

theorem State.takeEnd_same (s : State) (a : ChannelIx) (l : Word16) :
    Same [.berths, .channels] s (s.takeEnd a l) := by
  unfold State.takeEnd
  dsimp only
  split
  · split
    · exact State.enterIdle_same _ _
    · exact (State.modChannel_same _ _ _).widen (by decide)
  · exact (State.refuseCue_same _ _).widen (by decide)

theorem State.takeCancel_same (s : State) (a : ChannelIx) :
    Same [.berths, .channels] s (s.takeCancel a) := by
  unfold State.takeCancel
  exact Same.ite (State.enterIdle_same _ _) ((State.refuseCue_same _ _).widen (by decide))

theorem State.stallOut_same (s : State) (a : ChannelIx) :
    Same [.berths, .channels, .mgmt] s (s.stallOut a) := by
  unfold State.stallOut
  exact (((State.latchStall_same _ _).widen (by decide)).trans ((State.enterIdle_same _ _).widen (by decide)))

theorem State.presentGap_same (s : State) (a : ChannelIx) :
    Same [.berths, .channels, .mgmt] s (s.presentGap a) := by
  unfold State.presentGap
  dsimp only
  split
  · exact (((State.modChannel_same _ _ _).widen (by decide)).trans ((State.stallOut_same _ _).widen (by decide)))
  · exact ((State.modChannel_same _ _ _).widen (by decide))

theorem State.presentSpeech_same (s : State) (a : ChannelIx) :
    Same [.berths, .channels, .mgmt] s (s.presentSpeech a) := by
  unfold State.presentSpeech
  dsimp only
  split
  · exact (State.enterIdle_same _ _).widen (by decide)
  · split
    · exact (State.modChannel_same _ _ _).widen (by decide)
    · exact State.presentGap_same _ _

theorem State.countLead_same (s : State) (a : ChannelIx) :
    Same [.berths, .channels] s (s.countLead a) := by
  unfold State.countLead
  exact Same.ite (State.enterPlaying_same _ _) ((State.modChannel_same _ _ _).widen (by decide))

theorem State.channelCycle_same (s : State) (a : ChannelIx) (st : ChannelState) :
    Same [.berths, .channels, .mgmt] s (s.channelCycle a st) := by
  unfold State.channelCycle
  split
  · exact (State.countLead_same _ _).widen (by decide)
  · exact State.presentSpeech_same _ _
  · exact Same.refl _ _
  · exact Same.refl _ _

theorem State.channelsCycle_same (s : State) :
    Same [.berths, .channels, .mgmt] s (s.channelsCycle) := by
  unfold State.channelsCycle
  exact Same.ite ((State.channelCycle_same _ _ _).trans (State.channelCycle_same _ _ _)) (Same.refl _ _)

/-! ### Queries (ch. 8) -/

theorem State.startQueries_same (s : State) (c : ChainIx) :
    Same [.chains] s (s.startQueries c) := by
  unfold State.startQueries
  exact ((State.modChain_same _ _ _).widen (by decide))

theorem State.endQuery_same (s : State) (c : ChainIx) (o : QueryOutcome) (x : Option AnswerBytes) (f : ChainCounts → ChainCounts) :
    Same [.chains] s (s.endQuery c o x f) := by
  unfold State.endQuery
  split
  · exact Same.refl _ _
  · exact (State.modChain_same _ _ _).trans (State.startQueries_same _ _)

theorem State.queryUnanswered_same (s : State) (c : ChainIx) :
    Same [.chains] s (s.queryUnanswered c) := by
  unfold State.queryUnanswered
  exact ((State.endQuery_same _ _ _ _ _).widen (by decide))

theorem State.queryTargetAbsent_same (s : State) (c : ChainIx) (p : PosIx) :
    Same [.chains] s (s.queryTargetAbsent c p) := by
  unfold State.queryTargetAbsent
  split
  · exact Same.refl _ _
  · exact Same.ite (State.endQuery_same _ _ _ _ _) (Same.refl _ _)

theorem State.takeToken_same (s : State) (c : ChainIx) (p : PosIx) (j : Bool) (k : Byte) (x : AnswerBytes) :
    Same [.chains] s (s.takeToken c p j k x) := by
  unfold State.takeToken
  split
  · exact Same.refl _ _
  · split
    · exact Same.ite (State.endQuery_same _ _ _ _ _) (State.countChain_same _ _ _)
    · exact State.countChain_same _ _ _

theorem State.countWindow_same (s : State) (c : ChainIx) (j : Bool) :
    Same [.chains] s (s.countWindow c j) := by
  unfold State.countWindow
  split
  · exact Same.refl _ _
  · split
    · dsimp only
      split
      · exact (State.modChain_same _ _ _).trans (State.queryUnanswered_same _ _)
      · exact State.modChain_same _ _ _
    · exact Same.refl _ _

theorem State.discardQueries_same (s : State) (c : ChainIx) :
    Same [.chains] s (s.discardQueries c) := by
  unfold State.discardQueries
  exact ((State.modChain_same _ _ _).widen (by decide))

/-! ### Berths (ch. 2) -/

theorem State.placeCall_same (s : State) (b : BerthIx) :
    Same [.calls, .chains] s (s.placeCall b) := by
  unfold State.placeCall
  split
  · exact Same.refl _ _
  · exact (((same_set_calls s _).widen (by decide)).trans ((State.countChain_same _ _ _).widen (by decide)))

theorem State.applyKey_same (s : State) (b : BerthIx) (k : Key) :
    Same [.berths, .calls, .chains] s (s.applyKey b k) := by
  unfold State.applyKey
  dsimp only
  split
  · exact ((((State.modBerth_same _ _ _).widen (by decide)).trans ((State.countChain_same _ _ _).widen (by decide))).trans ((State.placeCall_same _ _).widen (by decide)))
  · exact (((State.modBerth_same _ _ _).widen (by decide)).trans ((State.countChain_same _ _ _).widen (by decide)))

theorem State.takeKey_same (s : State) (b : BerthIx) (w : Bool) (k : Byte) :
    Same [.berths, .calls, .chains] s (s.takeKey b w k) := by
  unfold State.takeKey
  split
  · exact Same.refl _ _
  · split
    · exact State.applyKey_same _ _ _
    · exact (State.countChain_same _ _ _).widen (by decide)

theorem State.becomePresent_same (s : State) (b : BerthIx) :
    Same [.berths, .channels, .mgmt, .chains] s (s.becomePresent b) := by
  unfold State.becomePresent
  dsimp only
  exact (((((State.modBerth_same _ _ _).widen (by decide)).trans ((State.latchPresence_same _ _).widen (by decide))).trans ((State.settleGoverning_same _).widen (by decide))).trans ((State.countChain_same _ _ _).widen (by decide)))

theorem State.enterAbsent_same (s : State) (b : BerthIx) :
    Same [.berths, .channels, .mgmt, .chains, .calls] s (s.enterAbsent b) := by
  unfold State.enterAbsent
  split
  · exact Same.refl _ _
  · exact (State.modBerth_same _ _ _).widen (by decide)
  · dsimp only
    exact (((((((State.modBerth_same _ _ _).widen (by decide)).trans ((same_set_calls _ _).widen (by decide))).trans ((State.settleGoverning_same _).widen (by decide))).trans ((State.queryTargetAbsent_same _ _ _).widen (by decide))).trans ((State.latchPresence_same _ _).widen (by decide))).trans ((State.countChain_same _ _ _).widen (by decide)))

theorem State.chainAbsent_same (s : State) (c : ChainIx) :
    Same [.berths, .channels, .mgmt, .chains, .calls] s (s.chainAbsent c) := by
  unfold State.chainAbsent
  exact Same.foldl (fun _ _ => State.enterAbsent_same _ _) _ _

theorem State.advanceValid_same (s : State) (b : BerthIx) :
    Same [.berths, .channels, .mgmt, .chains] s (s.advanceValid b) := by
  unfold State.advanceValid
  split
  · exact (State.modBerth_same _ _ _).widen (by decide)
  · exact Same.ite ((State.modBerth_same _ _ _).widen (by decide)) (State.becomePresent_same _ _)
  · exact (State.modBerth_same _ _ _).widen (by decide)

theorem State.advanceMissing_same (s : State) (b : BerthIx) :
    Same [.berths, .channels, .mgmt, .chains, .calls] s (s.advanceMissing b) := by
  unfold State.advanceMissing
  split
  · exact Same.refl _ _
  · exact State.enterAbsent_same _ _
  · exact Same.ite ((State.modBerth_same _ _ _).widen (by decide)) (State.enterAbsent_same _ _)

theorem State.recordStatus_same (s : State) (b : BerthIx) (x y : Bool) :
    Same [.berths, .chains] s (s.recordStatus b x y) := by
  unfold State.recordStatus
  dsimp only
  exact (((State.modBerth_same _ _ _).widen (by decide)).trans ((State.countChain_same _ _ _).widen (by decide)))

theorem State.takeReturn_same (s : State) (b : BerthIx) (j : Bool) (r : ReturnData) :
    Same [.berths, .channels, .mgmt, .chains, .calls] s (s.takeReturn b j r) := by
  have h1 : Same [.berths, .channels, .mgmt, .chains, .calls] s (s.advanceValid b) :=
    (State.advanceValid_same s b).widen (by decide)
  have h2 : Same [.berths, .channels, .mgmt, .chains, .calls] (s.advanceValid b)
      (if (s.advanceValid b).berths[b].presence = .absent then s.advanceValid b
        else (s.advanceValid b).recordStatus b r.headphone r.unitFault) :=
    Same.ite (Same.refl _ _) ((State.recordStatus_same _ _ _ _).widen (by decide))
  unfold State.takeReturn
  exact (((h1.trans h2).trans ((State.takeKey_same _ _ _ _).widen (by decide))).trans
    ((State.takeKey_same _ _ _ _).widen (by decide))).trans ((State.takeToken_same _ _ _ _ _ _).widen (by decide))

theorem State.idleTick_same (s : State) :
    Same [.berths] s (s.idleTick) := by
  unfold State.idleTick
  exact Same.ite (State.mapBerths_same _ _) (Same.refl _ _)

theorem State.joinAll_same (s : State) :
    Same [.berths] s (s.joinAll) := by
  unfold State.joinAll
  exact ((State.mapBerths_same _ _).widen (by decide))

theorem State.acknowledge_same (s : State) (x : BitVec 48) :
    Same [.calls] s (s.acknowledge x) := by
  unfold State.acknowledge
  exact ((same_set_calls _ _).widen (by decide))

theorem State.deselect_same (s : State) (v : StreamIx) :
    Same [.berths] s (s.deselect v) := by
  unfold State.deselect
  exact ((State.mapBerths_same _ _).widen (by decide))

theorem State.loadBerth_same (s : State) (b : BerthIx) (x : BerthConfig) :
    Same [.berths, .counts] s (s.loadBerth b x) := by
  unfold State.loadBerth
  dsimp only
  split
  · split
    · exact (State.modBerth_same _ _ _).widen (by decide)
    · exact ((State.modBerth_same _ _ _).trans (State.modBerth_same _ _ _)).widen (by decide)
  · split
    · exact ((State.modBerth_same _ _ _).widen (by decide)).trans (State.evaluateBerth_same _ _)
    · exact (((State.modBerth_same _ _ _).trans (State.modBerth_same _ _ _)).widen (by decide)).trans
        (State.evaluateBerth_same _ _)

/-! ### Streams, rings and video (ch. 4, 7) -/

theorem State.openVideo_same (s : State) (v : StreamIx) (k : StreamKind) :
    Same [.streams] s (s.openVideo v k) := by
  unfold State.openVideo
  exact ((State.modStream_same _ _ _).widen (by decide))

theorem State.openAudio_same (s : State) (v : StreamIx) (r : RingIx) :
    Same [.streams] s (s.openAudio v r) := by
  unfold State.openAudio
  exact ((State.modStream_same _ _ _).widen (by decide))

theorem State.closeStream_same (s : State) (v : StreamIx) :
    Same [.streams, .rings, .berths] s (s.closeStream v) := by
  unfold State.closeStream
  dsimp only
  split
  · exact ((((same_set_rings _ _).widen (by decide)).trans ((State.modStream_same _ _ _).widen (by decide))).trans ((State.deselect_same _ _).widen (by decide)))
  · exact (((State.modStream_same _ _ _).widen (by decide)).trans ((State.deselect_same _ _).widen (by decide)))

theorem State.emptyRings_same (s : State) :
    Same [.rings] s (s.emptyRings) := by
  unfold State.emptyRings
  exact ((same_set_rings _ _).widen (by decide))

theorem State.presentRings_same (s : State) (n : Word16) :
    Same [.streams, .rings] s (s.presentRings n) := by
  simp [Same, State.presentRings]

theorem State.takeProgramBlock_same (s : State) (v : StreamIx) (r : RingIx) (d : Word16) (x : ProgramBlock) :
    Same [.streams, .rings] s (s.takeProgramBlock v r d x) := by
  unfold State.takeProgramBlock
  dsimp only
  split
  · exact (State.countStream_same _ _ _).widen (by decide)
  · split
    · exact (State.countStream_same _ _ _).widen (by decide)
    · split
      · exact (State.countStream_same _ _ _).widen (by decide)
      · exact (((same_set_rings _ _).widen (by decide)).trans ((State.countStream_same _ _ _).widen (by decide)))

theorem State.takeProgramBlocks_same (s : State) (v : StreamIx) (r : RingIx) (p : List Byte) (d : Word16) (k : Nat) :
    Same [.streams, .rings] s (s.takeProgramBlocks v r p d k) := by
  unfold State.takeProgramBlocks
  exact Same.foldl (fun _ _ => State.takeProgramBlock_same _ _ _ _ _) _ _

theorem State.takeProgramAudio_same (s : State) (p : List Byte) :
    Same [.streams, .rings, .up] s (s.takeProgramAudio p) := by
  unfold State.takeProgramAudio
  split
  · exact (State.countU_same _ _).widen (by decide)
  · dsimp only
    exact Same.ite ((State.takeProgramBlocks_same _ _ _ _ _ _).widen (by decide)) ((State.countU_same _ _).widen (by decide))

theorem State.replicate_same (s : State) (k : Bool) (v : StreamIx) (d : Word16) (x : List Byte) :
    Same [.store, .chains, .streams, .counts] s (s.replicate k v d x) := by
  unfold State.replicate
  dsimp only
  split
  · exact (State.countPart_same _ _).widen (by decide)
  · split
    · exact (((State.mapChains_same _ _).widen (by decide)).trans ((State.countPart_same _ _).widen (by decide)))
    · split
      · exact (((State.mapChains_same _ _).widen (by decide)).trans ((State.countPart_same _ _).widen (by decide)))
      · exact ((((State.mapChains_same _ _).widen (by decide)).trans ((same_set_store _ _).widen (by decide))).trans ((State.countStream_same _ _ _).widen (by decide)))

theorem State.takeVideoSegment_same (s : State) (p : List Byte) :
    Same [.store, .chains, .streams, .counts, .up] s (s.takeVideoSegment p) := by
  unfold State.takeVideoSegment
  split
  · exact (State.countU_same _ _).widen (by decide)
  · split
    · exact (State.countU_same _ _).widen (by decide)
    · dsimp only
      split
      · exact (State.countStream_same _ _ _).widen (by decide)
      · split
        · exact (State.countStream_same _ _ _).widen (by decide)
        · exact (State.replicate_same _ _ _ _ _).widen (by decide)

theorem State.flush_same (s : State) (c : ChainIx) :
    Same [.store, .chains] s (s.flush c) := by
  unfold State.flush
  dsimp only
  exact (((same_set_store _ _).widen (by decide)).trans ((State.modChain_same _ _ _).widen (by decide)))

theorem State.flushAll_same (s : State) :
    Same [.store, .chains] s (s.flushAll) := by
  unfold State.flushAll
  exact Same.foldl (fun _ _ => State.flush_same _ _) _ _

theorem State.assembleVideo_same (s : State) (c : ChainIx) (n : Word16) :
    Same [.store, .chains] s (s.assembleVideo c n) := by
  unfold State.assembleVideo
  dsimp only
  exact (((same_set_store _ _).widen (by decide)).trans ((State.modChain_same _ _ _).widen (by decide)))

/-! ### Mix and chain ports (ch. 6, 8) -/

theorem State.mix_same (s : State) :
    Same [.berths, .slots, .chains] s (s.mix) := by
  unfold State.mix
  split
  · simp [Same]
  · simp [Same]

theorem State.chainCycle_same (s : State) (n : Word16) (c : ChainIx) :
    Same [.store, .chains] s (s.chainCycle n c) := by
  unfold State.chainCycle
  dsimp only
  split
  · exact Same.refl _ _
  · split
    · exact (State.countChain_same _ _ _).widen (by decide)
    · exact (State.assembleVideo_same _ _ _).trans ((State.modChain_same _ _ _).widen (by decide))

theorem State.chainsCycle_same (s : State) (n : Word16) :
    Same [.store, .chains] s (s.chainsCycle n) := by
  unfold State.chainsCycle
  exact Same.foldl (fun _ _ => State.chainCycle_same _ _ _) _ _

theorem State.takeSlot_same (s : State) (c : ChainIx) (j : Bool) (p : PosIx) (x : Option SlotBytes) :
    Same [.berths, .channels, .mgmt, .chains, .calls] s (s.takeSlot c j p x) := by
  unfold State.takeSlot
  split
  · exact (((State.countChain_same _ _ _).widen (by decide)).trans ((State.advanceMissing_same _ _).widen (by decide)))
  · exact (((State.countChain_same _ _ _).widen (by decide)).trans ((State.advanceMissing_same _ _).widen (by decide)))
  · exact (((State.countChain_same _ _ _).widen (by decide)).trans ((State.takeReturn_same _ _ _ _).widen (by decide)))

theorem State.closeWindow_same (s : State) (c : ChainIx) (j : Bool) (x : Vector (Option SlotBytes) 8) :
    Same [.berths, .channels, .mgmt, .chains, .calls] s (s.closeWindow c j x) := by
  unfold State.closeWindow
  exact (Same.foldl (fun _ _ => State.takeSlot_same _ _ _ _ _) _ _).trans ((State.countWindow_same _ _ _).widen (by decide))

theorem State.returnWindow_same (s : State) (c : ChainIx) (x : ReturnSlots) :
    Same [.berths, .channels, .mgmt, .chains, .calls] s (s.returnWindow c x) := by
  unfold State.returnWindow
  split
  · exact Same.refl _ _
  · exact ((State.modChain_same _ _ _).widen (by decide)).trans (State.closeWindow_same _ _ _ _)

theorem State.closeSuperseded_same (s : State) (c : ChainIx) :
    Same [.berths, .channels, .mgmt, .chains, .calls] s (s.closeSuperseded c) := by
  unfold State.closeSuperseded
  exact Same.foldl (fun _ _ => State.returnWindow_same _ _ _) _ _

theorem State.closeWith_same (s : State) (r : WindowReturn) :
    Same [.berths, .channels, .mgmt, .chains, .calls] s (s.closeWith r) :=
  Same.ite (State.returnWindow_same _ _ _) (Same.refl _ _)

theorem State.closeAllSuperseded_same (s : State) (rs : List WindowReturn) :
    Same [.berths, .channels, .mgmt, .chains, .calls] s (s.closeAllSuperseded rs) := by
  unfold State.closeAllSuperseded
  exact (Same.foldl State.closeWith_same _ _).trans (Same.foldl State.closeSuperseded_same _ _)

theorem State.frameDone_same (s : State) (r : WindowReturn) :
    Same [.berths, .channels, .mgmt, .chains, .calls] s (s.frameDone r) := by
  unfold State.frameDone
  split
  · exact Same.refl _ _
  · exact (State.modChain_same _ _ _).widen (by decide)
  · exact (((State.modChain_same _ _ _).widen (by decide)).trans (State.closeWith_same _ _)).trans
      (State.closeSuperseded_same _ _)

theorem State.chainStops_same (s : State) (c : ChainIx) :
    Same [.berths, .channels, .mgmt, .chains, .calls, .store] s (s.chainStops c) := by
  unfold State.chainStops
  exact (((((State.modChain_same _ _ _).widen (by decide)).trans ((State.discardQueries_same _ _).widen (by decide))).trans ((State.chainAbsent_same _ _).widen (by decide))).trans ((State.flush_same _ _).widen (by decide)))

theorem State.linkDown_same (s : State) (c : ChainIx) :
    Same [.berths, .channels, .mgmt, .chains, .calls, .store] s (s.linkDown c) := by
  unfold State.linkDown
  exact ((((State.modChain_same _ _ _).widen (by decide)).trans ((State.chainStops_same _ _).widen (by decide))).trans ((State.countChain_same _ _ _).widen (by decide)))

/-! ### Cycle starts (ch. 1) -/

theorem State.openCycle_same (s : State) (n : Word16) (l : LineSample) :
    Same [.timer, .pins] s (s.openCycle n l) := by
  simp [Same, State.openCycle]

theorem State.tickAndChannels_same (s : State) (t f : Bool) :
    Same [.berths, .channels, .mgmt] s (s.tickAndChannels t f) := by
  unfold State.tickAndChannels
  split
  · split
    · exact ((State.idleTick_same _).widen (by decide)).trans (State.channelsCycle_same _)
    · exact (State.channelsCycle_same _).trans ((State.idleTick_same _).widen (by decide))
  · exact State.channelsCycle_same _

theorem State.mixAndRelease_same (s : State) :
    Same [.berths, .channels, .slots, .chains] s s.mixAndRelease := by
  unfold State.mixAndRelease
  dsimp only
  exact ((State.mix_same s).widen (by decide)).trans
    (Same.ite ((State.evaluateReleases_same _).widen (by decide)) (Same.refl _ _))

/-- The fields that the work of a cycle start can change after the timer and the fault monitor. -/
def workFields : List StateField := [.berths, .channels, .mgmt, .slots, .chains, .store, .streams, .rings, .counts]

theorem State.cycleWork_same (s : State) (n : Word16) (t qa qb : Bool) (p : Fin 5) (f : Bool) :
    Same workFields s (s.cycleWork n t qa qb p f) := by
  have quiet : ∀ (c : Prop) [Decidable c] (x : State), Same workFields x (if c then x.quietHandOver qa qb else x) :=
    fun c _ x => Same.ite ((State.quietHandOver_same x qa qb).widen (by decide)) (Same.refl _ _)
  have idle : ∀ (c : Prop) [Decidable c] (x : State), Same workFields x (if c then x.idleTick else x) :=
    fun c _ x => Same.ite ((State.idleTick_same x).widen (by decide)) (Same.refl _ _)
  unfold State.cycleWork
  exact (((((((quiet _ _).trans ((State.presentRings_same _ _).widen (by decide))).trans
    ((State.tickAndChannels_same _ _ _).widen (by decide))).trans (quiet _ _)).trans
    ((State.mixAndRelease_same _).widen (by decide))).trans (quiet _ _)).trans (idle _ _)).trans
    (((State.chainsCycle_same _ _).widen (by decide)).trans (quiet _ _))

/-- The fields that a cycle start can change before its windows close. -/
def runFields : List StateField :=
  [.berths, .channels, .mgmt, .slots, .chains, .store, .streams, .rings, .counts, .timer, .pins, .faults, .draws]

/-- The fields that a cycle start can change. -/
def cycleFields : List StateField := runFields ++ [.calls]

theorem State.runCycle_same (s : State) (n : Word16) (k : Bool) (l : LineSample) :
    Same runFields s (s.runCycle n k l) := by
  have cond : ∀ (c : Prop) [Decidable c] (x y : State), Same runFields x y → Same runFields x (if c then y else x) :=
    fun c _ x y h => Same.ite h (Same.refl _ _)
  unfold State.runCycle
  exact (((((State.openCycle_same _ _ _).widen (by decide)).trans
    (cond _ _ _ ((same_set_draws _ _).widen (by decide)))).trans
    (cond _ _ _ ((State.readTemperature_same _ _).widen (by decide)))).trans
    (cond _ _ _ ((State.emptyRings_same _).widen (by decide)))).trans
    ((State.cycleWork_same _ _ _ _ _ _ _).widen (by decide))

theorem State.startCycle_same (s : State) (n : Word16) (k : Bool) (l : LineSample) :
    Same cycleFields s (s.startCycle n k l) :=
  ((State.runCycle_same _ _ _ _).widen (by decide)).trans ((State.closeAllSuperseded_same _ _).widen (by decide))

theorem State.missMark_same (s : State) : Same [.timer, .faults, .counts] s s.missMark := by
  unfold State.missMark
  dsimp only
  exact Same.ite (((State.modTimer_same _ _).widen (by decide)).trans ((State.raiseMarkLoss_same _).widen (by decide)))
    ((State.modTimer_same _ _).widen (by decide))

theorem State.selfStart_same (s : State) (l : LineSample) : Same cycleFields s (s.selfStart l) := by
  unfold State.selfStart
  exact (((State.missMark_same _).widen (by decide)).trans ((State.countPart_same _ _).widen (by decide))).trans
    (State.startCycle_same _ _ _ _)

/-! ### Time (ch. 1) -/

theorem State.advanceTime_same (s : State) (d : Nat) : Same [.timer, .faults] s (s.advanceTime d) := by
  unfold State.advanceTime
  exact ((State.modTimer_same _ _).widen (by decide)).trans ((State.modFaults_same _ _).widen (by decide))

theorem State.takeDue_same (s : State) : Same cycleFields s s.takeDue := by
  have down : ∀ x : State, Same cycleFields x x.backboneFails := fun x => (State.backboneFails_same x).widen (by decide)
  have draw : Same cycleFields s { s with draws := s.draws + 1 } := (same_set_draws _ _).widen (by decide)
  unfold State.takeDue
  split
  · exact Same.refl _ _
  · exact down _
  · exact State.selfStart_same _ _
  · exact Same.ite ((draw.trans (down _)).trans (State.selfStart_same _ _))
      ((draw.trans (State.selfStart_same _ _)).trans (down _))

theorem State.passFuel_same (fuel d : Nat) (s : State) : Same cycleFields s (State.passFuel fuel d s) := by
  induction fuel generalizing d s with
  | zero => exact (State.advanceTime_same s d).widen (by decide)
  | succ n ih =>
    unfold State.passFuel
    exact Same.ite ((((State.advanceTime_same _ _).widen (by decide)).trans (State.takeDue_same _)).trans (ih _ _))
      ((State.advanceTime_same _ _).widen (by decide))

theorem State.passTime_same (s : State) (d : Nat) : Same cycleFields s (s.passTime d) :=
  State.passFuel_same _ _ _

theorem State.passIdle_same (s : State) : Same cycleFields s s.passIdle :=
  (State.passTime_same _ _).trans (State.takeDue_same _)

/-! ### Ports and loads (ch. 9, 10) -/

theorem State.receivedU_same (s : State) :
    Same [.up] s (s.receivedU) := by
  unfold State.receivedU
  exact ((State.countU_same _ _).widen (by decide))

theorem State.receivedT_same (s : State) :
    Same [.thru] s (s.receivedT) := by
  unfold State.receivedT
  exact ((State.countT_same _ _).widen (by decide))

theorem State.queueThrough_same (s : State) (p : Parcel) :
    Same [.thru] s (s.queueThrough p) := by
  unfold State.queueThrough
  exact ((State.modThru_same _ _).widen (by decide))

theorem State.takeThrough_same (s : State) (p : Parcel) :
    Same [.up, .thru] s (s.takeThrough p) := by
  have q : Same [.up, .thru] s s.receivedT := (State.receivedT_same s).widen (by decide)
  unfold State.takeThrough
  split
  · exact q.trans ((State.modUp_same _ _).widen (by decide))
  · exact q.trans ((State.modUp_same _ _).widen (by decide))
  · exact q.trans ((State.countT_same _ _).widen (by decide))
  · exact q.trans ((State.countT_same _ _).widen (by decide))
  · exact q.trans ((State.countT_same _ _).widen (by decide))
  · exact q.trans ((State.countT_same _ _).widen (by decide))
  · exact q.trans ((State.countT_same _ _).widen (by decide))

theorem State.takeAnnounceAudio_same (s : State) (p : List Byte) :
    Same [.channels, .up] s (State.takeAnnounceAudio p s) := by
  unfold State.takeAnnounceAudio
  dsimp only
  split
  · exact (State.countU_same _ _).widen (by decide)
  · split
    · exact Same.ite ((State.modChannel_same _ _ _).widen (by decide)) ((State.countChannel_same _ _ _).widen (by decide))
    · exact (State.countU_same _ _).widen (by decide)

theorem State.loadClass_same (s : State) (i : Fin 4) (e : ClassEntry) :
    Same [.classes, .berths, .channels] s (s.loadClass i e) := by
  unfold State.loadClass
  dsimp only
  split
  · exact (same_set_classes _ _).widen (by decide)
  · exact ((((same_set_classes _ _).widen (by decide)).trans ((State.mapBerths_same _ _).widen (by decide))).trans ((State.evaluateReleases_same _).widen (by decide)))

theorem State.loadChain_same (s : State) (c : ChainIx) (e : Bool) (x y : Nat) :
    Same [.berths, .channels, .mgmt, .chains, .calls, .store] s (s.loadChain c e x y) := by
  unfold State.loadChain
  dsimp only
  split
  · exact (((State.modChain_same _ _ _).widen (by decide)).trans ((State.chainStops_same _ _).widen (by decide)))
  · exact (State.modChain_same _ _ _).widen (by decide)

theorem State.loadSettings_same (s : State) (p : PartSettings) :
    Same [.mgmt, .berths, .counts, .faults] s (s.loadSettings p) := by
  have h1 : Same [.mgmt, .berths, .counts, .faults] s (s.modMgmt fun m => { m with settings := p }) :=
    (State.modMgmt_same _ _).widen (by decide)
  unfold State.loadSettings
  dsimp only
  split
  · exact h1.trans ((State.judgeOverheat_same _).widen (by decide))
  · exact ((h1.trans ((State.countPart_same _ _).widen (by decide))).trans
      ((State.evaluateAll_same _).widen (by decide))).trans ((State.judgeOverheat_same _).widen (by decide))

theorem State.intoService_same (s : State) :
    Same [.mgmt, .berths, .counts] s (s.intoService) := by
  unfold State.intoService
  exact ((((State.modMgmt_same _ _).widen (by decide)).trans ((State.enterServiceSettings_same _).widen (by decide))).trans ((State.joinAll_same _).widen (by decide)))

theorem State.idleChannel_same (s : State) (a : ChannelIx) :
    Same [.berths, .channels] s (s.idleChannel a) := by
  unfold State.idleChannel
  exact Same.ite (State.enterIdle_same _ _) (Same.refl _ _)

theorem State.intoConfiguration_same (s : State) :
    Same [.mgmt, .berths, .channels, .rings, .store, .chains] s (s.intoConfiguration) := by
  unfold State.intoConfiguration
  exact ((((((State.modMgmt_same _ _).widen (by decide)).trans ((State.idleChannel_same _ _).widen (by decide))).trans ((State.idleChannel_same _ _).widen (by decide))).trans ((State.emptyRings_same _).widen (by decide))).trans ((State.flushAll_same _).widen (by decide)))

end Sys2Proof.Machine
end

