-- ==== Sys2Proof/Laws/Vectors.lean ====
section
/-! SUPPORT. Reading a vector, a set of bits and a saturating count after the operations that the model builds them
with. -/

namespace Sys2Proof.Machine

/-- Reading a vector after one entry was written. -/
theorem get_set_fin {α : Type} {n : Nat} (v : Vector α n) (i j : Fin n) (x : α) :
    (v.set i x)[j] = if j = i then x else v[j] := by
  simp only [Fin.getElem_fin, Vector.getElem_set, Fin.ext_iff, eq_comm (a := j.val)]

/-- Reading a vector that a function fills. -/
@[simp] theorem get_ofFn_fin {α : Type} {n : Nat} (f : Fin n → α) (j : Fin n) : (Vector.ofFn f)[j] = f j := by
  simp

/-- Reading a vector of equal entries. -/
@[simp] theorem get_replicate_fin {α : Type} {n : Nat} (x : α) (j : Fin n) : (Vector.replicate n x)[j] = x := by
  simp

/-- A bit of the set that a fold over a list of indices makes. -/
theorem foldl_bit {w : Nat} {ι : Type} (f : ι → Bool) (g : ι → Nat) (l : List ι) (acc : BitVec w) (k : Nat)
    (hk : k < w) :
    (l.foldl (fun acc i => if f i then acc ||| (1#w <<< g i) else acc) acc).getLsbD k =
      (acc.getLsbD k || l.any fun i => f i && decide (g i = k)) := by
  induction l generalizing acc with
  | nil => simp
  | cons i is ih =>
    rw [List.foldl_cons, ih]
    by_cases h : f i = true
    · rcases Nat.lt_trichotomy (g i) k with hlt | heq | hgt
      · have hne : g i ≠ k := by omega
        have hsub : k - g i ≠ 0 := by omega
        simp [h, hk, hne, hsub]
      · subst heq
        simp [h, hk]
      · have hne : g i ≠ k := by omega
        simp [h, hk, hne, hgt]
    · simp [h]

/-- R75: a berth is in the set that `berthSet` makes exactly when the predicate holds. -/
theorem berthSet_getLsbD (f : BerthIx → Bool) (b : BerthIx) : (berthSet f).getLsbD b.val = f b := by
  rw [berthSet, foldl_bit f (fun b => b.val) _ _ _ b.isLt]
  rw [Bool.eq_iff_iff]
  simp only [BitVec.ofNat_eq_ofNat, BitVec.getLsbD_zero, Bool.false_or, List.any_eq_true, List.mem_finRange, true_and,
    Bool.and_eq_true, decide_eq_true_eq]
  constructor
  · rintro ⟨x, hx, he⟩
    exact Fin.ext he ▸ hx
  · intro h
    exact ⟨b, h, rfl⟩

/-- R163: a bit of the set that `bitSet16` makes. -/
theorem bitSet16_getLsbD (f : Fin 16 → Bool) (i : Fin 16) : (bitSet16 f).getLsbD i.val = f i := by
  rw [bitSet16, foldl_bit f (fun b => b.val) _ _ _ i.isLt]
  rw [Bool.eq_iff_iff]
  simp only [BitVec.ofNat_eq_ofNat, BitVec.getLsbD_zero, Bool.false_or, List.any_eq_true, List.mem_finRange, true_and,
    Bool.and_eq_true, decide_eq_true_eq]
  constructor
  · rintro ⟨x, hx, he⟩
    exact Fin.ext he ▸ hx
  · intro h
    exact ⟨i, h, rfl⟩

/-- A count increased by 0. -/
@[simp] theorem addCount_zero (c : Count) : addCount c 0 = c := by
  have h := c.isLt
  simp [addCount, h]

/-- A count as a number: it saturates at its largest value (R17). -/
theorem addCount_toNat (c : Count) (k : Nat) : (addCount c k).toNat = min (2 ^ 32 - 1) (c.toNat + k) := by
  unfold addCount
  split
  · rename_i h
    rw [BitVec.toNat_ofNat, Nat.mod_eq_of_lt h]
    omega
  · rw [BitVec.toNat_allOnes]
    omega

/-- Two increases of a count are one increase by their sum. -/
theorem addCount_addCount (c : Count) (j k : Nat) : addCount (addCount c j) k = addCount c (j + k) := by
  apply BitVec.eq_of_toNat_eq
  simp only [addCount_toNat]
  omega

/-- The bytes of a field are as many as its size. -/
@[simp] theorem beBytes_length (n v : Nat) : (beBytes n v).length = n := by
  induction n generalizing v with
  | zero => rfl
  | succ n ih => simp [beBytes, ih]

/-- A field read from its first byte on. -/
theorem beNat_cons (b : Byte) (bs : List Byte) : beNat (b :: bs) = b.toNat * 256 ^ bs.length + beNat bs := by
  have h : ∀ (bs : List Byte) (x : Nat),
      bs.foldl (fun acc b => acc * 256 + b.toNat) x = x * 256 ^ bs.length + beNat bs := by
    intro bs
    induction bs with
    | nil => intro x; simp [beNat]
    | cons c cs ih =>
      intro x
      have h2 : beNat (c :: cs) = c.toNat * 256 ^ cs.length + beNat cs := by
        simpa [beNat] using ih c.toNat
      rw [List.foldl_cons, ih, h2, List.length_cons, Nat.pow_succ]
      ring
  simp only [beNat, List.foldl_cons, Nat.zero_mul, Nat.zero_add]
  exact h bs b.toNat

/-- A number written into a field of `n` bytes reads back modulo the field's size. -/
theorem beNat_beBytes (n v : Nat) : beNat (beBytes n v) = v % 256 ^ n := by
  induction n generalizing v with
  | zero => simp [beBytes, beNat, Nat.mod_one]
  | succ n ih =>
    rw [beBytes, beNat_cons, ih, beBytes_length, BitVec.toNat_ofNat]
    have h := Nat.mod_mul (x := v) (a := 256 ^ n) (b := 256)
    rw [pow_succ 256 n, h]
    norm_num
    ring

end Sys2Proof.Machine
end

