-- ==== Sys2Proof/Laws/Specs.lean ====
section
/-! SUPPORT. One lemma for each shared operation that says what it does to the records it writes: reading a berth, a
chain, a stream or a channel after an update, the running of a meaning, the classification of parcels, the passing of
time, the closing of return windows, the release of references and the start of queries. -/

namespace Sys2Proof.Machine

/-! ### Reading after a named update -/

theorem State.modBerth_get (s : State) (b b' : BerthIx) (f : Berth → Berth) :
    (s.modBerth b f).berths[b'] = if b' = b then f s.berths[b] else s.berths[b'] := by
  rw [State.modBerth_berths]
  exact get_set_fin _ _ _ _

theorem State.mapBerths_get (s : State) (b : BerthIx) (f : BerthIx → Berth → Berth) :
    (s.mapBerths f).berths[b] = f b s.berths[b] := by
  rw [State.mapBerths_berths]
  exact get_ofFn_fin _ _

theorem State.modChain_get (s : State) (c c' : ChainIx) (f : Chain → Chain) :
    (s.modChain c f).chains[c'] = if c' = c then f s.chains[c] else s.chains[c'] := by
  rw [State.modChain_chains]
  exact get_set_fin _ _ _ _

theorem State.mapChains_get (s : State) (c : ChainIx) (f : ChainIx → Chain → Chain) :
    (s.mapChains f).chains[c] = f c s.chains[c] := by
  rw [State.mapChains_chains]
  exact get_ofFn_fin _ _

theorem State.countChain_get (s : State) (c c' : ChainIx) (f : ChainCounts → ChainCounts) :
    (s.countChain c f).chains[c'] =
      if c' = c then { s.chains[c] with counts := f s.chains[c].counts } else s.chains[c'] := by
  rw [State.countChain_chains]
  exact get_set_fin _ _ _ _

theorem State.modStream_get (s : State) (v w : StreamIx) (f : StreamEntry → StreamEntry) :
    (s.modStream v f).streams[w] = if w = v then f s.streams[v] else s.streams[w] := by
  rw [State.modStream_streams]
  exact get_set_fin _ _ _ _

theorem State.countStream_get (s : State) (v w : StreamIx) (f : StreamCounts → StreamCounts) :
    (s.countStream v f).streams[w] =
      if w = v then { s.streams[v] with counts := f s.streams[v].counts } else s.streams[w] := by
  rw [State.countStream_streams]
  exact get_set_fin _ _ _ _

theorem State.modChannel_get (s : State) (a a' : ChannelIx) (f : Channel → Channel) :
    (s.modChannel a f).channels[a'] = if a' = a then f s.channels[a] else s.channels[a'] := by
  rw [State.modChannel_channels]
  exact get_set_fin _ _ _ _

theorem State.countChannel_get (s : State) (a a' : ChannelIx) (f : ChannelCounts → ChannelCounts) :
    (s.countChannel a f).channels[a'] =
      if a' = a then { s.channels[a] with counts := f s.channels[a].counts } else s.channels[a'] := by
  rw [State.countChannel_channels]
  exact get_set_fin _ _ _ _

/-! ### Running a meaning -/

/-- A part that is not held in reset runs the meaning. -/
theorem running_free {s : State} (f : State → State) (h : s.held = none) : running s f = .next (f s) := by
  simp [running, h]

/-- A part held in reset keeps its state. -/
theorem running_held {s : State} (f : State → State) (h : s.held ≠ none) : running s f = .next s := by
  simp [running, h]

/-- What a meaning leaves, whether the part runs or is held. -/
theorem running_next {s t : State} {f : State → State} (h : running s f = .next t) :
    (s.held = none ∧ t = f s) ∨ (s.held ≠ none ∧ t = s) := by
  by_cases hs : s.held = none
  · rw [running_free f hs] at h
    exact .inl ⟨hs, (Host.Outcome.next.inj h).symm⟩
  · rw [running_held f hs] at h
    exact .inr ⟨hs, (Host.Outcome.next.inj h).symm⟩

/-- A media parcel in SERVICE: received, queued for the through port, and taken by its block (R146). -/
theorem takeMedia_service {s : State} (p : Parcel) (take : State → State) (h : s.mgmt.mode = .service) :
    s.takeMedia p take = take (s.receivedU.queueThrough p) := by
  have h1 : (s.receivedU.queueThrough p).mgmt = s.mgmt :=
    ((State.queueThrough_same _ p).mgmt (by decide)).trans ((State.receivedU_same s).mgmt (by decide))
  have h2 : (s.receivedU.queueThrough p).serving = true := by
    rw [State.serving, h1, h]
    rfl
  unfold State.takeMedia
  dsimp only
  rw [if_pos h2]

/-- A media parcel in CONFIGURATION: received, queued for the through port, and counted (R146). -/
theorem takeMedia_configuration {s : State} (p : Parcel) (take : State → State) (h : s.mgmt.mode = .configuration) :
    s.takeMedia p take =
      (s.receivedU.queueThrough p).countU fun k => { k with notInService := bump k.notInService } := by
  have h1 : (s.receivedU.queueThrough p).mgmt = s.mgmt :=
    ((State.queueThrough_same _ p).mgmt (by decide)).trans ((State.receivedU_same s).mgmt (by decide))
  have h2 : ¬ (s.receivedU.queueThrough p).serving = true := by
    rw [State.serving, h1, h]
    decide
  unfold State.takeMedia
  dsimp only
  rw [if_neg h2]

/-- A command to the node address is executed, and answered when a reply is wanted (R146, R149). -/
theorem takeCommand_own {s : State} (h : Header) (payload : List Byte) (manage : State → State × Answer)
    (ht : h.target = s.node.address) :
    s.takeCommand h payload manage =
      if replyWanted h then (manage s.receivedU).1.giveReply h (manage s.receivedU).2
      else (manage s.receivedU).1.withoutReply (manage s.receivedU).2 := by
  unfold State.takeCommand
  dsimp only
  rw [if_pos ht]

/-- A broadcast command is queued for the through port and executed, and never answered (R146, R149). -/
theorem takeCommand_broadcast {s : State} (h : Header) (payload : List Byte) (manage : State → State × Answer)
    (hn : h.target ≠ s.node.address) (ht : h.target = 0xFF) :
    s.takeCommand h payload manage =
      (manage (s.receivedU.queueThrough (parcelOf .command h payload))).1.withoutReply
        (manage (s.receivedU.queueThrough (parcelOf .command h payload))).2 := by
  unfold State.takeCommand
  dsimp only
  rw [if_neg hn, if_pos ht]

/-- A command to another target is queued for the through port alone (R146). -/
theorem takeCommand_other {s : State} (h : Header) (payload : List Byte) (manage : State → State × Answer)
    (hn : h.target ≠ s.node.address) (ht : h.target ≠ 0xFF) :
    s.takeCommand h payload manage = s.receivedU.queueThrough (parcelOf .command h payload) := by
  unfold State.takeCommand
  dsimp only
  rw [if_neg hn, if_neg ht]

/-! ### Timer, levels, governing -/

/-- R9: `sampled` is one step of the sampler. -/
theorem sampled_step (p : Sampler) (level : Bool) : SampleStep p level (sampled p level) := by
  refine ⟨fun h => ?_, fun h hr => ?_, fun h hr => ?_⟩
  · simp [sampled, h]
  · simp [sampled, h, hr]
  · simp [sampled, h, hr]

/-- R43: a formed regime is night exactly when the quiet source and the levels say so. -/
theorem formRegime_night (source : QuietSource) (qa qb : Bool) :
    formRegime source qa qb = .night ↔ NightUnder source qa qb := by
  cases source <;> cases qa <;> cases qb <;> simp [formRegime, NightUnder]

/-- The record of a berth after governing was recomputed: only the governing channel and the ducked mark change, and
those of a PRESENT berth alone (R79). -/
theorem recomputeGoverning_get (s : State) (b : BerthIx) :
    s.recomputeGoverning.berths[b] = s.regoverned b s.berths[b] := by
  unfold State.recomputeGoverning
  exact State.mapBerths_get s b s.regoverned

/-- R79: the channel that `chooseGoverning` names governs the berth. -/
theorem chooseGoverning_governs (s : State) (b : BerthIx) : Governs s b (s.chooseGoverning b) := by
  have claim_iff : ∀ (a : ChannelIx) (c : Class), Claims s a b c ↔ s.channels[a].claim b = some c := by
    intro a c
    unfold Claims Channel.claim Channel.busy
    simp [and_assoc]
  have h0 : s.channels[(0 : ChannelIx)].claim b = s.channels[0].claim b := rfl
  have h1 : s.channels[(1 : ChannelIx)].claim b = s.channels[1].claim b := rfl
  unfold State.chooseGoverning
  rcases e0 : s.channels[0].claim b with _ | x <;> rcases e1 : s.channels[1].claim b with _ | y <;> dsimp only
  · intro a c hcl
    rw [claim_iff] at hcl
    match a with
    | 0 => rw [h0, e0] at hcl; cases hcl
    | 1 => rw [h1, e1] at hcl; cases hcl
  · refine ⟨y, (claim_iff 1 y).2 (by rw [h1, e1]), fun a c hcl => ?_⟩
    rw [claim_iff] at hcl
    match a with
    | 0 => rw [h0, e0] at hcl; cases hcl
    | 1 => rw [h1, e1] at hcl; cases hcl; exact .inr ⟨rfl, le_refl _⟩
  · refine ⟨x, (claim_iff 0 x).2 (by rw [h0, e0]), fun a c hcl => ?_⟩
    rw [claim_iff] at hcl
    match a with
    | 0 => rw [h0, e0] at hcl; cases hcl; exact .inr ⟨rfl, le_refl _⟩
    | 1 => rw [h1, e1] at hcl; cases hcl
  · by_cases hy : y.higher x = true
    · rw [if_pos hy]
      refine ⟨y, (claim_iff 1 y).2 (by rw [h1, e1]), fun a c hcl => ?_⟩
      rw [claim_iff] at hcl
      match a with
      | 0 => rw [h0, e0] at hcl; cases hcl; exact .inl (of_decide_eq_true hy)
      | 1 => rw [h1, e1] at hcl; cases hcl; exact .inr ⟨rfl, le_refl _⟩
    · rw [if_neg hy]
      refine ⟨x, (claim_iff 0 x).2 (by rw [h0, e0]), fun a c hcl => ?_⟩
      rw [claim_iff] at hcl
      match a with
      | 0 => rw [h0, e0] at hcl; cases hcl; exact .inr ⟨rfl, le_refl _⟩
      | 1 =>
        rw [h1, e1] at hcl
        cases hcl
        have hle : x.index ≤ y.index := by
          unfold Class.higher at hy
          simpa using hy
        rcases lt_or_eq_of_le hle with hlt | heq
        · exact .inl hlt
        · exact .inr ⟨heq, by decide⟩

/-- A recomputation leaves everything of a berth but its governing channel and its ducked mark (R79). -/
theorem regoverned_only (s : State) (b : BerthIx) (r : Berth) :
    s.regoverned b r = { r with governing := (s.regoverned b r).governing, ducked := (s.regoverned b r).ducked } := by
  unfold State.regoverned
  split <;> rfl

/-- R83: the entry into PLAYING changes of each berth at most governing and ducked mark, and no other channel. -/
theorem enterPlaying_spec (s : State) (a : ChannelIx) :
    (∀ b : BerthIx, (s.enterPlaying a).berths[b] = { s.berths[b] with
      governing := (s.enterPlaying a).berths[b].governing, ducked := (s.enterPlaying a).berths[b].ducked }) ∧
    (∀ a' : ChannelIx, a' ≠ a → (s.enterPlaying a).channels[a'] = s.channels[a']) ∧
    (s.enterPlaying a).channels[a] =
      { s.channels[a] with state := .playing, lead := 0, stall := 0, presented := .silence } := by
  have hch : (s.enterPlaying a).channels = (s.modChannel a fun ch =>
      { ch with state := .playing, lead := 0, stall := 0, presented := .silence }).channels := by
    unfold State.enterPlaying
    exact (State.recomputeGoverning_same _).channels (by decide)
  refine ⟨fun b => ?_, fun a' ha => ?_, ?_⟩
  · unfold State.enterPlaying
    rw [recomputeGoverning_get]
    exact regoverned_only _ _ _
  · rw [hch, State.modChannel_get, if_neg ha]
  · rw [hch, State.modChannel_get, if_pos rfl]

/-- R82: the entry into LEAD changes of each berth at most governing and ducked mark, and no other channel; the channel
is in LEAD with the lead it takes, or in PLAYING when that is 0. -/
theorem enterLead_spec (s : State) (a : ChannelIx) :
    (∀ b : BerthIx, (s.enterLead a).berths[b] = { s.berths[b] with
      governing := (s.enterLead a).berths[b].governing, ducked := (s.enterLead a).berths[b].ducked }) ∧
    (∀ a' : ChannelIx, a' ≠ a → (s.enterLead a).channels[a'] = s.channels[a']) ∧
    (s.enterLead a).channels[a] =
      if s.leadOf a = 0 then { s.channels[a] with state := .playing, lead := 0, stall := 0, presented := .silence }
      else { s.channels[a] with state := .lead, lead := s.leadOf a } := by
  by_cases h : s.leadOf a = 0
  · have e : s.enterLead a = s.enterPlaying a := by
      unfold State.enterLead
      exact if_pos h
    rw [e, if_pos h]
    exact enterPlaying_spec s a
  · have e : s.enterLead a =
        (s.modChannel a fun ch => { ch with state := .lead, lead := s.leadOf a }).recomputeGoverning := by
      unfold State.enterLead
      exact if_neg h
    have hch : (s.enterLead a).channels =
        (s.modChannel a fun ch => { ch with state := .lead, lead := s.leadOf a }).channels := by
      rw [e]
      exact (State.recomputeGoverning_same _).channels (by decide)
    rw [if_neg h]
    refine ⟨fun b => ?_, fun a' ha => ?_, ?_⟩
    · rw [e, recomputeGoverning_get]
      exact regoverned_only _ _ _
    · rw [hch, State.modChannel_get, if_neg ha]
    · rw [hch, State.modChannel_get, if_pos rfl]

/-- R81: the evaluation of a release changes of each berth at most governing and ducked mark; it changes only a channel
that is in DUCKING. -/
theorem evaluateRelease_spec (s : State) (a : ChannelIx) :
    (∀ b : BerthIx, (s.evaluateRelease a).berths[b] = { s.berths[b] with
      governing := (s.evaluateRelease a).berths[b].governing
      ducked := (s.evaluateRelease a).berths[b].ducked }) ∧
    (∀ a' : ChannelIx, a' ≠ a ∨ s.channels[a].state ≠ .ducking →
      (s.evaluateRelease a).channels[a'] = s.channels[a']) := by
  unfold State.evaluateRelease
  split
  · rename_i h
    refine ⟨(enterLead_spec s a).1, fun a' ha => (enterLead_spec s a).2.1 a' ?_⟩
    rcases ha with h2 | h2
    · exact h2
    · exact absurd h.1 h2
  · exact ⟨fun _ => rfl, fun _ _ => rfl⟩

/-- R81: the evaluation of both releases. -/
theorem evaluateReleases_spec (s : State) :
    (∀ b : BerthIx, s.evaluateReleases.berths[b] = { s.berths[b] with
      governing := s.evaluateReleases.berths[b].governing, ducked := s.evaluateReleases.berths[b].ducked }) ∧
    (∀ a : ChannelIx, s.channels[a].state ≠ .ducking → s.evaluateReleases.channels[a] = s.channels[a]) := by
  unfold State.evaluateReleases
  obtain ⟨h1, h2⟩ := evaluateRelease_spec s 0
  obtain ⟨k1, k2⟩ := evaluateRelease_spec (s.evaluateRelease 0) 1
  refine ⟨fun b => ?_, fun a ha => ?_⟩
  · rw [k1 b, h1 b]
  · have e1 : (s.evaluateRelease 0).channels[a] = s.channels[a] := by
      by_cases h0 : a = 0
      · subst h0
        exact h2 0 (.inr ha)
      · exact h2 a (.inl h0)
    rw [← e1]
    by_cases h0 : a = 1
    · subst h0
      exact k2 1 (.inr (by rw [e1]; exact ha))
    · exact k2 a (.inl h0)

/-- R79, R81: governing settled: of each berth at most governing and ducked mark change, and only channels in DUCKING
leave their state. -/
theorem settleGoverning_spec (s : State) :
    (∀ b : BerthIx, s.settleGoverning.berths[b] = { s.berths[b] with
      governing := s.settleGoverning.berths[b].governing, ducked := s.settleGoverning.berths[b].ducked }) ∧
    (∀ a : ChannelIx, s.channels[a].state ≠ .ducking → s.settleGoverning.channels[a] = s.channels[a]) := by
  unfold State.settleGoverning
  have hc : s.recomputeGoverning.channels = s.channels := (State.recomputeGoverning_same s).channels (by decide)
  obtain ⟨h1, h2⟩ := evaluateReleases_spec s.recomputeGoverning
  refine ⟨fun b => ?_, fun a ha => ?_⟩
  · rw [h1 b, recomputeGoverning_get, regoverned_only]
  · rw [h2 a (by rw [hc]; exact ha), hc]

/-- R88: the entry into IDLE clears the channel but for its next expected sequence and its counts, changes of each berth
at most governing and ducked mark, and changes the other channel only where it is in DUCKING. -/
theorem enterIdle_spec (s : State) (a : ChannelIx) :
    (∀ b : BerthIx, (s.enterIdle a).berths[b] = { s.berths[b] with
      governing := (s.enterIdle a).berths[b].governing, ducked := (s.enterIdle a).berths[b].ducked }) ∧
    (s.channels[otherChannel a].state ≠ .ducking →
      (s.enterIdle a).channels[otherChannel a] = s.channels[otherChannel a]) ∧
    (s.enterIdle a).channels[a] =
      { Channel.initial with nextSeq := s.channels[a].nextSeq, counts := s.channels[a].counts } := by
  have hne : otherChannel a ≠ a := by
    match a with
    | 0 => decide
    | 1 => decide
  have hc : ((s.modChannel a Channel.idled).recomputeGoverning).channels = (s.modChannel a Channel.idled).channels :=
    (State.recomputeGoverning_same _).channels (by decide)
  obtain ⟨h1, h2⟩ := evaluateRelease_spec (s.modChannel a Channel.idled).recomputeGoverning (otherChannel a)
  unfold State.enterIdle
  refine ⟨fun b => ?_, fun ha => ?_, ?_⟩
  · rw [h1 b, recomputeGoverning_get, regoverned_only]
    rfl
  · have e : (s.modChannel a Channel.idled).recomputeGoverning.channels[otherChannel a] =
        s.channels[otherChannel a] := by
      rw [hc, State.modChannel_get, if_neg hne]
    rw [h2 _ (.inr (by rw [e]; exact ha)), e]
  · rw [h2 a (.inl hne.symm), hc, State.modChannel_get, if_pos rfl]
    rfl

/-! ### Queries -/

/-- R137: what starting queries leaves: the results only grow, the capacities of the two lists are respected, and no
query is left waiting that could start. -/
theorem startLoop_spec (present : PosIx → Bool) (c : ChainIx) (qs : List Query) (ch : Chain) :
    (∃ rs, (startLoop present c qs ch).results = ch.results ++ rs) ∧
    (∃ started, qs = started ++ (startLoop present c qs ch).queries) ∧
    (ch.inFlight.isSome = true → (startLoop present c qs ch).inFlight = ch.inFlight ∧
      (startLoop present c qs ch).results = ch.results) ∧
    ((startLoop present c qs ch).queries ≠ [] →
      (startLoop present c qs ch).inFlight.isSome = true ∨ 4 ≤ (startLoop present c qs ch).results.length) := by
  induction qs generalizing ch with
  | nil => exact ⟨⟨[], by simp [startLoop]⟩, ⟨[], by simp [startLoop]⟩, by simp [startLoop], by simp [startLoop]⟩
  | cons q qs ih =>
    unfold startLoop
    split
    · rename_i h
      exact ⟨⟨[], by simp⟩, ⟨[], by simp⟩, by simp, fun _ => h⟩
    · rename_i h
      split
      · exact ⟨⟨[], by simp⟩, ⟨[q], by simp⟩, fun h2 => absurd (.inl h2) h, fun _ => .inl rfl⟩
      · obtain ⟨⟨rs, hr⟩, ⟨st, hq⟩, _, hw⟩ := ih
          { ch with
            results := ch.results ++
              [{ chain := c, pos := q.pos, code := q.code, outcome := .absent, answer := none }]
            counts := { ch.counts with absentOutcomes := bump ch.counts.absentOutcomes } }
        refine ⟨⟨{ chain := c, pos := q.pos, code := q.code, outcome := .absent, answer := none } :: rs, ?_⟩, ⟨q :: st, ?_⟩, fun h2 => absurd (.inl h2) h, hw⟩
        · rw [hr, List.append_assoc]
          rfl
        · rw [List.cons_append, ← hq]

/-! ### Time and return windows -/

/-- Time that ends before anything falls due, or as it does, only advances the two clocks (R4, R14). -/
theorem passTime_free {s : State} {d : Nat} (h : d ≤ s.untilDue) : s.passTime d = s.advanceTime d := by
  unfold State.passTime State.passFuel
  exact if_neg (Nat.not_lt.2 h)

/-- Time that passes the next due moment takes what falls due there, and the rest passes after it (R4, R14). -/
theorem passFuel_due {fuel : Nat} {s : State} {d : Nat} (h : s.untilDue < d) :
    State.passFuel (fuel + 1) d s =
      State.passFuel fuel (d - s.untilDue) (s.advanceTime s.untilDue).takeDue := by
  rw [State.passFuel, if_pos h]

/-- Nothing due, nothing taken. -/
theorem takeDue_none {s : State} (h1 : s.signalLimitReached = false) (h2 : s.selfStartDue = false) : s.takeDue = s := by
  rw [State.takeDue, h1, h2]

/-- A self-start due alone (R4). -/
theorem takeDue_start {s : State} (h1 : s.signalLimitReached = false) (h2 : s.selfStartDue = true) :
    s.takeDue = s.selfStart s.lineSample := by
  rw [State.takeDue, h1, h2]

/-- BACKBONE DOWN due alone (R14). -/
theorem takeDue_signal {s : State} (h1 : s.signalLimitReached = true) (h2 : s.selfStartDue = false) :
    s.takeDue = s.backboneFails := by
  rw [State.takeDue, h1, h2]

/-- The close of the oldest window (R134). -/
theorem returnWindow_cons {s : State} {c : ChainIx} {w : Window} {ws : List Window}
    (slots : Vector (Option SlotBytes) 8) (h : s.chains[c].windows = w :: ws) :
    s.returnWindow c slots = (s.modChain c fun ch => { ch with windows := ws }).closeWindow c w.judges slots := by
  unfold State.returnWindow
  rw [h]

/-- A chain with at most one open window has none to close. -/
theorem closeSuperseded_none {s : State} {c : ChainIx} (h : s.chains[c].windows.length ≤ 1) :
    s.closeSuperseded c = s := by
  unfold State.closeSuperseded
  rw [Nat.sub_eq_zero_of_le h]
  rfl

/-- A chain with two open windows closes the older with every slot missing (R134). -/
theorem closeSuperseded_one {s : State} {c : ChainIx} (h : s.chains[c].windows.length = 2) :
    s.closeSuperseded c = s.returnWindow c missingSlots := by
  unfold State.closeSuperseded
  rw [h]
  rfl

/-- A chain with at most one open window has none to close with the slots it is named with. -/
theorem closeWith_none {s : State} {r : WindowReturn} (h : s.chains[r.chain].windows.length ≤ 1) : s.closeWith r = s :=
  if_neg (Nat.not_le.2 (Nat.lt_succ_of_le h))

/-- A chain with more than one open window closes the oldest with the slots it is named with (R134). -/
theorem closeWith_open {s : State} {r : WindowReturn} (h : 2 ≤ s.chains[r.chain].windows.length) :
    s.closeWith r = s.returnWindow r.chain r.slots :=
  if_pos h

/-- A named chain comes before the rest of the list (R37, R134). -/
theorem closeAllSuperseded_cons (s : State) (r : WindowReturn) (rs : List WindowReturn) :
    s.closeAllSuperseded (r :: rs) = (s.closeWith r).closeAllSuperseded rs := rfl

/-- Chains with at most one open window each have none to close. -/
theorem closeAllSuperseded_none {s : State} (rs : List WindowReturn)
    (h : ∀ c : ChainIx, s.chains[c].windows.length ≤ 1) : s.closeAllSuperseded rs = s := by
  induction rs with
  | nil =>
    show (List.finRange 6).foldl State.closeSuperseded s = s
    induction List.finRange 6 with
    | nil => rfl
    | cons c cs ih => rw [List.foldl_cons, closeSuperseded_none (h c), ih]
  | cons r rs ih => rw [closeAllSuperseded_cons, closeWith_none (h _), ih]

/-! ### References released, queries started -/

/-- R110: what the release of one reference leaves of slot `j`. -/
theorem releaseSlot_get (st : Vector (Option Segment) 256) (i j : Fin 256) :
    (releaseSlot st i)[j] = if j = i then (st[i]).bind fun g =>
      if g.refs ≤ 1 then none else some { g with refs := g.refs - 1 } else st[j] := by
  unfold releaseSlot
  cases h : st[i] with
  | none => split <;> simp_all
  | some g => exact get_set_fin _ _ _ _

/-- R121, R123: the release of the references of a list of entries takes from each slot as many as refer to it. -/
theorem releaseAll_get (es : List VideoEntry) (st : Vector (Option Segment) 256) (j : Fin 256) :
    (releaseAll st es)[j] = if references es j = 0 then st[j] else (st[j]).bind fun g =>
      if g.refs ≤ references es j then none else some { g with refs := g.refs - references es j } := by
  induction es generalizing st with
  | nil => simp [releaseAll, references]
  | cons e es ih =>
    rw [show releaseAll st (e :: es) = releaseAll (releaseSlot st e.slot) es from rfl, ih, releaseSlot_get]
    by_cases hj : j = e.slot
    · subst hj
      rw [show references (e :: es) e.slot = references es e.slot + 1 by simp [references]]
      cases h : st[e.slot] with
      | none => simp
      | some g =>
        simp only [if_pos, Option.bind_some]
        by_cases h1 : g.refs ≤ 1
        · rw [if_pos h1]
          by_cases h0 : references es e.slot = 0
          · simp [h0, h1]
          · simp [h0, show g.refs ≤ references es e.slot + 1 by omega]
        · rw [if_neg h1]
          by_cases h0 : references es e.slot = 0
          · simp [h0, h1]
          · simp only [h0, if_false, Option.bind_some, Nat.succ_ne_zero]
            by_cases h2 : g.refs - 1 ≤ references es e.slot
            · rw [if_pos h2, if_pos (by omega)]
            · rw [if_neg h2, if_neg (by omega), Nat.sub_sub, Nat.add_comm 1]
    · rw [show references (e :: es) j = references es j by simp [references, Ne.symm hj], if_neg hj]

/-- R137: what starting queries makes of a record with no query in flight. -/
theorem startLoop_next (s : State) (c : ChainIx) (qs : List Query) (ch : Chain) (h : ch.inFlight = none) :
    NextQueries s c { ch with queries := qs } (startLoop (fun p => s.present (berthAt c p)) c qs ch) := by
  induction qs generalizing ch with
  | nil => exact ⟨[], [], rfl, by simp, .inl rfl, by simp [startLoop], by simp⟩
  | cons q qs ih =>
    unfold startLoop
    by_cases h4 : 4 ≤ ch.results.length
    · rw [if_pos (.inr h4)]
      refine ⟨[], q :: qs, rfl, by simp, .inl rfl, by simp, ?_⟩
      intro n ns _ hl
      simp at hl
      omega
    · rw [if_neg (by simp [h, h4])]
      by_cases hp : s.present (berthAt c q.pos) = true
      · rw [if_pos hp]
        refine ⟨[], q :: qs, rfl, by simp, .inl rfl, ?_, ?_⟩
        · simp
          omega
        · rintro n ns e -
          cases e
          exact ⟨by simpa [State.present] using hp, by simp [tokenAfter]⟩
      · rw [if_neg hp]
        obtain ⟨gone, left, e, hg, hl, h1, h2⟩ := ih
          { ch with
            results := ch.results ++ [{ chain := c, pos := q.pos, code := q.code, outcome := .absent, answer := none }]
            counts := { ch.counts with absentOutcomes := bump ch.counts.absentOutcomes } } h
        simp only at e hl h1 h2
        refine ⟨q :: gone, left, by simp [e], ?_, .inr ?_, ?_, ?_⟩
        · rintro x hx
          rcases List.mem_cons.1 hx with rfl | hx
          · simpa [State.present] using hp
          · exact hg x hx
        · rcases hl with rfl | hl
          · simp
            omega
          · simp at hl ⊢
            omega
        · intro hc
          rw [h1 (by simpa [Nat.add_comm, Nat.add_left_comm, Nat.add_assoc] using hc)]
          simp [bump, addCount_addCount, Nat.add_comm]
        · intro n ns e' hl'
          obtain ⟨hn, hx⟩ := h2 n ns e' (by simpa [Nat.add_comm, Nat.add_left_comm, Nat.add_assoc] using hl')
          refine ⟨hn, ?_⟩
          rw [hx]
          simp [bump, addCount_addCount, Nat.add_comm]

end Sys2Proof.Machine
end

