-- ==== Sys2Proof/Tests/Slice0.lean ====
section
/-! SUPPORT. Small tests: the checks of WellFormed, the worked cases of the spec and single steps computed by hand from
it, and for each obligation with hypotheses a witness that meets them. Expected values come from spec/; each comment
names its place. -/

namespace Sys2Proof.Tests

set_option Elab.async false

open Sys2Proof.Machine

/-! ### Helpers -/

/-- The next state that an outcome holds; the state after reset where it holds none. -/
def got (o : Host.Outcome State Fault Refusal) : State :=
  match o with
  | .next t => t
  | _ => State.reset

/-- The state after reset, in SERVICE. -/
def live : State := { State.reset with mgmt := { Management.initial with mode := .service } }

/-- Berth `b` of `s` PRESENT, AWAKE and then changed by `f`. -/
def seat (s : State) (b : BerthIx) (f : Berth → Berth := id) : State :=
  s.modBerth b fun r => f { r with presence := .present, awake := .awake }

/-- A command to the address A5h of `State.reset`, with a reply wanted and tag 3. -/
def own : Header := { target := 0xA5, origin := 0x01, flags := 0x83 }

/-- A broadcast command. -/
def everyone : Header := { target := 0xFF, origin := 0x01, flags := 0 }

/-- A command to another distributor. -/
def other : Header := { target := 0xA6, origin := 0x01, flags := 0x80 }

/-- The payload of the reply in the slot or on the upstream line. -/
def replied (s : State) : List Byte :=
  match s.up.slot, s.up.sending with
  | some r, _ => r.parcel.payload
  | none, some (.reply r) => r.parcel.payload
  | _, _ => []

/-- Both quiet lines inactive, and a sensor value. -/
def quietLines (sensor : Int := 20) : LineSample := { qa := false, qb := false, sensor := sensor }

/-- A valid return slot: marker, status, two keys, token, sixteen answer bytes of `a` and the sum byte. -/
def slotWith (status key1 key2 token a : Byte) : SlotBytes :=
  let head : List Byte := [0x5A, status, key1, key2, token] ++ List.replicate 16 a
  let sum := 256 - (head.map BitVec.toNat).sum % 256
  Vector.ofFn fun i => if i.val < 21 then head.getD i.val 0 else BitVec.ofNat 8 sum

/-- Eight slots of which only position `p` was taken in. -/
def onlySlot (p : PosIx) (v : SlotBytes) : Vector (Option SlotBytes) 8 :=
  Vector.ofFn fun i => if i = p then some v else none

/-- A chain of `s` with an open return window. -/
def windowed (s : State) (c : ChainIx) : State :=
  s.modChain c fun ch => { ch with windows := [{ cycle := 7, judges := true }] }

/-- A video entry for stream 11. -/
def entry (slot : Fin 256) (due : Word16) (length : Nat) : VideoEntry :=
  { slot := slot, stream := 11, due := due, length := length }

/-- A query for a position. -/
def ask (p : PosIx) : Query := { pos := p, code := 0x21, arg := Vector.replicate 8 0 }

/-! ### Well-formed and ill-formed commands -/

theorem test_wf_payload_refused :
    wellFormed (.programAudio own (List.replicate 1473 0)) = false ∧
      wellFormed (.cycleMark own 0 (quietLines) (List.replicate 1473 0)) = false ∧
      wellFormed (.throughArrival { target := 0, origin := 0, kind := .reply, flags := 0
                                    payload := List.replicate 1473 0 }) = false ∧
      wellFormed (.programAudio own (List.replicate 1472 0)) = true := by decide +kernel

theorem test_wf_body_refused :
    wellFormed (.readEntries own (List.replicate 1472 0)) = false ∧
      wellFormed (.readEntries own (List.replicate 1471 0)) = true := by decide +kernel

theorem test_wf_receive_check_refused :
    wellFormed (.receiveCheckFailure .upstream true
      (parcelBytes { target := 0xA5, origin := 1, kind := .command, flags := 0, payload := [1] })) = false ∧
      wellFormed (.receiveCheckFailure .upstream false []) = true := by decide +kernel

theorem test_wf_forward_refused :
    wellFormed (.forwardCommand everyone [1]) = false ∧ wellFormed (.forwardCommand other [1]) = true := by decide

theorem test_wf_unknown_refused :
    wellFormed (.unknownCommand own [0x14]) = false ∧ wellFormed (.unknownCommand own [0x01]) = false ∧
      wellFormed (.unknownCommand own [0x15]) = true ∧ wellFormed (.unknownCommand own []) = true := by decide

theorem test_wf_cue_refused :
    wellFormed (.cueBadPayload own [0, 1, 0, 0, 0, 0, 0, 0, 0, 0]) = false ∧
      wellFormed (.cueBadPayload own [0, 4, 0, 0, 0, 0, 0, 0, 0, 0]) = true ∧
      wellFormed (.cueBadPayload own [0, 1, 0]) = true := by decide

/-- R134: at one cycle start a chain closes one window. -/
theorem test_wf_returns_refused :
    wellFormed (.selfStart { quietLines with returns := [⟨2, missingSlots⟩, ⟨2, missingSlots⟩] }) = false ∧
      wellFormed (.cycleMark own 0 { quietLines with returns := [⟨2, missingSlots⟩, ⟨2, missingSlots⟩] } []) = false ∧
      wellFormed (.selfStart { quietLines with returns := [⟨2, missingSlots⟩, ⟨0, missingSlots⟩] }) = true := by decide

/-! ### Arithmetic of the spec -/

/-- The table of R6 (01). -/
theorem test_cycle_distance :
    cycleDistance 405 400 = 5 ∧ cycleDistance 3 65530 = 9 ∧ cycleDistance 65530 3 = -9 ∧
      cycleDistance 400 400 = 0 ∧ cycleDistance 32768 0 = -32768 ∧ cycleDistance 32767 0 = 32767 := by decide

/-- 00, "Levels": Gain[12] is 91; 06, worked cases: Gain[13] = 128, Gain[15] = 256. -/
theorem test_gain : gain 12 = 91 ∧ gain 13 = 128 ∧ gain 15 = 256 ∧ gain 0 = 0 ∧ gain 10 = 45 := by decide

/-- 09, R142: the six valid strap values. -/
theorem test_straps :
    (List.range 16).filter (fun n => strapValid (BitVec.ofNat 4 n)) = [3, 5, 6, 9, 10, 12] := by decide

/-- 06, "A Safety Announcement Against a Night Ceiling": the two terms and the sums, left and right. -/
theorem test_mix_safety :
    programTerm 20000 112 32 = 1093 ∧ speechTerm (-12000) 91 = -4266 ∧
      (mixSample 20000 112 32 (-12000) 91).toInt = -3173 ∧ programTerm (-8000) 112 32 = -438 ∧
      (mixSample (-8000) 112 32 (-12000) 91).toInt = -4704 := by decide

/-- 06, "Saturation Under a Courtesy Announcement": frames 5, 6 and 7. -/
theorem test_mix_saturation :
    (mixSample 32767 256 128 32000 256).toInt = 32767 ∧ (mixSample 0x8000 256 128 32000 256).toInt = 15616 ∧
      (mixSample 0x8000 256 128 0x8000 256).toInt = -32768 ∧ (mixSample 1000 256 128 0x8000 256).toInt = -32268 ∧
      (mixSample (-1000) 256 128 0x8000 256).toInt = -32768 ∧ sampleClips 1000 256 128 0x8000 256 = false := by decide

/-- 06, the same cases: Ap glides 128, 112, 96, 91 by 16; the night speaker case 4, 8, 11. -/
theorem test_moves :
    moveToward 91 16 128 = 112 ∧ moveToward 91 16 96 = 91 ∧ moveToward 11 4 0 = 4 ∧ moveToward 11 4 8 = 11 ∧
      moveToward 0 0 256 = 0 := by decide

/-- 09, R145, worked by hand: the check of no byte is FFFFh; each bit of FFh equals the bit shifted out, so eight zeros
are shifted in. -/
theorem test_check : checkOf [] = 0xFFFF ∧ checkOf [0xFF] = 0xFF00 := by decide

/-- 11, "Parcels": eight bytes around the payload, the length field high byte first. -/
theorem test_parcel_bytes :
    (parcelBytes { target := 0xA5, origin := 1, kind := .command, flags := 0x83, payload := [0x0A] }).take 7 =
      [0xA5, 0x01, 0x30, 0x83, 0x00, 0x01, 0x0A] := by decide

/-! ### Cycle rows -/

/-- `live` with the first mark taken, cycle 400, 0.9 ms after its start. -/
def cycling (since : Nat) : State :=
  { live with timer := { Timer.initial with cycle := 400, sinceStart := since, firstMark := false } }

/-- R2: 0.9 ms starts a cycle, 0.899 ms is early. -/
theorem test_cycle_mark_taken :
    (got (exec (.cycleMark own 900 quietLines [0x01, 0x91]) (cycling 0))).timer.cycle = 401 ∧
      (got (exec (.cycleMark own 900 quietLines [0x01, 0x91]) (cycling 0))).counts.slips = 0 := by decide +kernel

/-- R2, R4: an early mark; and a mark 5 ms after a cycle start, which four self-starts come before. -/
theorem test_cycle_mark_early :
    (got (exec (.cycleMark own 899 quietLines [0x01, 0x91]) (cycling 0))).timer.cycle = 400 ∧
      (got (exec (.cycleMark own 899 quietLines [0x01, 0x91]) (cycling 0))).counts.earlyMarks = 1 ∧
      (let t := got (exec (.cycleMark own 5000 quietLines [0x00, 0x05]) State.reset)
       t.timer.cycle = 4 ∧ t.counts.selfStarts = 4 ∧ t.counts.earlyMarks = 1 ∧ t.timer.sinceStart = 600) := by
  decide +kernel

/-- 01, "Loss and Recovery of Marks": the 50th self-start is cycle 450 and raises MARK LOSS; the 49th does not. -/
theorem test_self_start_50th :
    (got (exec (.selfStart quietLines)
      { cycling 0 with timer := { (cycling 0).timer with cycle := 449, missedRun := 49 } })).timer.cycle = 450 ∧
    (got (exec (.selfStart quietLines)
      { cycling 0 with timer := { (cycling 0).timer with cycle := 449, missedRun := 49 } })).programHold = true ∧
    (got (exec (.selfStart quietLines)
      { cycling 0 with timer := { (cycling 0).timer with cycle := 448, missedRun := 48 } })).faults.flags.markLoss =
        false := by
  decide +kernel

/-- R14: a period of 9 ms passes 10 ms before a self-start 1.1 ms later. R108, R134: the frame of the new cycle closes the
window of chain 2 after the cycle start, with one slot taken in: berth 19 becomes PRESENT, and its audio slot is still
silent. The window of chain 3 closes with no slot. -/
theorem test_self_start_meets_others :
    let s := windowed (windowed (seat live 19 fun r => { r with presence := .joining, validRun := 3 }) 2) 3
    let t := got (exec (.selfStart { quietLines with returns := [⟨2, onlySlot 3 (slotWith 0 0 0 0 0)⟩] })
      { s with faults := { s.faults with noSignal := some 9000 } })
    t.faults.flags.backboneDown = true ∧ t.faults.noSignal = some 10000 ∧ t.berths[19].presence = .present ∧
      t.slots[19] = ProgramBlock.silent ∧ t.chains[2].counts.returnsMissing = 7 ∧
      t.chains[3].counts.returnsMissing = 8 ∧ t.chains[3].windows.length = 1 := by decide +kernel

/-- R34 at a cycle start that is a tick, whichever of the free orders it takes: a berth dims at its 120th tick. -/
theorem test_cycle_start_ticks : ∀ (place : Fin 5) (first : Bool),
    (State.cycleWork (seat live 5 fun r => { r with settings := Settings.night, idle := 119 }) 1 true false false place
      first).berths[5].awake = .dimmed := by decide +kernel

/-- R13: at the threshold of 95 the flag is raised; the reading is held within 150. -/
theorem test_seconds_tick_hot :
    (got (exec (.secondsTick 200) { live with timer := { Timer.initial with divider := 999 } })).faults.temperature =
        150 ∧
      (got (exec (.secondsTick 95) { live with timer := { Timer.initial with divider := 999 } })).faults.flags.overheat =
        true := by decide +kernel

/-- R13: a condition that holds ends at 5 below the threshold, and its flag stays raised. -/
theorem test_seconds_tick_cools :
    let s := { live with
      timer := { Timer.initial with divider := 999 }
      faults := { FaultMonitor.initial 95 true with temperature := 95 } }
    (got (exec (.secondsTick 91) s)).faults.overheat = true ∧ (got (exec (.secondsTick 90) s)).faults.overheat = false ∧
      (got (exec (.secondsTick 90) s)).faults.flags.overheat = true := by decide +kernel

/-- 03, "The Coach Goes Quiet": source A follows QA into NIGHT and takes the night set; source NONE stays DAY. -/
theorem test_quiet_accepted :
    let s := seat { live with timer := { Timer.initial with qa := { accepted := false, run := 7 } } } 0
      fun r => { r with config := { r.config with quietSource := .a } }
    (got (exec (.quietLineAccepted true false) s)).berths[0].regime = .night ∧
      (got (exec (.quietLineAccepted true false) s)).berths[0].settings.headphoneCeiling = 11 ∧
      (got (exec (.quietLineAccepted true false) s)).berths[2].regime = .day ∧
      (got (exec (.quietLineAccepted true false) s)).counts.regimeChanges = 1 := by decide +kernel

theorem test_mark_loss :
    (got (exec .markLoss { live with timer := { Timer.initial with missedRun := 49 } })).counts.markLossRaises = 1 := by
  decide +kernel

theorem test_signal_lost : (got (exec .backboneSignalLost live)).faults.noSignal = some 0 := by decide +kernel

/-- R4, R14: 10 ms after the loss, which came 0.4 ms into a cycle: nine self-starts come first. -/
theorem test_backbone_down :
    let t := got (exec .backboneDown (got (exec .backboneSignalLost (cycling 400))))
    t.faults.flags.backboneDown = true ∧ t.counts.selfStarts = 9 ∧ t.timer.sinceStart = 500 := by decide +kernel

/-- R14: the return ends the condition; R11: the flag stays. -/
theorem test_signal_return :
    let s := { live with faults := { FaultMonitor.initial 0 false with
      backboneDown := true, flags := { FaultBits.clear with backboneDown := true } } }
    (got (exec .backboneSignalReturn s)).faults.backboneDown = false ∧
      (got (exec .backboneSignalReturn s)).faults.flags.backboneDown = true := by decide +kernel

/-! ### Media rows and cues -/

/-- 04, "One Ring Across the Wrap": stream 6 owns ring 4, cycle 65533, berth 19 listens. -/
def tuned : State :=
  let s := seat { live with timer := { Timer.initial with cycle := 65533, firstMark := false } } 19
    fun r => { r with audio := some 6, config := { r.config with allowed := 0x40 } }
  s.modStream 6 fun e => { e with kind := some .programAudio, ring := some 4, presented := .silence }

/-- A PROGRAM AUDIO payload for stream 6: `k` blocks of `x` bytes from a due cycle. -/
def audioPayload (k : Nat) (due : Word16) (x : Byte) : List Byte :=
  [6, BitVec.ofNat 8 k] ++ beBytes 2 due.toNat ++ List.replicate (192 * k) x

/-- 04, the same sequence, parcel D: due 12 is 15 ahead of 65533 and goes to slot 12; parcel E: due 13 is early. -/
theorem test_program_audio_window :
    ((got (exec (.programAudio own (audioPayload 1 12 0x11)) tuned)).rings[4][12]).map Prod.fst = some 12 ∧
      (got (exec (.programAudio own (audioPayload 1 13 0x11)) tuned)).streams[6].counts.early = 1 := by decide +kernel

/-- 04, parcel C: due 65532 and 65533 are both late. -/
theorem test_program_audio_late :
    (got (exec (.programAudio own (audioPayload 2 65532 0x11)) tuned)).streams[6].counts.late = 2 := by decide +kernel

/-- 07, "One Segment, Four Demanding Chains": chain 0 is empty, chain 1 holds 5 entries, the watcher of chain 2 sleeps,
chain 3's queue is full, chain 4's budget is 2000; slots 0..16 are in use. -/
def demanding : State :=
  let watch := fun (r : Berth) => { r with video := some 11 }
  let s := { live with
    timer := { Timer.initial with cycle := 3000 }
    store := Vector.ofFn fun i => if i.val < 17 then some { bytes := [1], stream := 11, due := 3001, refs := 1 }
      else none
    streams := live.streams.set 11 { StreamEntry.initial with kind := some .programVideo } }
  let s := seat (seat (seat (seat (seat s 2 watch) 12 fun r => { watch r with awake := .dimmed }) 17
    fun r => { watch r with awake := .asleep }) 27 watch) 35 watch
  let s := s.modChain 1 fun ch => { ch with program := List.replicate 5 (entry 1 3001 1440) }
  let s := s.modChain 3 fun ch => { ch with program := List.replicate 32 (entry 2 3001 1440) }
  s.modChain 4 fun ch => { ch with budget := 2000 }

/-- 07, segment S: due 3040, 1200 bytes. -/
def segmentS : List Byte := [11, 0] ++ beBytes 2 3040 ++ List.replicate 1200 0x77

/-- 07, the same sequence: slot 17 with reference count 3; queues of 1, 6 and 1 entries; chain 3 counts queue full. -/
theorem test_video_segment_replicated :
    let t := got (exec (.videoSegment own segmentS) demanding)
    (t.store[17]).map (fun g => (g.refs, g.due, g.bytes.length)) = some (3, 3040, 1200) ∧
      (List.finRange 6).map (fun c => t.chains[c].program.length) = [1, 6, 0, 32, 1, 0] ∧
      t.chains[3].counts.queueFull = 1 ∧ t.streams[11].counts.accepted = 1 := by decide +kernel

/-- 07, cycle start 3001, chain 1: five entries of cost 1448 leave 952, and the head of cost 1208 waits. -/
theorem test_serve_queue :
    let r := serveQueue 3001 (List.replicate 5 (entry 1 3001 1440) ++ [entry 17 3040 1200]) 8192
    r.sent.length = 5 ∧ r.budget = 952 ∧ r.rest = [entry 17 3040 1200] ∧ waitAfter 0 r.rest [] = 1 := by decide

/-- 05, R76: a SAFETY cue to zone 0 reaches the sleeping berths, wakes none, and with no PRESENT berth goes straight to
LEAD with the class lead of 50. -/
theorem test_start_cue_safety :
    let q : CueBody := { channel := 0, cls := 1, zone := 0, stop := 0xFF, caption := 7, sequence := 10
                         leadOverride := 0xFFFF }
    let t := got (exec (.startCue own q) live)
    t.channels[0].state = .lead ∧ t.channels[0].lead = 50 ∧ t.channels[0].reach = BitVec.allOnes 48 ∧
      t.channels[0].nextSeq = 10 := by decide +kernel

/-- 05, R77: an EMERGENCY cue wakes the PRESENT berths and waits in DUCKING for their mark. -/
theorem test_start_cue_emergency :
    let q : CueBody := { channel := 1, cls := 0, zone := 0, stop := 0xFF, caption := 0xFF, sequence := 0
                         leadOverride := 5 }
    let t := got (exec (.startCue own q) (seat live 20 fun r => { r with awake := .asleep }))
    t.berths[20].awake = .awake ∧ t.berths[21].awake = .asleep ∧ t.channels[1].state = .ducking ∧
      t.berths[20].governing = some 1 := by decide +kernel

/-- A channel 0 of class SAFETY in PLAYING with next sequence 100. -/
def playing (ring : SpeechRing := .empty) : State :=
  live.modChannel 0 fun ch => { ch with state := .playing, cls := some .safety, nextSeq := 100, ring := ring }

/-- R86: the last sequence before the next expected one ends the announcement; one not before it is kept. -/
theorem test_end_cue :
    let q : Word16 → CueBody := fun n =>
      { channel := 0, cls := 0, zone := 0, stop := 0, caption := 0, sequence := n, leadOverride := 0 }
    (got (exec (.endCue own (q 99)) playing)).channels[0].state = .idle ∧
      (got (exec (.endCue own (q 100)) playing)).channels[0].lastSeq = some 100 := by decide +kernel

theorem test_cancel_cue :
    let q : CueBody := { channel := 0, cls := 0, zone := 0, stop := 0, caption := 0, sequence := 0, leadOverride := 0 }
    (got (exec (.cancelCue own q) playing)).channels[0].state = .idle ∧
      (got (exec (.cancelCue own q) live)).channels[0].counts.cuesRefused = 1 := by decide +kernel

theorem test_cue_bad_payload : (got (exec (.cueBadPayload own [0, 4]) live)).up.counts.badPayload = 1 := by
  decide +kernel

/-- R83: the lead that reaches 0 brings PLAYING, with silence presented. -/
theorem test_lead_expiry :
    let s := live.modChannel 1 fun ch => { ch with state := .lead, cls := some .courtesy, lead := 1 }
    (got (exec (.leadExpiry 1) s)).channels[1].state = .playing ∧
      (got (exec (.leadExpiry 1) s)).channels[1].presented = .silence := by decide +kernel

/-- R85: the 200th cycle without its block latches ANNOUNCE STALL and ends the announcement. -/
theorem test_announce_stall :
    let s := playing.modChannel 0 fun ch => { ch with stall := 199 }
    (got (exec (.announceStall 0) s)).channels[0].state = .idle ∧ (got (exec (.announceStall 0) s)).mgmt.stall[0] = true ∧
      (got (exec (.announceStall 0) s)).channels[0].counts.gapCycles = 1 := by decide +kernel

/-- R89: offset 255 is stored in slot 355 mod 256, offset 256 is stale. -/
theorem test_announce_audio :
    let payload : Word16 → List Byte := fun q => [0, 1] ++ beBytes 2 q.toNat ++ List.replicate 96 0x22
    ((got (exec (.announceAudio own (payload 355)) playing)).channels[0].ring[99]).map Prod.fst = some 355 ∧
      (got (exec (.announceAudio own (payload 356)) playing)).channels[0].counts.stale = 1 := by decide +kernel

/-! ### Chain and berth rows -/

/-- R130: a self-start puts the frame of the new cycle on an idle line, and its completion frees the line. -/
theorem test_chain_frame_complete :
    let t := got (exec (.selfStart quietLines) live)
    (t.chains[2].line).map (fun f => f.cycle) = some 1 ∧ t.chains[2].counts.framesSent = 1 ∧
      (got (exec (.chainFrameComplete ⟨2, missingSlots⟩) t)).chains[2].line = none := by decide +kernel

/-- R134: the frame that waits closes the window of the frame before it as it begins, here with one slot taken in. -/
theorem test_chain_frame_complete_waiting :
    let f := live.frameOf 2 8
    let s := (windowed live 2).modChain 2 fun ch => { ch with line := some f, waiting := some f }
    let t := got (exec (.chainFrameComplete ⟨2, onlySlot 3 (slotWith 0 0 0 0 7)⟩) s)
    t.chains[2].windows.map (fun w => w.cycle) = [8] ∧ t.chains[2].counts.returnsMissing = 7 ∧
      t.chains[2].counts.returnsValid = 1 := by decide +kernel

/-- 02, "A Berth Joins and Leaves", windows 1 and 3: berth 19 of chain 2 JOINING, then ABSENT again. -/
theorem test_return_window_joining :
    let t := got (exec (.returnWindowClose 2 (onlySlot 3 (slotWith 1 0 0 0 0))) (windowed live 2))
    t.berths[19].presence = .joining ∧ t.berths[19].validRun = 1 ∧ t.berths[19].headphone = true ∧
      t.chains[2].counts.returnsValid = 1 ∧ t.chains[2].counts.returnsMissing = 7 := by decide +kernel

/-- 02, "Keys on a Sleeping Berth": berth 13 before the first return. -/
def sleeper : State :=
  let s := seat live 13 fun r => { r with
    awake := .asleep, regime := .night, audio := some 7, level := 10
    config := { r.config with allowed := 0x1294 } }
  let s := (s.modStream 2 fun e => { e with kind := some .programAudio }).modStream 7
    fun e => { e with kind := some .programAudio }
  (s.modStream 4 fun e => { e with kind := some .programVideo }).modStream 9
    fun e => { e with kind := some .programVideo }

/-- 02, the same sequence, returns 1 and 2: VOLUME UP with AUDIO NEXT on the sleeping berth, VIDEO NEXT twice. -/
theorem test_return_window_keys :
    let t := got (exec (.returnWindowClose 1 (onlySlot 5 (slotWith 0 1 3 0 0))) (windowed sleeper 1))
    let u := got (exec (.returnWindowClose 1 (onlySlot 5 (slotWith 0 5 5 0 0))) (windowed sleeper 1))
    (t.berths[13].awake, t.berths[13].audio, t.berths[13].level) = (.asleep, none, 11) ∧
      (u.berths[13].awake, u.berths[13].video) = (.awake, some 4) ∧ t.chains[1].counts.keysApplied = 2 := by
  decide +kernel

/-- 02, "A Berth Joins and Leaves", window 7: NIGHT, default audio 6, default level 9. -/
theorem test_berth_present :
    let s := tuned.modBerth 19 fun r => { r with
      presence := .joining, validRun := 3, regime := .night, awake := .asleep
      config := { r.config with defaultAudio := some 6, defaultLevel := 9 } }
    let t := got (exec (.berthPresent 19) s)
    (t.berths[19].presence, t.berths[19].audio, t.berths[19].level, t.berths[19].awake) =
        (.present, some 6, 9, .asleep) ∧
      t.mgmt.presence[2] = true ∧ t.chains[2].counts.presenceGained = 1 := by decide +kernel

/-- 02, the same sequence, window 39; R24: off the call list. -/
theorem test_berth_absent :
    let s := { seat live 19 fun r => { r with missingRun := 15, ap := 40, ad := 0 } with calls := [3, 19] }
    let t := got (exec (.berthAbsent 19) s)
    (t.berths[19].presence, t.berths[19].ap, t.berths[19].ad) = (.absent, 0, 256) ∧ t.calls = [3] ∧
      t.chains[2].counts.presenceLost = 1 := by decide +kernel

/-- 02, R34: a night berth dims at its 120th tick and sleeps at the 480th after. -/
theorem test_idle_dim :
    let s := fun n => seat live 5 fun r => { r with settings := .night, idle := n }
    (got (exec (.idleDim 5) (s 119))).berths[5].awake = .dimmed ∧
      (got (exec (.idleDim 5) (s 118))).berths[5].awake = .awake := by decide +kernel

theorem test_idle_sleep :
    let s := fun n => seat live 5 fun r => { r with settings := .night, idle := n, awake := .dimmed }
    (got (exec (.idleSleep 5) (s 479))).berths[5].awake = .asleep ∧
      (got (exec (.idleSleep 5) (s 478))).berths[5].awake = .dimmed := by decide +kernel

/-- 08, "Queries on Chain 2", window 710: Q2 ends NO ANSWER; Q3's berth 22 is ABSENT, and Q4 takes token 1. -/
theorem test_no_answer :
    let s := (seat (seat live 19) 21).modChain 2 fun ch => { ch with
      inFlight := some { query := ask 5, token := 15, placed := true, waited := 7 }
      queries := [ask 6, ask 3, ask 3, ask 3], nextToken := 1
      results := [{ chain := 2, pos := 3, code := 0x21, outcome := .answered, answer := none }] }
    let t := got (exec (.noAnswer 2) s)
    t.chains[2].results.map (·.outcome) = [.answered, .noAnswer, .absent] ∧
      (t.chains[2].inFlight).map (·.token) = some 1 ∧ t.chains[2].nextToken = 2 ∧ t.chains[2].queries.length = 2 := by
  decide +kernel

/-- 08, R129: a lost link discards the queries and sends its berths to ABSENT. -/
theorem test_chain_link_down :
    let s := (seat live 19).modChain 2 fun ch => { ch with
      inFlight := some { query := ask 3, token := 2, placed := false, waited := 0 }, queries := [ask 3] }
    let t := got (exec (.chainLinkDown 2) s)
    t.chains[2].counts.queriesDiscarded = 2 ∧ t.berths[19].presence = .absent ∧ t.chains[2].link = false ∧
      t.chains[2].counts.linkDowns = 1 := by decide +kernel

theorem test_chain_link_up :
    (got (exec (.chainLinkUp 2) (live.modChain 2 fun ch => { ch with link := false }))).chains[2].link = true := by
  decide +kernel

/-! ### Ports -/

/-- R144: seven bytes are a runt, on the port that received them. -/
theorem test_receive_check_failure :
    (got (exec (.receiveCheckFailure .through true (List.replicate 7 0)) live)).thru.counts.receive.runts = 1 ∧
      (got (exec (.receiveCheckFailure .upstream true (List.replicate 8 0)) live)).up.counts.receive.checks = 1 := by
  decide +kernel

theorem test_wrong_direction : (got (exec (.wrongDirection own []) live)).up.counts.wrongDirection = 1 := by
  decide +kernel

theorem test_forward_command :
    (got (exec (.forwardCommand other [0x0A]) live)).thru.sending = some (parcelOf .command other [0x0A]) := by
  decide +kernel

/-- 09, "Sharing the Upstream Port": F0 on the line, F1 and F2 queued, indicator FORWARD. -/
def forwarded (n : Byte) : Parcel := { target := 1, origin := n, kind := .reply, flags := 0, payload := [n] }

/-- Y1 of the sequence: a reply of this part. -/
def madeReply : Reply :=
  { parcel := { target := 1, origin := 0xA5, kind := .reply, flags := 0, payload := [0x0A, 0, 0] }, restart := false }

/-- The upstream port of the sequence, with Y1 in the slot. -/
def sharing : State :=
  { live with up := { UpstreamPort.initial with
      queue := [forwarded 1, forwarded 2], slot := some madeReply, sending := some (.forward (forwarded 0)) } }

/-- 09, the same sequence: F0 completes and both wait, so Y1 is sent and the indicator names REPLY. -/
theorem test_upstream_send_complete :
    let t := got (exec .upstreamSendComplete sharing)
    t.up.sending = some (.reply madeReply) ∧ t.up.slot = none ∧ t.up.queue = [forwarded 1, forwarded 2] ∧
      t.up.lastServed = .reply ∧ t.up.counts.parcelsSent = 1 := by decide +kernel

/-- 09, the same sequence: Y1 completes and both wait, so F1 is sent. -/
theorem test_upstream_send_complete_forward :
    let t := got (exec .upstreamSendComplete
      { sharing with up := { sharing.up with lastServed := .reply, sending := some (.reply madeReply) } })
    t.up.sending = some (.forward (forwarded 1)) ∧ t.up.slot = some madeReply ∧ t.up.counts.repliesSent = 1 := by
  decide +kernel

theorem test_through_arrival :
    (got (exec (.throughArrival (forwarded 3)) sharing)).up.queue.length = 3 ∧
      (got (exec (.throughArrival { forwarded 3 with kind := .cycleMark }) sharing)).thru.counts.wrongDirection = 1 := by
  decide +kernel

theorem test_through_link_down :
    let s := { live with thru := { ThroughPort.initial true with
      sending := some (forwarded 1), queue := [forwarded 2, forwarded 3] } }
    (got (exec .throughLinkDown s)).thru.counts.discardedAtDown = 2 ∧ (got (exec .throughLinkDown s)).thru.sending = none ∧
      (got (exec .throughSendComplete s)).thru.sending = some (forwarded 2) := by decide +kernel

theorem test_through_link_up :
    (got (exec .throughLinkUp { live with thru := .initial false })).thru.link = true := by decide +kernel

/-! ### Management commands -/

/-- R153: an unknown command is refused 01h with its code. -/
theorem test_unknown_command : replied (got (exec (.unknownCommand own [0x15]) live)) = [0x15, 0x01, 0x15] := by
  decide +kernel

/-- R161 and 11: part code 1850h, revision 1, straps 5, address A5h, mode bit in SERVICE. -/
theorem test_identify :
    (replied (got (exec (.identify own []) live))).take 8 = [0x01, 0, 0, 0x18, 0x50, 1, 5, 0xA5] := by decide +kernel

/-- R158: zone 0 is READ ONLY; zone 5 = {30, 31}. -/
theorem test_load_entries_zone :
    (replied (got (exec (.loadEntries own ([2, 0, 1] ++ List.replicate 6 0)) live))).take 2 = [0x02, 0x08] ∧
      (got (exec (.loadEntries own [2, 5, 1, 0, 0, 0xC0, 0, 0, 0]) live)).zones[5] = 0x0000C0000000 := by decide +kernel

/-- R160: 43 berth entries of 34 bytes fit a reply of 1472 bytes, 44 do not. -/
theorem test_read_entries_size :
    (replied (got (exec (.readEntries own [1, 0, 43]) live))).length = 1468 ∧
      replied (got (exec (.readEntries own [1, 0, 44]) live)) = [0x03, 0x02, 0x00] := by decide +kernel

/-- 04, "The Pool Runs Out": an open stream is IN USE; the first stream takes ring 0. -/
theorem test_open_stream :
    (got (exec (.openStream own [20, 1]) live)).streams[20].ring = some 0 ∧
      replied (got (exec (.openStream own [6, 1]) tuned)) = [0x04, 0x06, 6] := by decide +kernel

theorem test_close_stream :
    (got (exec (.closeStream own [6]) tuned)).berths[19].audio = none ∧
      (got (exec (.closeStream own [6]) tuned)).streams[6].ring = none := by decide +kernel

/-- R28: refused WRONG MODE in CONFIGURATION; accepted, the level is the default level. -/
theorem test_reset_berth :
    replied (got (exec (.resetBerth own [19]) State.reset)) = [0x06, 0x05, 0x00] ∧
      (got (exec (.resetBerth own [19]) (seat live 19 fun r => { r with level := 2 }))).berths[19].level = 8 := by
  decide +kernel

/-- 03, cycle 5020: the speaker ceiling of 9 and nothing else. -/
theorem test_set_berth_active :
    let t := got (exec (.setBerthActive own [1, 0x02, 99, 9, 99, 99, 99, 0xFF, 0xFF, 0xFF, 0xFF])
      (seat live 1 fun r => { r with settings := .night }))
    t.berths[1].settings = { Settings.night with speakerCeiling := 9 } := by decide +kernel

/-- R162: the group of the part holds 13 counts of 4 bytes. -/
theorem test_read_counters :
    (replied (got (exec (.readCounters own [6, 0]) live))).take 4 = [0x08, 0, 0, 13] ∧
      (replied (got (exec (.readCounters own [6, 0]) live))).length = 56 := by decide +kernel

theorem test_clear_counters :
    (got (exec (.clearCounters own [6, 0]) { live with counts := { PartCounts.zero with slips := 9 } })).counts =
      .zero := by decide +kernel

/-- R163, R164: PRESENCE 2 is bit 10, reported only where the mask has it. -/
theorem test_read_attention :
    let s := { live with mgmt := { live.mgmt with
      presence := live.mgmt.presence.set 2 true, settings := { PartSettings.initial with attentionMask := 0x0400 } } }
    replied (got (exec (.readAttention own []) s)) = [0x0A, 0, 0, 0x04, 0x00] ∧
      replied (got (exec (.clearAttention own [0x04, 0x00]) s)) = [0x0B, 0, 0, 0, 0] := by decide +kernel

theorem test_read_calls :
    replied (got (exec (.readCalls own []) { live with calls := [13, 4] })) = [0x0C, 0, 0, 2, 13, 4] := by decide +kernel

/-- R38: berth 4 is acknowledged, berth 9 is not listed, and one is reported. -/
theorem test_acknowledge_calls :
    let t := got (exec (.acknowledgeCalls own [0, 0, 0, 0, 0x02, 0x10]) { live with calls := [13, 4] })
    t.calls = [13] ∧ replied t = [0x0D, 0, 1] := by decide +kernel

/-- R11: MARK LOSS stays while the run is 50, OVERHEAT is cleared after its condition. -/
theorem test_clear_faults :
    let s := { live with
      timer := { Timer.initial with missedRun := 50 }
      faults := { FaultMonitor.initial 0 true with flags := { FaultBits.clear with markLoss := true, overheat := true } } }
    replied (got (exec (.clearFaults own []) s)) = [0x0E, 0, 0, 1] := by decide +kernel

/-- R155: refused in SERVICE, refused under a strap fault with detail 1, else accepted. -/
theorem test_enter_service :
    replied (got (exec (.enterService own []) live)) = [0x0F, 0x05, 0] ∧
      replied (got (exec (.enterService { own with target := 0xAF } [])
        { State.reset with node := .ofStraps 7 })) = [0x0F, 0x05, 1] ∧
      (got (exec (.enterService own []) State.reset)).mgmt.mode = .service := by decide +kernel

theorem test_enter_configuration :
    let t := got (exec (.enterConfiguration own []) playing)
    t.mgmt.mode = .configuration ∧ t.channels[0].state = .idle := by decide +kernel

/-- 08, "Queries on Chain 2": Q1 starts at once with token 14, and the next token is 15. -/
theorem test_berth_query :
    let s := (seat live 19).modChain 2 fun ch => { ch with nextToken := 14 }
    let t := got (exec (.berthQuery own ([2, 3, 0x21] ++ List.replicate 8 0)) s)
    (t.chains[2].inFlight).map (fun q => (q.token, q.placed)) = some (14, false) ∧ t.chains[2].nextToken = 15 ∧
      t.chains[2].queries = [] := by decide +kernel

/-- 08, the same sequence: a fifth query queued behind four is refused BUSY with detail 2. -/
theorem test_berth_query_busy :
    let s := (seat live 19).modChain 2 fun ch => { ch with
      inFlight := some { query := ask 5, token := 15, placed := true, waited := 2 }
      queries := [ask 6, ask 3, ask 3, ask 3] }
    replied (got (exec (.berthQuery own ([2, 3, 0x21] ++ List.replicate 8 0)) s)) = [0x11, 0x09, 2] := by decide +kernel

/-- 08, the same sequence: the fetch of four results starts Q5 with token 2. -/
theorem test_fetch_query_results :
    let r : QueryResult := { chain := 2, pos := 3, code := 0x21, outcome := .noAnswer, answer := none }
    let s := (seat live 19).modChain 2 fun ch => { ch with
      queries := [ask 3, ask 3], results := [r, r, r, r], nextToken := 2 }
    let t := got (exec (.fetchQueryResults own [2]) s)
    (replied t).take 4 = [0x12, 0, 0, 4] ∧ (t.chains[2].inFlight).map (·.token) = some 2 ∧
      t.chains[2].queries.length = 1 ∧ t.chains[2].results = [] := by decide +kernel

theorem test_abort_queries :
    let s := live.modChain 2 fun ch => { ch with
      inFlight := some { query := ask 3, token := 2, placed := false, waited := 0 }, queries := [ask 3] }
    replied (got (exec (.abortQueries own [2]) s)) = [0x13, 0, 2] := by decide +kernel

/-- R166: with its reply placed the reset waits; the reply of a broadcast is not wanted, and the reset is taken. -/
theorem test_restart :
    (got (exec (.restart own []) live)).mgmt.restartPending = true ∧
      (got (exec (.restart everyone []) live)).mgmt.mode = .configuration := by decide +kernel

/-! ### Resets -/

theorem test_power_on_reset :
    (got (exec .powerOnReset live)).held = some .powerOn ∧ (got (exec .powerOnReset live)).mgmt.mode = .configuration := by
  decide +kernel

theorem test_reset_pin : (got (exec .resetPin live)).held = some .pin := by decide +kernel

/-- R142: straps 6 give address A6h. -/
theorem test_end_of_reset :
    (got (exec (.endOfReset { Pins.initial with straps := 6 }) (got (exec .resetPin live)))).node.address = 0xA6 := by
  decide +kernel

/-! ### Witnesses: states and operands that meet the hypotheses of the obligations

Hypotheses that only ask for a part that is not held in reset are met by `live`. -/

/-- `live` executes what is addressed to A5h, and a broadcast; not what is addressed to A6h. -/
theorem witness_Addressed :
    live.held = none ∧ Addressed live own ∧ Addressed live everyone ∧ ¬ Addressed live other := by
  refine ⟨rfl, Or.inl rfl, Or.inr rfl, ?_⟩
  unfold Addressed
  decide +kernel

theorem witness_StepTakesFront : (State.withFetchWord { live with pending := [.markLoss] } 8 0).pending = .markLoss :: [] := by
  decide +kernel

/-- A cycle start; 1 ms after one with and 0.9 ms without a self-start; a period that passes 10 ms and one that does
not. -/
theorem witness_IdleSelfStarts :
    (live.held = none ∧ live.pending = [] ∧ live.timer.sinceStart = 0) ∧
      (1000 ≤ (cycling 1000).timer.sinceStart ∧ (cycling 1000).timer.sinceStart ≤ 1100 ∧ (cycling 1000).pending = []) ∧
      (cycling 999).timer.sinceStart < 1000 ∧
      (let s := fun x => { live with faults := { live.faults with noSignal := some x } }
       (s 9900).faults.noSignal = some 9900 ∧ (s 9900).faults.backboneDown = false ∧ 10000 ≤ 9900 + 100 ∧
         (s 9899).faults.noSignal = some 9899 ∧ 9899 + 100 < 10000) := by decide +kernel

theorem witness_ResetRows :
    State.held { live with held := some .pin } ≠ none ∧ Instr.markLoss ≠ .powerOnReset ∧ Instr.markLoss ≠ .resetPin ∧
      ∀ pins, Instr.markLoss ≠ .endOfReset pins :=
  ⟨by decide +kernel, nofun, nofun, nofun⟩

/-- `live` in a period of `x` microseconds without a signal. -/
def silentFor (x : Nat) : State := { live with faults := { live.faults with noSignal := some x } }

theorem silentFor_holds : SignalHolds (silentFor 8900) 1100 ∧ ¬ SignalHolds (silentFor 8901) 1100 := by
  refine ⟨fun x e _ => ?_, fun h => absurd (h 8901 rfl rfl) (by decide)⟩
  obtain rfl : 8900 = x := Option.some.inj e
  decide

/-- 0.899 ms, 0.9 ms, 1.1 ms and 1.101 ms; periods of 10 ms and of 10.001 ms. -/
theorem witness_MarkJudged :
    (cycling 0).held = none ∧ [(0x01 : Byte), 0x91].length = 2 ∧ (cycling 0).timer.sinceStart + 899 < 900 ∧
      900 ≤ (cycling 0).timer.sinceStart + 900 ∧ wordAt [0x02, 0x00] 0 ≠ (cycling 0).timer.cycle + 1 ∧
      (cycling 0).timer.sinceStart + 1100 ≤ 1100 ∧ 1100 < (cycling 0).timer.sinceStart + 1101 ∧
      (cycling 0).faults.noSignal = none ∧
      ((silentFor 9000).faults.noSignal = some 9000 ∧ (silentFor 9000).faults.backboneDown = false ∧
        10000 < 9000 + 1001) := by decide +kernel

/-- Runs of 49 and of 48; the signal's two cases are `silentFor_holds`. -/
theorem witness_SelfStartRule :
    State.held { live with timer := { Timer.initial with missedRun := 49 } } = none ∧
      Timer.missedRun { Timer.initial with missedRun := 48 } ≠ 49 ∧
      (silentFor 8901).timer.sinceStart = 0 ∧ (silentFor 8901).faults.noSignal = some 8901 := by decide +kernel

/-- A berth before its 120th tick, AWAKE and DIMMED, and a divider at 999 with OVERHEAT not holding and holding. -/
theorem witness_SecondsTickRule :
    let dark := seat live 5 fun r => { r with settings := { Settings.night with idleToSleep := 120 }, idle := 119 }
    let dim := dark.modBerth 5 fun r => { r with awake := .dimmed }
    (dark.held = none ∧ dark.mgmt.mode = .service ∧ dark.berths[5].presence = .present ∧
        dark.berths[5].governing = none ∧ dark.berths[5].awake = .awake ∧ dark.berths[5].settings.idleToDim ≠ 0 ∧
        dark.berths[5].settings.idleToDim.val ≤ dark.berths[5].idle + 1) ∧
      (dim.berths[5].awake = .dimmed ∧ dim.berths[5].settings.idleToSleep ≠ 0 ∧
        dim.berths[5].settings.idleToSleep.val ≤ dim.berths[5].idle + 1) ∧
      Timer.divider { Timer.initial with divider := 999 } = 999 ∧ live.faults.overheat = false ∧
      (FaultMonitor.initial 95 true).overheat = true := by decide +kernel

/-- QA before its eighth sample; then, with QA forced on, an acceptance that changes no effective level. -/
theorem witness_QuietAccepted :
    let s := { live with timer := { Timer.initial with qa := { accepted := false, run := 7 } } }
    s.held = none ∧ s.timer.qa.run = 7 ∧ true ≠ s.timer.qa.accepted ∧ ¬ s.timer.qb.run = 7 ∧
      (got (exec (.quietLineAccepted true false) s)).effectiveQA ≠ s.effectiveQA ∧
      (let f := { s with mgmt := { s.mgmt with settings := { PartSettings.initial with modeQA := .forceOn } } }
       (got (exec (.quietLineAccepted true false) f)).effectiveQA = f.effectiveQA) := by decide +kernel

theorem witness_FaultRows :
    State.held { live with timer := { Timer.initial with missedRun := 49 } } = none ∧ live.faults.noSignal = none ∧
      (FaultMonitor.initial 0 false).noSignal ≠ none ∧ (FaultMonitor.initial 0 false).backboneDown = false ∧
      (silentFor 8900).timer.sinceStart + (10000 - 8900) ≤ 1100 ∧
      ((silentFor 10000).faults.noSignal = some 10000 ∧ (silentFor 10000).faults.flags.backboneDown = false) := by
  decide +kernel

/-- A state with the three flags raised, and a command that is none of the exceptions. -/
theorem witness_RaisedFlagsStay :
    let s := { live with faults := { FaultMonitor.initial 0 true with
      flags := { markLoss := true, overheat := true, backboneDown := true } } }
    exec .backboneSignalReturn s = .next (got (exec .backboneSignalReturn s)) ∧
      (∀ h body, Instr.backboneSignalReturn ≠ .clearFaults h body) ∧
      (∀ h body, Instr.backboneSignalReturn ≠ .restart h body) ∧
      (∀ pins, Instr.backboneSignalReturn ≠ .endOfReset pins) ∧ s.faults.flags.markLoss = true ∧
      s.faults.flags.overheat = true ∧ s.faults.flags.backboneDown = true :=
  ⟨rfl, nofun, nofun, nofun, rfl, rfl, rfl⟩

/-- A cue whose every field is the first outside its range. -/
def badCueBody : CueBody :=
  { channel := 2, cls := 4, zone := 16, stop := 64, caption := 32, sequence := 0, leadOverride := 256 }

/-- CONFIGURATION; SERVICE with each bad shape at the edge of its range; video at 0 and at 1001 cycles; a mark of one
byte at 1.1 ms (for its signal see `silentFor_holds`). -/
theorem witness_MediaNotTaken :
    (State.reset.held = none ∧ State.reset.mgmt.mode = .configuration) ∧ live.mgmt.mode = .service ∧
      (2 ≤ badCueBody.channel.toNat ∧ 64 ≤ badCueBody.stop.toNat ∧ badCueBody.stop ≠ 0xFF) ∧
      ([11, 0, 0, 0] : List Byte).length < 5 ∧ 1444 < (List.replicate 1445 (0 : Byte)).length ∧
      (byteAt segmentS 0).toNat = 11 ∧ demanding.streams[11].kind = some .programVideo ∧
      cycleDistance (wordAt ([11, 0] ++ beBytes 2 3000 ++ [1]) 2) demanding.timer.cycle ≤ 0 ∧
      1000 < cycleDistance (wordAt ([11, 0] ++ beBytes 2 4001 ++ [1]) 2) demanding.timer.cycle ∧
      (tuned.streams[6].kind = some .programAudio ∧ tuned.streams[6].ring.isSome = true ∧
        (audioPayload 1 0 0 ++ [0]).length ≠ 4 + 192 * 1 ∧ 4 < (byteAt (audioPayload 5 0 0) 1).toNat) ∧
      live.streams[6].kind ≠ some .programAudio ∧ 4 < (byteAt ([0, 5] : List Byte) 1).toNat ∧
      ([1] : List Byte).length ≠ 2 ∧ (silentFor 8900).timer.sinceStart + 1100 ≤ 1100 := by decide +kernel

/-- One block and four blocks; due 12 is timely at 15 and free. -/
theorem witness_ProgramAudioStored :
    (tuned.held = none ∧ tuned.mgmt.mode = .service ∧ tuned.streams[6].kind = some .programAudio ∧
      tuned.streams[6].ring = some 4) ∧
      ((byteAt (audioPayload 1 12 1) 1).toNat = 1 ∧ (audioPayload 1 12 1).length = 4 + 192 * 1) ∧
      ((byteAt (audioPayload 4 65535 1) 1).toNat = 4 ∧ (audioPayload 4 65535 1).length = 4 + 192 * 4 ∧
        (byteAt (audioPayload 4 65535 1) 0).toNat = 6) ∧
      cycleDistance 12 tuned.timer.cycle = 15 ∧ (tuned.rings[4][ringSlot 12]).isNone = true := by decide +kernel

theorem demands_program (s : State) (v : StreamIx) (c : ChainIx) :
    Demands s false v c ↔ s.chains[c].enabled = true ∧ s.chains[c].link = true ∧ s.mgmt.mode = .service ∧
      s.programHold = false ∧ ∃ p : PosIx, s.berths[berthAt c p].presence = .present ∧
        s.berths[berthAt c p].awake ≠ .asleep ∧ s.berths[berthAt c p].video = some v := by
  unfold Demands
  simp

theorem keeps_program (s : State) (v : StreamIx) (len : Nat) (c : ChainIx) :
    Keeps s false v len c ↔ Demands s false v c ∧ len + 8 ≤ s.chains[c].budget ∧ s.chains[c].program.length < 32 := by
  unfold Keeps Chain.matching
  simp

/-- `demanding` with chain 3 alone watching, whose queue is full: demanded, not kept. -/
def crowded : State := (((demanding.modBerth 2 fun r => { r with video := none }).modBerth 12
  fun r => { r with video := none }).modBerth 35 fun r => { r with video := none })

/-- `demanding` with every slot in use, and with the budget of chain 4 one short of the segment's cost. -/
def fullStore : State :=
  { demanding with store := Vector.replicate 256 (some { bytes := [1], stream := 11, due := 3001, refs := 1 }) }

def smallBudget : State := demanding.modChain 4 fun ch => { ch with budget := 1207 }

/-- Segment S: the shape, and due cycles at 1, 40 and 1000 ahead. -/
theorem witness_VideoOutcome :
    demanding.held = none ∧ demanding.mgmt.mode = .service ∧ segmentS.length = 1204 ∧
      (byteAt segmentS 0).toNat = 11 ∧ demanding.streams[11].kind = some .programVideo ∧
      cycleDistance (wordAt segmentS 2) demanding.timer.cycle = 40 ∧
      cycleDistance (3001 : Word16) demanding.timer.cycle = 1 ∧
      cycleDistance (4000 : Word16) demanding.timer.cycle = 1000 := by decide +kernel

/-- Stored at slot 17; unplaced on `crowded`; no demand where no berth watches; store full; oversize. -/
theorem witness_VideoOutcome_cases :
    Keeps demanding false 11 1200 0 ∧ (demanding.store[17] = none ∧ ∀ j < (17 : Fin 256), demanding.store[j] ≠ none) ∧
      (Demands crowded false 11 3 ∧ 32 ≤ crowded.chains[3].program.length ∧ ∀ c, ¬ Keeps crowded false 11 1200 c) ∧
      (∀ c, ¬ Demands live false 11 c) ∧
      (Keeps fullStore false 11 1200 0 ∧ ∀ i : Fin 256, fullStore.store[i] ≠ none) ∧
      (Demands smallBudget false 11 4 ∧ smallBudget.chains[4].budget < 1200 + 8) := by
  simp only [keeps_program, demands_program]
  have full : ∀ i : Fin 256, fullStore.store[i] ≠ none := by
    intro i
    have e : fullStore.store[i] = some { bytes := [1], stream := 11, due := 3001, refs := 1 } :=
      Vector.getElem_replicate _
    rw [e]
    nofun
  refine ⟨?_, ?_, ⟨?_, ?_, ?_⟩, ?_, ⟨?_, full⟩, ?_⟩ <;> decide +kernel

/-- One block and four; an IDLE channel and a busy one; a block with offset 255 and a free slot. -/
theorem witness_AnnounceAudioStored :
    let payload : Nat → List Byte := fun k => [0, BitVec.ofNat 8 k] ++ beBytes 2 355 ++ List.replicate (96 * k) 0x22
    (playing.held = none ∧ playing.mgmt.mode = .service ∧ playing.channels[0].state ≠ .idle ∧
      live.channels[0].state = .idle) ∧
      ((byteAt (payload 1) 0).toNat = 0 ∧ (byteAt (payload 1) 1).toNat = 1 ∧ (payload 1).length = 4 + 96 * 1) ∧
      ((byteAt (payload 4) 1).toNat = 4 ∧ (payload 4).length = 4 + 96 * 4) ∧
      seqOffset 355 playing.channels[0].nextSeq = 255 ∧ playing.channels[0].lastSeq = none ∧
      (playing.channels[0].ring[speechSlot 355]).isNone = true := by decide +kernel

/-- A START cue to channel 0, zone 0. -/
def startBody (cls stop : Byte) : CueBody :=
  { channel := 0, cls := cls, zone := 0, stop := stop, caption := 0xFF, sequence := 10, leadOverride := 0xFFFF }

/-- An IDLE channel; a SAFETY channel that EMERGENCY preempts, and that SAFETY does not; a stop-matched berth. -/
theorem witness_StartCueRule :
    (live.held = none ∧ live.mgmt.mode = .service ∧ (startBody 2 17).channel.toNat = 0 ∧
      (startBody 2 17).cls.toNat = Machine.Class.service.index.val ∧ startFieldsGood (startBody 2 17) = true ∧
      live.channels[0].state = .idle) ∧
      (let s := seat live 30 fun r => { r with config := { r.config with alightStop := some 17 } }
       (s.zoneAt 0).getLsbD 30 = true ∧ (s.berths[30].config.alightStop.map Fin.val) = some (17 : Byte).toNat ∧
         s.berths[30].presence = .present) ∧
      (playing.channels[0].cls = some .safety ∧ Machine.Class.emergency.index < Machine.Class.safety.index ∧
        (startBody 0 0xFF).cls.toNat = Machine.Class.emergency.index.val ∧ startFieldsGood (startBody 0 0xFF) = true ∧
        playing.channels[otherChannel 0].state ≠ .ducking) ∧
      (playing.channels[0].state ≠ .idle ∧ Machine.Class.safety.index ≤ Machine.Class.safety.index ∧
        (startBody 1 0xFF).cls.toNat = Machine.Class.safety.index.val ∧ startFieldsGood (startBody 1 0xFF) = true) := by
  decide +kernel

/-- The three cases of an END cue: ignored, at distance −1, at distance 0. -/
theorem witness_EndCueRule :
    (live.held = none ∧ live.channels[0].state = .idle) ∧
      (playing.held = none ∧ playing.mgmt.mode = .service ∧ playing.channels[0].state ≠ .idle ∧
        playing.channels[0].lastSeq = none ∧ cycleDistance 99 playing.channels[0].nextSeq = -1 ∧
        cycleDistance 100 playing.channels[0].nextSeq = 0) := by decide +kernel

/-- A CANCEL on an IDLE and on a busy channel, and a stall of 199 at a missing block. -/
theorem witness_EnterIdleRule :
    live.channels[0].state = .idle ∧ playing.channels[0].state ≠ .idle ∧ playing.channels[0].state = .playing ∧
      playing.channels[otherChannel 0].state ≠ .ducking ∧
      (let s := playing.modChannel 0 fun ch => { ch with stall := 199, lastSeq := some 100 }
       s.held = none ∧ s.mgmt.mode = .service ∧ s.channels[0].stall = 199 ∧
         0 ≤ cycleDistance 100 s.channels[0].nextSeq ∧ s.channels[0].ring[speechSlot s.channels[0].nextSeq] = none) := by
  decide +kernel

/-- A state is governed as R79 says when its berths hold what the rule chooses. -/
theorem governingLaw_of {s : State}
    (busy : ∀ a : ChannelIx, s.channels[a].state ≠ .idle → s.channels[a].cls.isSome = true)
    (chosen : ∀ b : BerthIx, s.berths[b].presence = .present → s.berths[b].governing = s.chooseGoverning b)
    (free : ∀ b : BerthIx, s.berths[b].presence ≠ .present → s.berths[b].governing = none)
    (marked : ∀ b : BerthIx, s.berths[b].ducked = true → s.berths[b].governing.isSome = true) : GoverningLaw s :=
  ⟨busy, fun b => ⟨fun h => by rw [chosen b h]; exact chooseGoverning_governs s b, free b, marked b⟩⟩

/-- Berth 19 governed and ducked by a SAFETY announcement on channel 0, in LEAD with 1 cycle remaining. -/
def governed : State :=
  (seat live 19 fun r => { r with governing := some 0, ducked := true, ad := 32 }).modChannel 0
    fun ch => { ch with state := .lead, cls := some .safety, lead := 1, reach := BitVec.allOnes 48 }

theorem governed_law : GoverningLaw governed := by
  apply governingLaw_of <;> decide +kernel

theorem witness_LeadExpires :
    governed.held = none ∧ governed.mgmt.mode = .service ∧ GoverningLaw governed ∧ governed.channels[0].state = .lead ∧
      governed.channels[0].lead = 1 :=
  ⟨rfl, rfl, governed_law, rfl, rfl⟩

/-- A channel in DUCKING whose berth carries the mark, with a lead of 100 and with an override of 0; one that waits. -/
theorem witness_PlayoutRule_release :
    let s := governed.modChannel 0 fun ch => { ch with state := .ducking, lead := 0 }
    GoverningLaw s ∧ s.channels[0].state = .ducking ∧
      (∀ b : BerthIx, ¬ (s.berths[b].presence = .present ∧ s.berths[b].governing = some 0 ∧ s.berths[b].ducked = false)) ∧
      s.channels[0].leadOverride = none ∧ s.classes[Machine.Class.safety.index].lead.val ≠ 0 ∧
      ((s.modChannel 0 fun ch => { ch with leadOverride := some 0 }).channels[0].leadOverride = some 0) ∧
      ((s.modBerth 19 fun r => { r with ducked := false }).berths[19].ducked = false) := by
  refine ⟨?_, by decide +kernel⟩
  apply governingLaw_of <;> decide +kernel

/-- A cycle start that is a tick and one that is none, berth 19 with its timer running and, in DUCKING of an EMERGENCY,
held; an acceptance of QA that changes the effective level, and a cycle start without one. -/
theorem witness_CycleBlocks :
    let s := { governed with timer := { Timer.initial with divider := 999, qa := { accepted := false, run := 7 } } }
    let held := s.modChannel 0 fun ch => { ch with cls := some .emergency }
    (1000 ≤ s.timer.divider + 1 ∧ s.mgmt.mode = .service ∧ GoverningLaw s ∧ s.berths[19].presence = .present ∧
        s.berths[19].awake ≠ .asleep ∧ ¬ UnderEmergency s 19) ∧
      (GoverningLaw held ∧ UnderEmergency held 19) ∧ live.timer.divider + 1 < 1000 ∧
      (s.openCycle 1 { quietLines with qa := true }).effectiveQA ≠ s.effectiveQA ∧
      (live.openCycle 1 quietLines).effectiveQA = live.effectiveQA := by
  refine ⟨⟨by decide, rfl, ?_, rfl, by decide +kernel, ?_⟩, ⟨?_, 0, by decide +kernel, by decide +kernel⟩,
    by decide +kernel, by decide +kernel, by decide +kernel⟩
  · apply governingLaw_of <;> decide +kernel
  · unfold UnderEmergency
    decide +kernel
  · apply governingLaw_of <;> decide +kernel

/-- The block of cycle 12 held, the block of cycle 13 not, a stream heard and not heard; the states of a channel. -/
theorem witness_PlayoutRule :
    (let s := got (exec (.programAudio own (audioPayload 1 12 0x11)) tuned)
     s.streams[6].kind = some .programAudio ∧ s.streams[6].ring = some 4 ∧
       (s.rings[4][ringSlot 12]).map Prod.fst = some 12 ∧ s.rings[4][ringSlot 13] = none ∧
       s.berths[19].presence = .present ∧ s.berths[19].audio = some 6 ∧ s.mgmt.mode = .service) ∧
      live.channels[1].state = .idle ∧
      ((governed.modChannel 0 fun ch => { ch with lead := 2 }).channels[0].lead = 2) ∧
      (let s := playing.modChannel 0 fun ch => { ch with lastSeq := some 99, stall := 198 }
       s.channels[0].state = .playing ∧ cycleDistance 99 s.channels[0].nextSeq < 0 ∧ s.channels[0].stall < 199) ∧
      (playing (SpeechRing.empty.set 100 (some (100, SpeechBlock.silent)))).channels[0].ring[speechSlot 100] =
        some (100, SpeechBlock.silent) ∧
      playing.channels[0].ring[speechSlot 100] = none ∧ governed.channels[0].lead ≤ 1 ∧
      199 ≤ (playing.modChannel 0 fun ch => { ch with stall := 199 }).channels[0].stall := by decide +kernel

theorem witness_MixRule :
    governed.mgmt.mode = .service ∧ governed.berths[19].presence = .present ∧ governed.berths[20].presence ≠ .present ∧
      State.reset.mgmt.mode ≠ .service := by decide +kernel

/-- A head that is in time and does not fit, a sent and a late entry, an empty and a full wait count. -/
theorem witness_QueueServed :
    let q := [entry 1 2999 1440, entry 1 3001 1440, entry 17 3040 1200]
    let r := serveQueue 3001 q 1449
    r.late = [entry 1 2999 1440] ∧ r.sent = [entry 1 3001 1440] ∧ r.rest = [entry 17 3040 1200] ∧ r.budget = 1 ∧
      (15 ≤ 15 ∧ q ≠ []) := by decide

/-- A chain whose priority queue comes first and one whose program queue does; an entry sent that another chain keeps,
and one that none keeps. -/
theorem witness_QueueServed_assembly :
    let ch := fun w => { Chain.initial true with program := [entry 17 3040 1200], wait := w }
    (ch 3).wait < (ch 3).ratio ∧ (ch 4).ratio ≤ (ch 4).wait ∧
      ((ch 3).assemble 3001).sent = [entry 17 3040 1200] ∧
      (let s := fun r => { live with store := live.store.set 17 (some { bytes := [1], stream := 11, due := 3040, refs := r }) }
       ((s 2).store[17]).map Segment.refs = some 2 ∧ ((s 1).store[17]).map Segment.refs = some 1 ∧ live.store[18] = none) :=
  by decide +kernel

/-- A chain DOWN, a chain with a waiting frame, a chain with a busy line, an idle chain; with one open window and with
none. -/
theorem witness_FrameSending :
    let f : ChainFrame := live.frameOf 2 1
    let down := live.modChain 2 fun ch => { ch with link := false }
    let late := live.modChain 2 fun ch => { ch with line := some f, waiting := some f }
    let busy := live.modChain 2 fun ch => { ch with line := some f }
    live.held = none ∧ down.chains[2].link = false ∧
      (late.chains[2].enabled = true ∧ late.chains[2].link = true ∧ late.chains[2].waiting = some f ∧
        late.chains[2].line ≠ none) ∧
      (busy.chains[2].enabled = true ∧ busy.chains[2].link = true ∧ busy.chains[2].waiting = none ∧
        busy.chains[2].line ≠ none) ∧
      live.chains[2].line = none ∧ live.chains[2].waiting = none ∧ live.chains[2].windows = [] ∧
      (windowed late 2).chains[2].windows.length = 1 ∧ (windowed live 2).chains[2].windows ≠ [] ∧
      900 ≤ (cycling 0).timer.sinceStart + 900 := by decide +kernel

/-- Seven segments, of which the fourth has three before it; a frame with a query and one without. -/
theorem witness_FrameBytesRule :
    let x : VideoItem := { stream := 11, due := 3, bytes := List.replicate 1440 1 }
    let f := { live.frameOf 2 1 with video := List.replicate 7 x }
    videoSize f.video = 7 * 1448 ∧ videoSize f.video < 65536 ∧
      f.video = List.replicate 3 x ++ x :: List.replicate 3 x ∧ f.query = none ∧
      ({ f with query := some { token := 3, query := ask 3 } } : ChainFrame).query ≠ none := by decide +kernel

/-- The longest parcel, and a run of bytes that is a parcel. -/
theorem witness_ParcelRoundTrip :
    (List.replicate 1472 (0 : Byte)).length ≤ 1472 ∧
      readParcel true (parcelBytes (forwarded 1)) = some (forwarded 1) := by decide +kernel

theorem witness_EntryRoundTrip :
    (60 ≤ live.mgmt.settings.threshold ∧ live.mgmt.settings.threshold ≤ 125) ∧
      (live.chains[5].budget ≤ 10752 ∧ 1 ≤ live.chains[5].ratio ∧ live.chains[5].ratio ≤ 15) ∧
      (live.berths[47].idle ≤ 1023 ∧ live.berths[47].ap ≤ 256 ∧ live.berths[47].ad ≤ 256) := by decide +kernel

/-- An open window, a valid and a bad slot. -/
theorem witness_WindowCloses :
    (windowed live 2).held = none ∧ (windowed live 2).chains[2].windows ≠ [] ∧
      ValidSlot (onlySlot 3 (slotWith 1 9 0 2 7))[3] ∧ ¬ ValidSlot (onlySlot 3 (slotWith 1 9 0 2 7))[4] ∧
      ¬ ValidSlot (some (Vector.replicate 22 0)) := by
  refine ⟨rfl, by decide +kernel, ⟨slotWith 1 9 0 2 7, by decide +kernel, by decide +kernel, by decide +kernel⟩, ?_, ?_⟩
  · have e : (onlySlot 3 (slotWith 1 9 0 2 7))[4] = none := by decide +kernel
    rintro ⟨v, h, -⟩
    rw [e] at h
    cases h
  · rintro ⟨v, h, m, -⟩
    obtain rfl := Option.some.inj h
    exact absurd m (by decide +kernel)

/-- A chain with one open window, and a chain with a second one as the lowest such chain. -/
theorem witness_WindowCloses_superseded :
    let w : Window := { cycle := 8, judges := true }
    let s := (windowed live 1).modChain 2 fun ch => { ch with windows := [w, w] }
    s.held = none ∧ s.chains[2].windows.length = 2 ∧ (∀ c < (2 : ChainIx), s.chains[c].windows.length ≤ 1) ∧
      s.chains[1].windows ≠ [] ∧ ∀ c : ChainIx, (windowed live 1).chains[c].windows.length ≤ 1 := by decide +kernel

/-- A placed query before its second and before its eighth window, one not placed, and none. -/
theorem witness_WindowCloses_waited :
    let s := fun w placed => live.modChain 2 fun ch => { ch with
      inFlight := some { query := ask 3, token := 2, placed := placed, waited := w } }
    ((s 1 true).chains[2].inFlight).map (fun q => (q.placed, q.waited)) = some (true, 1) ∧
      ((s 7 true).chains[2].inFlight).map (fun q => (q.placed, q.waited)) = some (true, 7) ∧
      ((s 0 false).chains[2].inFlight).map (fun q => q.placed) = some false ∧ live.chains[2].inFlight = none ∧
      (windowed live 2).chains[2].windows = { cycle := 7, judges := true } :: [] := by decide +kernel

/-- A return of berth 19 (chain 2, position 3) with headphone, a CALL key, an unknown key and token 14. -/
def returned : ReturnData :=
  { headphone := true, unitFault := true, key1 := 9, key2 := 0x3F, token := 14, answer := Vector.replicate 16 7 }

/-- A live berth that calls and answers its placed query; the same in CONFIGURATION; a foreign token; no token. -/
theorem witness_ReturnTaken :
    let s := (seat live 19).modChain 2 fun ch => { ch with
      inFlight := some { query := ask 3, token := 14, placed := true, waited := 1 } }
    berthAt 2 3 = 19 ∧ s.berths[berthAt 2 3].presence = .present ∧ s.mgmt.mode = .service ∧ returned.key1 = 9 ∧
      berthAt 2 3 ∉ s.calls ∧ (s.chains[2].inFlight).map (fun q => (q.placed, q.query.pos, q.token)) = some (true, 3, 14) ∧
      returned.token ≠ 0 ∧ returned.token.toNat = 14 ∧ (seat State.reset 19).mgmt.mode = .configuration ∧
      (seat State.reset 19).berths[19].presence = .present ∧ live.chains[2].inFlight = none ∧
      s.berths[berthAt 2 3].unitFault = false := by decide +kernel

/-- The presences at which a result of a window acts, each at the edges of its run. -/
theorem witness_ReturnTaken_presence :
    let b := berthAt 2 3
    let joining := fun n : Nat => live.modBerth b fun r => { r with presence := .joining, validRun := n }
    let missed := fun n : Nat => (seat live 19).modBerth b fun r => { r with missingRun := n }
    live.berths[b].presence = .absent ∧
      ((joining 2).berths[b].presence = .joining ∧ (joining 2).berths[b].validRun < 3 ∧
        3 ≤ (joining 3).berths[b].validRun) ∧
      (missed 15).berths[b].presence = .present ∧ (missed 14).berths[b].missingRun < 15 ∧
      15 ≤ (missed 15).berths[b].missingRun := by decide +kernel

/-- R29, R30: TOUCH wakes a sleeping berth and zeroes its idle seconds, CALL leaves both, and neither touches the rest. -/
theorem test_key_wakes :
    let s := seat live 3 fun r => { r with awake := .asleep, idle := 7, headphone := true, missingRun := 2 }
    s.keyed .touch s.berths[3] = { s.berths[3] with awake := .awake, idle := 0 } ∧
      s.keyed .call s.berths[3] = s.berths[3] := by decide +kernel

/-- A sleeping and a waking berth, keys that wake and that do not, the codes next to the listed ones; a selection that
is a choice. -/
theorem witness_KeyRules :
    keyOf 0 = none ∧ keyOf 1 = some .volumeUp ∧ keyOf 9 = some .call ∧ keyOf 10 = none ∧
    sleeper.berths[13].presence = .present ∧ sleeper.berths[13].awake = .asleep ∧ (seat live 3).berths[3].awake ≠ .asleep ∧
      (∀ v, sleeper.berths[13].audio = some v →
        sleeper.streams[v].kind = some .programAudio ∧ sleeper.berths[13].config.allowed.getLsbD v.val = true) ∧
      stepNext (sleeper.choices .programAudio sleeper.berths[13].config.allowed) (some 7) = none := by decide +kernel

/-- A JOINING berth before its fourth valid return, in SERVICE and in CONFIGURATION. -/
theorem witness_BerthJoins :
    let join := fun s : State => s.modBerth 19 fun r => { r with presence := .joining, validRun := 3 }
    ((join live).held = none ∧ (join live).berths[19].presence = .joining ∧ (join live).berths[19].validRun = 3 ∧
      (join live).mgmt.mode = .service ∧ (join State.reset).mgmt.mode = .configuration) ∧ GoverningLaw (join live) := by
  refine ⟨by decide +kernel, ?_⟩
  apply governingLaw_of <;> decide +kernel

/-- A governed PRESENT berth before its sixteenth missing return, with a query in flight for it and for another. -/
theorem witness_BerthLeaves :
    let s := governed.modBerth 19 fun r => { r with missingRun := 15 }
    let asked := fun p => s.modChain 2 fun ch => { ch with
      inFlight := some { query := ask p, token := 2, placed := true, waited := 0 } }
    (s.held = none ∧ s.berths[19].presence = .present ∧ s.berths[19].missingRun = 15) ∧ GoverningLaw s ∧
      ((asked 3).chains[chainOf 19].inFlight).map (fun q => q.query.pos) = some (posOf 19) ∧
      ((asked 5).chains[chainOf 19].inFlight).map (fun q => q.query.pos) ≠ some (posOf 19) := by
  refine ⟨by decide +kernel, ?_, by decide +kernel, by decide +kernel⟩
  apply governingLaw_of <;> decide +kernel

/-- A chain UP and enabled, with berth 19 PRESENT and called and berth 20 JOINING; a chain with no berth PRESENT. -/
theorem witness_ChainLinkRows :
    let s := State.modBerth { seat live 19 with calls := [19] } 20 fun r => { r with presence := .joining, validRun := 1 }
    (s.held = none ∧ s.chains[2].link = true ∧ s.chains[2].enabled = true ∧
      s.berths[berthAt 2 3].presence = .present ∧ s.berths[berthAt 2 4].presence = .joining ∧
      ∀ p : PosIx, s.berths[berthAt 1 p].presence ≠ .present) ∧ CallLaw s := by
  unfold CallLaw
  decide +kernel

/-- A query that has waited 7 windows, with an empty queue and with a next query for a PRESENT berth. -/
theorem witness_QueryUnanswered :
    let q : InFlight := { query := ask 5, token := 15, placed := true, waited := 7 }
    let r : QueryResult := { chain := 2, pos := 3, code := 0x21, outcome := .noAnswer, answer := none }
    let s := fun qs => (seat live 19).modChain 2 fun ch => { ch with inFlight := some q, queries := qs, results := [r, r] }
    (s []).held = none ∧ (s []).chains[2].inFlight = some q ∧ q.placed = true ∧ q.waited = 7 ∧
      (s []).chains[2].queries = [] ∧ (s [ask 3]).chains[2].queries = ask 3 :: [] ∧
      (s [ask 3]).chains[2].results.length < 3 ∧ (s [ask 3]).berths[berthAt 2 (ask 3).pos].presence = .present := by
  decide +kernel

/-- Both ports, both kinds that pass, a queue of 8 and of 7, an idle transmitter. -/
theorem witness_PortArrivals :
    let n := fun k => { sharing with up := { sharing.up with queue := List.replicate k (forwarded 1) } }
    live.held = none ∧ (forwarded 1).kind = .reply ∧ 8 ≤ (n 8).up.queue.length ∧ (n 7).up.queue.length < 8 ∧
      (n 7).up.sending ≠ none ∧ (live.up.sending = none ∧ live.up.slot = none ∧ live.up.queue = []) ∧
      Parcel.kind { forwarded 1 with kind := .cycleMark } ≠ .reply := by decide +kernel

/-- Queues of 16 and of 15, a link UP and DOWN, an idle and a busy transmitter. -/
theorem witness_ThroughPortRules :
    let t := fun k => { ThroughPort.initial true with
      queue := List.replicate k (forwarded 1), sending := some (forwarded 2) }
    (ThroughPort.initial false).link = false ∧ (t 16).link = true ∧ 16 ≤ (t 16).queue.length ∧
      (t 15).queue.length < 16 ∧ (t 15).sending ≠ none ∧
      ((ThroughPort.initial true).sending = none ∧ (ThroughPort.initial true).queue = []) ∧
      State.held { live with thru := t 1 } = none ∧ (t 1).queue = forwarded 1 :: [] := by decide +kernel

/-- A forwarded parcel and a reply on the line, with both sources waiting; the reply of a RESTART. -/
theorem witness_UpstreamSendRule :
    sharing.held = none ∧ sharing.up.sending = some (.forward (forwarded 0)) ∧ sharing.up.slot = some madeReply ∧
      sharing.up.lastServed = .forward ∧ sharing.up.queue = forwarded 1 :: [forwarded 2] ∧
      Reply.restart { madeReply with restart := true } = true ∧ madeReply.restart = false ∧
      UpstreamPort.lastServed { sharing.up with lastServed := .reply } = .reply := by decide +kernel

/-- Every group, the four ranges that a body may name, and the largest reply. -/
theorem witness_ReadingCommands :
    groupOf 1 0 = .ok .portU ∧ groupOf 2 0 = .ok .portT ∧ groupOf 3 31 = .ok (.stream 31) ∧
      groupOf 4 1 = .ok (.channel 1) ∧ groupOf 5 5 = .ok (.chain 5) ∧ groupOf 6 0 = .ok .part ∧
      (let r : ReadRange := { table := .zone, code := 2, first := 15, count := 1 }
       tableOf r.code = some r.table ∧ r.first.toNat + r.count.toNat ≤ r.table.entries ∧ [r, r, r, r].length ≤ 4 ∧
         3 + ([r, r, r, r].map fun x => 3 + x.count.toNat * x.table.readSize).sum ≤ 1472) := by decide +kernel

/-- The codes next to the listed ones, and a body of the wrong length. -/
theorem witness_CommandRefused :
    ((0 : Byte) = 0 ∨ 0x14#8 < (0 : Byte)) ∧ ((0x15 : Byte) = 0 ∨ 0x14#8 < (0x15 : Byte)) ∧
      (Instr.identify own [0], 0x01#8, 0) = (Instr.identify own [0], 0x01#8, 0) ∧ [(0 : Byte)].length ≠ 0 ∧
      Addressed live own :=
  ⟨by decide, by decide, rfl, by decide, Or.inl rfl⟩

theorem witness_CommandAddressing : live.held = none ∧ ¬ Addressed live other :=
  ⟨rfl, witness_Addressed.2.2.2⟩

/-- Codes 0 and 9, a range that ends outside and one that starts outside, an invalid second entry, an oversize read. -/
theorem witness_TableRefusals :
    (8 < (9 : Byte).toNat ∧ tableOf 1 = some .berth ∧ Table.berth.loadable = true ∧ Table.berth.entries = 48) ∧
      (Table.berth.entries < (47 : Byte).toNat + (2 : Byte).toNat ∧ Table.berth.entries < (200 : Byte).toNat + (1 : Byte).toNat) ∧
      (let good : List Byte := [3, 3, 0, 0, 0, 0, 0xFF, 0xFF, 0xFF, 15]
       let bad : List Byte := [4, 0, 0, 0, 0, 0, 0, 0, 0, 0]
       (good ++ bad).length = (2 : Byte).toNat * Table.berth.loadSize ∧
         entryGood .berth (((good ++ bad).drop (0 * 10)).take 10) = true ∧
         entryGood .berth (((good ++ bad).drop (1 * 10)).take 10) = false ∧
         (46 : Byte).toNat + (2 : Byte).toNat ≤ Table.berth.entries) ∧
      (([1, 0, 44, 0] : List Byte).length ∉ [3, 6, 9, 12]) ∧
      (let zones : ReadRange := { table := .zone, code := 2, first := 0, count := 16 }
       let few : ReadRange := { table := .stream, code := 7, first := 200, count := 0 }
       let all : ReadRange := { table := .berth, code := 1, first := 0, count := 48 }
       let straddling : ReadRange := { table := .chain, code := 5, first := 5, count := 2 }
       let beyond : ReadRange := { table := .channel, code := 8, first := 7, count := 1 }
       let inside := fun x : ReadRange => x.count = 0 ∨ x.first.toNat + x.count.toNat ≤ x.table.entries
       let size := fun rs : List ReadRange => 3 + (rs.map fun x => 3 + x.count.toNat * x.table.readSize).sum
       (∀ x ∈ [zones, few, all, straddling, beyond], tableOf x.code = some x.table) ∧ (∀ x ∈ [zones, few, all], inside x) ∧
         ¬ inside straddling ∧ ¬ inside beyond ∧ max straddling.table.entries straddling.first.toNat = 6 ∧
         max beyond.table.entries beyond.first.toNat = 7 ∧ 1472 < size [all] ∧ 1472 < size [few, zones, all] ∧
         [straddling, zones].length + [beyond].length < 4) ∧
      (6 < (7 : Byte).toNat ∧ 32 ≤ (32 : Byte).toNat ∧ 2 ≤ (2 : Byte).toNat ∧ 6 ≤ (6 : Byte).toNat) := by decide +kernel

/-- R168: each field at the last value of its range, and one past it. -/
theorem test_entry_ranges :
    let berth := fun p q stop audio video level : Byte => entryGood .berth [p, q, 0, 0, 0, 0, stop, audio, video, level]
    let set := fun level idle : Nat =>
      beBytes 1 level ++ [15, 15, 15, 255] ++ beBytes 2 1023 ++ beBytes 2 idle
    let profile := fun level idle : Nat => entryGood .profile (set 15 1023 ++ set level idle)
    (berth 3 3 0x3F 0x1F 0xFF 15 = true ∧ berth 4 0 0 0 0 0 = false ∧ berth 0 4 0 0 0 0 = false ∧
        berth 0 0 0x40 0 0 0 = false ∧ berth 0 0 0xFE 0 0 0 = false ∧ berth 0 0 0 0x20 0 0 = false ∧
        berth 0 0 0 0 0xFE 0 = false ∧ berth 0 0 0 0 0 16 = false) ∧
      (profile 15 1023 = true ∧ profile 16 0 = false ∧ profile 0 1024 = false) ∧
      (entryGood .cls [1, 0, 255, 15, 255] = true ∧ entryGood .cls [1, 1, 0, 0, 0] = false ∧
        entryGood .cls [0, 0, 0, 16, 0] = false) ∧
      (entryGood .chain (1 :: List.replicate 10 0xFF) = true ∧ entryGood .chain (2 :: List.replicate 10 0) = false) ∧
      (entryGood .settings [255, 255, 255, 255, 255, 2, 2, 255, 255, 255] = true ∧
        entryGood .settings [0, 60, 0, 0, 0, 0, 3, 0, 0, 0] = false) := by decide +kernel

/-- Good and bad entries of each loaded table, at the edges of their ranges (CallLaw: `witness_ChainLinkRows`). -/
theorem witness_LoadEntriesRule :
    ((List.replicate 90 (0 : Byte)).length = (15 : Byte).toNat * 6 ∧ (1 : Byte).toNat + (15 : Byte).toNat ≤ 16 ∧
      (1 : Byte) ≠ 0) ∧
      (entryGood .berth [3, 2, 0xFF, 0xFF, 0xFF, 0xFF, 63, 31, 0xFF, 15] = true ∧
        entryGood .berth [0, 0, 0, 0, 0, 0, 64, 0, 0, 0] = false ∧
        (berthConfigOf [3, 2, 0xFF, 0xFF, 0xFF, 0xFF, 63, 31, 0xFF, 15]).quietSource ≠ live.berths[0].config.quietSource ∧
        (berthConfigOf [3, 2, 0xFF, 0xFF, 0xFF, 0xFF, 63, 31, 0xFF, 15]).profile ≠ live.berths[0].config.profile) ∧
      ((byteAt ([0, 0x2A, 0x01, 16, 0, 0, 0, 0, 0, 0, 0] : List Byte) 0).toNat < 2 ∧ live.chains[0].enabled = true) ∧
      (entryGood .profile (settingsBytes .day ++ settingsBytes .night) = true ∧
        (settingsBytes .day ++ settingsBytes .night).length = 18 ∧ live.berths[0].config.profile = 0) ∧
      (entryGood .cls [1, 0, 4, 15, 255] = true ∧ (classEntryOf [1, 0, 4, 15, 255]).duckTarget ≠ live.classes[1].duckTarget ∧
        (classEntryOf [0, 32, 4, 15, 255]).duckTarget = live.classes[1].duckTarget) ∧
      ((byteAt ([4, 90, 7, 0xFF, 0xFF, 2, 1, 0, 0, 0] : List Byte) 5).toNat < 3 ∧ live.faults.overheat = false ∧
        (FaultMonitor.initial 100 true).overheat = true) ∧
      (let two : List Byte := [1, 1, 2, 3, 0, 0, 0, 0, 0, 0, 0] ++ [0, 1, 2, 3, 0, 0, 0, 0, 0, 0, 0]
       tableOf 5 = some .chain ∧ Table.chain.loadable = true ∧ two.length = (2 : Byte).toNat * Table.chain.loadSize ∧
         (4 : Byte).toNat + (2 : Byte).toNat ≤ Table.chain.entries ∧
         ∀ j < (2 : Byte).toNat, entryGood .chain ((two.drop (j * 11)).take 11) = true) := by decide +kernel

/-- Stream numbers 31 and 32, kinds 3 and 4, a stream that is open; the pool with all rings owned and with some free. -/
theorem witness_StreamCommands :
    (32 ≤ (32 : Byte).toNat ∧ 3 < (4 : Byte).toNat ∧ (3 : Byte).toNat ≤ 3 ∧ tuned.streams[6].kind ≠ none ∧
      live.streams[31].kind = none) ∧
      (let full := { live with streams := Vector.ofFn fun v : Fin 32 => if h : v.val < 16 then
          { StreamEntry.initial with kind := some .programAudio, ring := some ⟨v.val, h⟩, presented := .silence }
          else StreamEntry.initial }
       (∀ r : RingIx, ∃ w : StreamIx, full.streams[w].ring = some r) ∧ full.streams[20].kind = none) ∧
      ((∀ w : StreamIx, live.streams[w].ring ≠ some 0) ∧ live.streams[0].kind = none) := by decide +kernel

/-- Both modes, indices 47 and 48, an ABSENT and a PRESENT berth, a good selection and one with a bad first field. -/
theorem witness_BerthCommands :
    State.reset.mgmt.mode = .configuration ∧ live.mgmt.mode = .service ∧ 48 ≤ (48 : Byte).toNat ∧
      live.berths[47].presence ≠ .present ∧ (seat live 47).berths[47].presence = .present ∧
      (let fields : List Byte := [16, 15, 15, 15, 255, 3, 255, 4, 0]
       fields.length = 9 ∧ settingsFieldGood fields 0 = false ∧ settingsFieldGood fields 6 = false ∧
         ∀ i : Fin 7, (0x3E : Byte).getLsbD i.val = true → settingsFieldGood fields i = true) := by decide +kernel

theorem witness_ClearingCommands :
    live.up.counts = .zero ∧ live.thru.counts = .zero ∧
    groupOf 3 31 = .ok (.stream 31) ∧ Group.stream 31 ≠ .portU ∧ Group.stream 31 ≠ .portT ∧
      (List.replicate 6 (0xFF : Byte)).length = 6 := by decide +kernel

/-- R15: a raised flag holds the program in SERVICE alone, and not when it is masked. -/
theorem test_program_hold :
    let hot := fun s : State =>
      { s with faults := { s.faults with flags := { FaultBits.clear with overheat := true } } }
    let masked := fun s : State => { s with mgmt := { s.mgmt with
      settings := { s.mgmt.settings with faultMask := { FaultBits.clear with overheat := true } } } }
    (hot live).programHold = true ∧ (masked (hot live)).programHold = false ∧ (hot State.reset).programHold = false ∧
      live.programHold = false := by decide +kernel

/-- Every mode with and without a strap fault, a PRESENT and an ABSENT berth, a busy channel that governs. -/
theorem witness_ModeCommands :
    GoverningLaw governed ∧ governed.mgmt.mode = .service ∧ governed.channels[0].state ≠ .idle ∧
      live.mgmt.mode = .service ∧ State.reset.mgmt.mode = .configuration ∧ State.reset.node.fault = false ∧
      (Node.ofStraps 7).fault = true ∧ (seat State.reset 3).berths[3].presence = .present ∧
      State.reset.berths[3].presence ≠ .present :=
  ⟨governed_law, by decide +kernel⟩

/-- Chains 5 and 6, positions 7 and 8, 4 and 3 queued queries, a query in flight and none, both kinds of target. -/
theorem witness_QueryCommands :
    let s := fun n => live.modChain 5 fun ch => { ch with queries := List.replicate n (ask 7) }
    6 ≤ (6 : Byte).toNat ∧ (5 : Byte).toNat < 6 ∧ 8 ≤ (8 : Byte).toNat ∧ (7 : Byte).toNat = (7 : Fin 8).val ∧
      4 ≤ (s 4).chains[5].queries.length ∧ (s 3).chains[5].queries.length < 4 ∧
      ((s 1).modChain 5 fun ch => { ch with
        inFlight := some { query := ask 7, token := 1, placed := false, waited := 0 } }).chains[5].inFlight ≠ none ∧
      (live.chains[5].inFlight = none ∧ live.chains[5].queries = [] ∧ live.chains[5].results.length < 4) ∧
      (seat live 47).berths[berthAt 5 7].presence = .present ∧ live.berths[berthAt 5 7].presence ≠ .present := by
  decide +kernel

/-- A reply that is placed; and a reply that is not wanted, that finds the slot occupied, or that a RESTART awaits. -/
theorem witness_RestartRule :
    (live.held = none ∧ own.target = live.node.address ∧ replyWanted own = true ∧ live.up.slot = none ∧
      live.mgmt.restartPending = false) ∧ everyone.target ≠ live.node.address ∧ sharing.up.slot ≠ none := by
  decide +kernel

/-! ### One state that meets every law -/

/-- A SAFETY announcement in LEAD, next sequence 100, with the block of sequence 355 in slot 99. -/
def livelyChannel : Channel :=
  { Channel.initial with
    state := .lead, cls := some .safety, lead := 255, reach := BitVec.allOnes 48, nextSeq := 100
    ring := SpeechRing.empty.set 99 (some (355, SpeechBlock.silent)) }

/-- A part in full service: stream 6 on ring 4 with a block 15 cycles ahead; berth 19 PRESENT, listening, governed and
called; a SAFETY announcement in LEAD; a segment in slot 17 queued on chain 0; a query in flight on chain 2 and one
queued; both ports sending with parcels queued; MARK LOSS raised. -/
def lively : State :=
  let s := (tuned.modBerth 19 fun r => { r with governing := some 0, ducked := true, ad := 32, ap := 45, missingRun := 15 })
  let s := s.modChannel 0 fun _ => livelyChannel
  let s := s.modChain 0 fun ch => { ch with program := [entry 17 3040 1200] }
  let s := s.modChain 2 fun ch => { ch with
    inFlight := some { query := ask 3, token := 15, placed := true, waited := 7 }, queries := [ask 3], nextToken := 1 }
  { s with
    rings := s.rings.set 4 (Ring.empty.set 12 (some (12, ProgramBlock.silent)))
    store := s.store.set 17 (some { bytes := List.replicate 1200 1, stream := 11, due := 3040, refs := 1 })
    calls := [19]
    timer := { s.timer with missedRun := 50, divider := 999 }
    faults := { s.faults with flags := { FaultBits.clear with markLoss := true } }
    up := sharing.up
    thru := { ThroughPort.initial true with sending := some (forwarded 1), queue := [forwarded 2] } }

theorem lively_steps : step lively = .next lively.idle := rfl

theorem witness_PresenceLawKept : PresenceLaw lively ∧ step lively = .next lively.idle := by
  refine ⟨?_, lively_steps⟩
  have h : ∀ b : BerthIx,
      (lively.berths[b].presence = .absent ∧ lively.berths[b].awake = .asleep ∧ lively.berths[b].idle = 0 ∧
        lively.berths[b].governing = none ∧ lively.berths[b].ducked = false ∧ lively.berths[b].ap = 0 ∧
        lively.berths[b].ad = 256 ∧ lively.berths[b].validRun = 0 ∧ lively.berths[b].missingRun = 0 ∧
        lively.berths[b].headphone = false ∧ lively.berths[b].unitFault = false) ∨
      (lively.berths[b].presence = .present ∧ lively.berths[b].validRun = 0 ∧ lively.berths[b].missingRun ≤ 15) := by
    decide +kernel
  intro b
  unfold Berth.PresenceLaw Berth.Resting
  rcases h b with ⟨p, h⟩ | ⟨p, h⟩ <;> rw [p]
  · exact ⟨⟨h.1, h.2.1, h.2.2.1, h.2.2.2.1, h.2.2.2.2.1, h.2.2.2.2.2.1⟩, h.2.2.2.2.2.2⟩
  · exact h

theorem witness_CallLawKept : CallLaw lively ∧ step lively = .next lively.idle := by
  refine ⟨?_, lively_steps⟩
  unfold CallLaw
  decide +kernel

theorem witness_SelectionAndRegimeLawsKept :
    SelectionLaw lively ∧ RegimeLaw lively ∧ step lively = .next lively.idle := by
  refine ⟨?_, ?_, lively_steps⟩
  · unfold SelectionLaw
    decide +kernel
  · unfold RegimeLaw NightUnder
    decide +kernel

theorem witness_RingLawKept : RingLaw lively ∧ step lively = .next lively.idle := by
  refine ⟨⟨by decide +kernel, by decide +kernel, by decide +kernel, ?_, by decide +kernel⟩, lively_steps⟩
  have h : ∀ (r : RingIx) (i : Fin 16), ∀ x ∈ (lively.rings[r][i]).toList,
      i.val = x.1.toNat % 16 ∧ 1 ≤ cycleDistance x.1 lively.timer.cycle ∧ cycleDistance x.1 lively.timer.cycle ≤ 15 := by
    decide +kernel
  intro r i d blk e
  exact h r i (d, blk) (by rw [e]; exact List.mem_singleton.2 rfl)

theorem witness_ChannelLawKept : ChannelLaw lively ∧ step lively = .next lively.idle := by
  refine ⟨fun a => ?_, lively_steps⟩
  match a with
  | 0 =>
    have e : lively.channels[(0 : ChannelIx)] = livelyChannel := rfl
    rw [e]
    refine ⟨fun h => absurd h (by decide), by decide, by decide, by decide, by decide, by decide, fun i q blk h => ?_⟩
    by_cases k : (99 : Fin 256) = i
    · subst k
      have h' : some ((355 : Word16), SpeechBlock.silent) = some (q, blk) := h
      obtain ⟨rfl, rfl⟩ := Prod.mk.inj (Option.some.inj h')
      exact ⟨by decide, by decide, nofun⟩
    · have n : livelyChannel.ring[i] = none := by
        have u : livelyChannel.ring = SpeechRing.empty.set 99 (some (355, SpeechBlock.silent)) := rfl
        rw [u, Fin.getElem_fin]
        exact (Vector.getElem_set_ne (by decide) i.isLt fun x => k (Fin.ext x)).trans (Vector.getElem_replicate _)
      rw [n] at h
      cases h
  | 1 =>
    have e : lively.channels[(1 : ChannelIx)] = Channel.initial := rfl
    rw [e]
    have n : ∀ i : Fin 256, Channel.initial.ring[i] = none := fun i => Vector.getElem_replicate _
    refine ⟨fun _ => ⟨rfl, rfl, rfl, rfl, rfl, rfl, rfl, rfl, n⟩, by decide, by decide, by decide, by decide, by decide,
      fun i q blk h => ?_⟩
    rw [n] at h
    cases h

theorem witness_GoverningLawKept : GoverningLaw lively ∧ step lively = .next lively.idle := by
  refine ⟨?_, lively_steps⟩
  apply governingLaw_of <;> decide +kernel

theorem witness_StoreLawKept : StoreLaw lively ∧ CapacityLaw lively ∧ step lively = .next lively.idle := by
  refine ⟨?_, by unfold CapacityLaw; decide +kernel, lively_steps⟩
  have h : ∀ i : Fin 256, (lively.store[i] = none ∧ slotReferences lively i = 0) ∨
      ∃ g ∈ (lively.store[i]).toList, slotReferences lively i = g.refs ∧ 1 ≤ g.refs ∧ g.refs ≤ 6 := by decide +kernel
  intro i
  rcases h i with ⟨e, h⟩ | ⟨g, m, h⟩
  · rw [e]
    exact h
  · rw [Option.mem_toList.1 m]
    exact h

theorem witness_StoppedChainLawKept :
    let s := lively.modChain 5 fun ch => { ch with link := false }
    StoppedChainLaw s ∧ step s = .next s.idle := by
  refine ⟨?_, rfl⟩
  unfold StoppedChainLaw
  decide +kernel

/-- A part in CONFIGURATION with a PRESENT berth and an open stream. -/
theorem witness_ConfigurationLawKept :
    let s := { tuned with mgmt := Management.initial }
    ConfigurationLaw s ∧ s.mgmt.mode = .configuration ∧ step s = .next s.idle := by
  refine ⟨?_, rfl, rfl⟩
  unfold ConfigurationLaw
  decide +kernel

theorem witness_QueryLawKept :
    (QueryLaw lively ∧ step lively = .next lively.idle) ∧
      WindowLaw (windowed lively 2) ∧ step (windowed lively 2) = .next (windowed lively 2).idle := by
  refine ⟨⟨?_, lively_steps⟩, by unfold WindowLaw; decide +kernel, rfl⟩
  have h : ∀ c : ChainIx, lively.chains[c].queries.length ≤ 4 ∧
      lively.chains[c].results.length + (if lively.chains[c].inFlight.isSome then 1 else 0) ≤ 4 ∧
      1 ≤ lively.chains[c].nextToken ∧ lively.chains[c].nextToken ≤ 15 ∧
      (∀ q ∈ (lively.chains[c].inFlight).toList, 1 ≤ q.token ∧ q.token ≤ 15 ∧ q.waited < 8) ∧
      (lively.chains[c].queries ≠ [] → lively.chains[c].inFlight.isSome = true ∨ lively.chains[c].results.length = 4) := by
    decide +kernel
  intro c
  obtain ⟨h1, h2, h3, h4, h5, h6⟩ := h c
  exact ⟨h1, h2, h3, h4, fun q e => h5 q (Option.mem_toList.2 e), h6⟩

theorem witness_PortLawKept : PortLaw lively ∧ step lively = .next lively.idle := by
  refine ⟨?_, lively_steps⟩
  unfold PortLaw
  decide +kernel

theorem witness_RangeLawKept :
    RangeLaw lively ∧ FaultLaw lively ∧ GainsLaw lively ∧ step lively = .next lively.idle := by
  refine ⟨?_, ?_, ?_, lively_steps⟩
  · unfold RangeLaw
    decide +kernel
  · unfold FaultLaw
    decide +kernel
  · unfold GainsLaw
    decide +kernel

end Sys2Proof.Tests
end

section
/-! PROOF. The cycle timer and the fault monitor: what each operation of ch. 1 writes into them, and what time that passes
makes of them. -/

namespace Sys2Proof.Machine

/-! ### The fault flags (R11 to R14) -/

@[simp] theorem State.raiseMarkLoss_faults (s : State) : s.raiseMarkLoss.faults =
    { s.faults with flags := { s.faults.flags with markLoss := true } } := by
  unfold State.raiseMarkLoss
  split
  · next h => rw [← h]
  · rfl

@[simp] theorem State.raiseMarkLoss_counts (s : State) : s.raiseMarkLoss.counts =
    { s.counts with markLossRaises :=
        if s.faults.flags.markLoss then s.counts.markLossRaises else bump s.counts.markLossRaises } := by
  unfold State.raiseMarkLoss
  split
  · rfl
  · rfl

@[simp] theorem State.raiseOverheat_faults (s : State) : s.raiseOverheat.faults =
    { s.faults with flags := { s.faults.flags with overheat := true } } := by
  unfold State.raiseOverheat
  split
  · next h => rw [← h]
  · rfl

@[simp] theorem State.raiseOverheat_counts (s : State) : s.raiseOverheat.counts =
    { s.counts with overheatRaises :=
        if s.faults.flags.overheat then s.counts.overheatRaises else bump s.counts.overheatRaises } := by
  unfold State.raiseOverheat
  split
  · rfl
  · rfl

@[simp] theorem State.raiseBackboneDown_faults (s : State) : s.raiseBackboneDown.faults =
    { s.faults with flags := { s.faults.flags with backboneDown := true } } := by
  unfold State.raiseBackboneDown
  split
  · next h => rw [← h]
  · rfl

@[simp] theorem State.raiseBackboneDown_counts (s : State) : s.raiseBackboneDown.counts =
    { s.counts with backboneDownRaises :=
        if s.faults.flags.backboneDown then s.counts.backboneDownRaises else bump s.counts.backboneDownRaises } := by
  unfold State.raiseBackboneDown
  split
  · rfl
  · rfl

@[simp] theorem State.backboneFails_faults (s : State) : s.backboneFails.faults =
    { s.faults with backboneDown := true, flags := { s.faults.flags with backboneDown := true } } := by
  simp only [State.backboneFails, State.raiseBackboneDown_faults, State.modFaults_faults]

@[simp] theorem State.backboneFails_counts (s : State) : s.backboneFails.counts =
    { s.counts with backboneDownRaises :=
        if s.faults.flags.backboneDown then s.counts.backboneDownRaises else bump s.counts.backboneDownRaises } := by
  simp only [State.backboneFails, State.raiseBackboneDown_counts, State.modFaults_faults, State.modFaults_counts]

/-- A state that differs from another at most in its timer, fault monitor and part counts, written out. -/
theorem Same.eq_monitor {s t : State} (h : Same [.timer, .faults, .counts] s t) :
    t = { s with timer := t.timer, faults := t.faults, counts := t.counts } := by
  obtain ⟨h1, h2, -, -, h5, -, h7, h8, h9, h10, h11, h12, h13, h14, h15, h16, h17, h18, h19, h20, h21, h22⟩ := h
  cases s
  cases t
  simp_all

/-- R12: the missed-mark run after one more mark was missed. -/
@[simp] theorem State.missMark_timer (s : State) :
    s.missMark.timer = { s.timer with missedRun := min 65535 (s.timer.missedRun + 1) } := by
  unfold State.missMark
  split
  · exact (State.raiseMarkLoss_same _).timer (by decide)
  · rfl

@[simp] theorem State.missMark_faults (s : State) : s.missMark.faults =
    { s.faults with flags :=
        { s.faults.flags with markLoss := s.faults.flags.markLoss || decide (s.timer.missedRun = 49) } } := by
  unfold State.missMark
  split
  · next h => simp [h]
  · next h => simp [h]

@[simp] theorem State.missMark_counts (s : State) : s.missMark.counts =
    { s.counts with markLossRaises :=
        if s.timer.missedRun = 49 ∧ s.faults.flags.markLoss = false then bump s.counts.markLossRaises
        else s.counts.markLossRaises } := by
  unfold State.missMark
  split
  · next h => cases hf : s.faults.flags.markLoss <;> simp [h, hf]
  · next h => simp [h]

/-- R13: whether OVERHEAT holds after it was judged on the reading `v`. -/
def State.hotAt (s : State) (v : Int) : Bool :=
  overheatAfter s.mgmt.settings.threshold s.faults.overheat v

@[simp] theorem State.judgeOverheat_faults (s : State) : s.judgeOverheat.faults =
    { s.faults with
      overheat := s.hotAt s.faults.temperature
      flags := { s.faults.flags with overheat :=
        s.faults.flags.overheat || (s.hotAt s.faults.temperature && !s.faults.overheat) } } := by
  unfold State.judgeOverheat State.hotAt
  dsimp only
  split
  · next h => simp [h]
  · next h => simp [h]

@[simp] theorem State.judgeOverheat_counts (s : State) : s.judgeOverheat.counts =
    { s.counts with
      overheatRaises :=
        if s.faults.flags.overheat = false ∧ (s.hotAt s.faults.temperature && !s.faults.overheat) = true
        then bump s.counts.overheatRaises else s.counts.overheatRaises } := by
  unfold State.judgeOverheat State.hotAt
  dsimp only
  split
  · next h => cases hf : s.faults.flags.overheat <;> simp [h, hf]
  · next h => simp [h]

@[simp] theorem State.readTemperature_faults (s : State) (v : Int) : (s.readTemperature v).faults =
    { s.faults with
      temperature := clampReading v
      overheat := s.hotAt (clampReading v)
      flags := { s.faults.flags with overheat :=
        s.faults.flags.overheat || (s.hotAt (clampReading v) && !s.faults.overheat) } } := by
  simp [State.readTemperature, State.hotAt]

@[simp] theorem State.readTemperature_counts (s : State) (v : Int) : (s.readTemperature v).counts =
    { s.counts with
      overheatRaises :=
        if s.faults.flags.overheat = false ∧ (s.hotAt (clampReading v) && !s.faults.overheat) = true
        then bump s.counts.overheatRaises else s.counts.overheatRaises } := by
  simp [State.readTemperature, State.hotAt]

/-! ### The start of a cycle (R1, R8, R9) -/

/-- R1, R8, R9: the timer at the start of cycle `n`. -/
@[simp] theorem State.runCycle_timer (s : State) (n : Word16) (k : Bool) (l : LineSample) :
    (s.runCycle n k l).timer = { s.timer with
      cycle := n, sinceStart := 0, divider := dividerAfter s.timer.divider
      qa := sampled s.timer.qa l.qa, qb := sampled s.timer.qb l.qb } := by
  have cond : ∀ (c : Prop) [Decidable c] (x y : State), y.timer = x.timer → (if c then y else x).timer = x.timer := by
    intro c _ x y h
    split
    · exact h
    · rfl
  unfold State.runCycle
  dsimp only
  rw [(State.cycleWork_same _ _ _ _ _ _ _).timer (by decide), cond, cond, cond]
  · rfl
  · rfl
  · exact (State.readTemperature_same _ _).timer (by decide)
  · exact (State.emptyRings_same _).timer (by decide)

/-- R10, R13: the fault monitor at the start of a cycle, which reads the sensor at a seconds tick. -/
@[simp] theorem State.runCycle_faults (s : State) (n : Word16) (k : Bool) (l : LineSample) :
    (s.runCycle n k l).faults =
      if tickDue s.timer.divider then (s.readTemperature l.sensor).faults else s.faults := by
  unfold State.runCycle
  dsimp only
  rw [(State.cycleWork_same _ _ _ _ _ _ _).faults (by decide)]
  have hr : ∀ (c : Prop) [Decidable c] (x : State), (if c then x.emptyRings else x).faults = x.faults := by
    intro c _ x
    split
    · exact (State.emptyRings_same _).faults (by decide)
    · rfl
  rw [hr]
  split
  · rw [State.readTemperature_faults, State.readTemperature_faults]
    split
    · rfl
    · rfl
  · split
    · rfl
    · rfl

@[simp] theorem State.startCycle_timer (s : State) (n : Word16) (k : Bool) (l : LineSample) :
    (s.startCycle n k l).timer = (s.runCycle n k l).timer :=
  (State.closeAllSuperseded_same _ _).timer (by decide)

@[simp] theorem State.startCycle_faults (s : State) (n : Word16) (k : Bool) (l : LineSample) :
    (s.startCycle n k l).faults = (s.runCycle n k l).faults :=
  (State.closeAllSuperseded_same _ _).faults (by decide)

@[simp] theorem State.startCycle_counts (s : State) (n : Word16) (k : Bool) (l : LineSample) :
    (s.startCycle n k l).counts = (s.runCycle n k l).counts :=
  (State.closeAllSuperseded_same _ _).counts (by decide)

/-- A cycle start keeps the running period without a signal and the BACKBONE DOWN condition (R14). -/
theorem State.startCycle_signal (s : State) (n : Word16) (k : Bool) (l : LineSample) :
    (s.startCycle n k l).faults.noSignal = s.faults.noSignal ∧
      (s.startCycle n k l).faults.backboneDown = s.faults.backboneDown ∧
      (s.startCycle n k l).faults.flags.backboneDown = s.faults.flags.backboneDown ∧
      (s.startCycle n k l).faults.flags.markLoss = s.faults.flags.markLoss := by
  rw [State.startCycle_faults, State.runCycle_faults]
  split
  · simp
  · simp

/-- R4: the timer after a self-start. -/
theorem State.selfStart_timer (s : State) (l : LineSample) : (s.selfStart l).timer = { s.timer with
      cycle := s.timer.cycle + 1, sinceStart := 0, missedRun := min 65535 (s.timer.missedRun + 1)
      divider := dividerAfter s.timer.divider
      qa := sampled s.timer.qa l.qa, qb := sampled s.timer.qb l.qb } := by
  simp [State.selfStart, State.successor]

/-- A self-start keeps the running period without a signal and the BACKBONE DOWN condition (R14), and raises MARK LOSS
where it brings the run to 50 (R12). -/
theorem State.selfStart_signal (s : State) (l : LineSample) :
    (s.selfStart l).faults.noSignal = s.faults.noSignal ∧
      (s.selfStart l).faults.backboneDown = s.faults.backboneDown ∧
      (s.selfStart l).faults.flags.backboneDown = s.faults.flags.backboneDown ∧
      (s.selfStart l).faults.flags.markLoss = (s.faults.flags.markLoss || decide (s.timer.missedRun = 49)) := by
  unfold State.selfStart
  dsimp only
  obtain ⟨h1, h2, h3, h4⟩ := State.startCycle_signal
    (s.missMark.countPart fun k => { k with selfStarts := bump k.selfStarts }) s.successor false l
  exact ⟨h1.trans (by simp), h2.trans (by simp), h3.trans (by simp), h4.trans (by simp)⟩

/-! ### Time (R4, R14) -/

@[simp] theorem State.advanceTime_timer (s : State) (d : Nat) :
    (s.advanceTime d).timer = { s.timer with sinceStart := s.timer.sinceStart + d } := rfl

@[simp] theorem State.advanceTime_faults (s : State) (d : Nat) :
    (s.advanceTime d).faults = { s.faults with noSignal := s.faults.noSignal.map fun t => min signalLimit (t + d) } :=
  rfl

@[simp] theorem State.advanceTime_counts (s : State) (d : Nat) : (s.advanceTime d).counts = s.counts := rfl

/-- The part of the timer that counts cycles and missed marks, with the time since the last cycle start. -/
structure Clock where
  cycle      : Word16
  sinceStart : Nat
  missedRun  : Nat

/-- The clock of a state. -/
def State.clock (s : State) : Clock :=
  { cycle := s.timer.cycle, sinceStart := s.timer.sinceStart, missedRun := s.timer.missedRun }

/-- R4: the clock after a self-start. -/
def Clock.restarted (k : Clock) : Clock :=
  { cycle := k.cycle + 1, sinceStart := 0, missedRun := min 65535 (k.missedRun + 1) }

/-- A free ordering drawn (log 4). -/
def State.drawn (s : State) : State := { s with draws := s.draws + 1 }

@[simp] theorem State.drawn_timer (s : State) : s.drawn.timer = s.timer := rfl

@[simp] theorem State.drawn_faults (s : State) : s.drawn.faults = s.faults := rfl

/-- R4, R14: what can be taken at a moment, with what has fallen due at it. -/
theorem State.takeDue_cases (s : State) :
    (s.signalLimitReached = false ∧ s.selfStartDue = false ∧ s.takeDue = s) ∨
    (s.signalLimitReached = true ∧ s.selfStartDue = false ∧ s.takeDue = s.backboneFails) ∨
    (s.signalLimitReached = false ∧ s.selfStartDue = true ∧ s.takeDue = s.selfStart s.lineSample) ∨
    (s.signalLimitReached = true ∧ s.selfStartDue = true ∧
      (s.takeDue = s.drawn.backboneFails.selfStart s.lineSample ∨
        s.takeDue = (s.drawn.selfStart s.lineSample).backboneFails)) := by
  have pins : s.drawn.backboneFails.lineSample = s.lineSample := by
    unfold State.lineSample
    rw [(State.backboneFails_same _).pins (by decide)]
    rfl
  cases h1 : s.signalLimitReached <;> cases h2 : s.selfStartDue <;> rw [State.takeDue, h1, h2]
  · exact .inl ⟨rfl, rfl, rfl⟩
  · exact .inr (.inr (.inl ⟨rfl, rfl, rfl⟩))
  · exact .inr (.inl ⟨rfl, rfl, rfl⟩)
  · refine .inr (.inr (.inr ⟨rfl, rfl, ?_⟩))
    dsimp only
    split
    · exact .inl (congrArg _ pins)
    · exact .inr rfl

/-- R4: whether a self-start is due. -/
theorem State.selfStartDue_iff (s : State) : s.selfStartDue = true ↔ selfStartTime ≤ s.timer.sinceStart :=
  decide_eq_true_iff

/-- R4: what is due restarts the clock exactly when 1.1 ms have passed, in whatever order with BACKBONE DOWN. -/
theorem State.takeDue_clock (s : State) :
    s.takeDue.clock = if selfStartTime ≤ s.timer.sinceStart then s.clock.restarted else s.clock := by
  have fails : ∀ x : State, x.backboneFails.clock = x.clock := by
    intro x
    unfold State.clock
    rw [(State.backboneFails_same x).timer (by decide)]
  have starts : ∀ (x : State) (l : LineSample), (x.selfStart l).clock = x.clock.restarted := by
    intro x l
    rw [State.clock, State.selfStart_timer]
    rfl
  have iff := s.selfStartDue_iff
  obtain ⟨-, h, e⟩ | ⟨-, h, e⟩ | ⟨-, h, e⟩ | ⟨-, h, e | e⟩ := s.takeDue_cases <;> rw [h] at iff <;> rw [e]
  · rw [if_neg (by simpa using iff)]
  · rw [if_neg (by simpa using iff), fails]
  · rw [if_pos (by simpa using iff), starts]
  · rw [if_pos (by simpa using iff), starts, fails]
    rfl
  · rw [if_pos (by simpa using iff), fails, starts]
    rfl

/-- R14: what is due makes BACKBONE DOWN hold exactly when a period has reached its limit, in whatever order with a
self-start; the period itself runs on. -/
theorem State.takeDue_noSignal (s : State) :
    s.takeDue.faults.noSignal = s.faults.noSignal ∧
      s.takeDue.faults.backboneDown = (s.faults.backboneDown || s.signalLimitReached) ∧
      s.takeDue.faults.flags.backboneDown = (s.faults.flags.backboneDown || s.signalLimitReached) := by
  obtain ⟨h, -, e⟩ | ⟨h, -, e⟩ | ⟨h, -, e⟩ | ⟨h, -, e | e⟩ := s.takeDue_cases <;> rw [h, e]
  · simp
  · simp
  · obtain ⟨h1, h2, h3, -⟩ := State.selfStart_signal s s.lineSample
    simp [h1, h2, h3]
  · obtain ⟨h1, h2, h3, -⟩ := State.selfStart_signal s.drawn.backboneFails s.lineSample
    simp [h1, h2, h3]
  · obtain ⟨h1, -, -, -⟩ := State.selfStart_signal s.drawn s.lineSample
    simp [h1]

/-- The time since the last cycle start after what is due was taken (R4). -/
theorem State.takeDue_sinceStart (s : State) :
    s.takeDue.timer.sinceStart = if selfStartTime ≤ s.timer.sinceStart then 0 else s.timer.sinceStart := by
  have h := congrArg Clock.sinceStart s.takeDue_clock
  rw [apply_ite Clock.sinceStart] at h
  exact h

/-- R14: whether BACKBONE DOWN can still fall due: a period without a signal runs and the condition does not hold. -/
def State.awaitsDown (s : State) : Bool := s.faults.noSignal.isSome && !s.faults.backboneDown

/-- How many moments fall due strictly within the next `d` microseconds, at most: one BACKBONE DOWN, the self-start that
the running cycle lacks, and one more for each whole 1.1 ms after it. -/
def State.moments (s : State) (d : Nat) : Nat :=
  (d + min selfStartTime s.timer.sinceStart - 1) / selfStartTime + s.awaitsDown.toNat

/-- At the next moment a self-start is due, or BACKBONE DOWN is and was awaited. -/
theorem State.untilDue_reached (s : State) :
    (s.untilDue = selfStartTime - s.timer.sinceStart ∨
      s.untilDue < selfStartTime - s.timer.sinceStart ∧ s.awaitsDown = true ∧
        (s.advanceTime s.untilDue).signalLimitReached = true) := by
  unfold State.untilDue State.awaitsDown State.signalLimitReached
  cases hn : s.faults.noSignal with
  | none => exact .inl rfl
  | some x =>
    cases hb : s.faults.backboneDown with
    | true => exact .inl rfl
    | false =>
      rcases Nat.lt_or_ge (signalLimit - x) (selfStartTime - s.timer.sinceStart) with hlt | hge
      · refine .inr ⟨by simp only [Bool.false_eq_true, if_false]; omega, rfl, ?_⟩
        simp [hn, hb]
        omega
      · exact .inl (by simpa using hge)

/-- A moment within the next `d` microseconds is one of those counted, and the rest come after it. -/
theorem State.moments_due {s : State} {d : Nat} (h : s.untilDue < d) :
    (s.advanceTime s.untilDue).takeDue.moments (d - s.untilDue) < s.moments d := by
  have hs := State.takeDue_sinceStart (s.advanceTime s.untilDue)
  obtain ⟨h1, h2, -⟩ := State.takeDue_noSignal (s.advanceTime s.untilDue)
  have ha : (s.advanceTime s.untilDue).takeDue.awaitsDown =
      (s.awaitsDown && !(s.advanceTime s.untilDue).signalLimitReached) := by
    unfold State.awaitsDown
    rw [h1, h2, State.advanceTime_faults, Option.isSome_map, Bool.not_or, Bool.and_assoc]
  have ht : (s.advanceTime s.untilDue).timer.sinceStart = s.timer.sinceStart + s.untilDue := rfl
  rw [ht] at hs
  unfold State.moments
  rw [hs, ha]
  unfold selfStartTime
  obtain hu | ⟨hu, hw, hl⟩ := s.untilDue_reached
  · have hw : (s.awaitsDown && !(s.advanceTime s.untilDue).signalLimitReached).toNat ≤ s.awaitsDown.toNat := by
      cases s.awaitsDown <;> simp [Bool.toNat_le]
    unfold selfStartTime at hu
    split <;> omega
  · rw [hw, hl]
    unfold selfStartTime at hu
    simp
    split <;> omega

/-- The fuel of `passTime` covers every moment. -/
theorem State.moments_fuel (s : State) (d : Nat) : s.moments d ≤ d / selfStartTime + 2 := by
  have h := s.awaitsDown.toNat_le
  unfold State.moments selfStartTime
  omega

/-- Fuel for every moment is as good as more. -/
theorem State.passFuel_enough {f g d : Nat} {s : State} (hf : s.moments d < f) (hg : s.moments d < g) :
    State.passFuel f d s = State.passFuel g d s := by
  induction f generalizing g d s with
  | zero => omega
  | succ f ih =>
    cases g with
    | zero => omega
    | succ g =>
      unfold State.passFuel
      split
      · next h =>
        have hm := State.moments_due h
        exact ih (by omega) (by omega)
      · rfl

/-- Time that passes the next due moment takes what falls due there, and the rest passes after it (R4, R14). -/
theorem State.passTime_due {s : State} {d : Nat} (h : s.untilDue < d) :
    s.passTime d = (s.advanceTime s.untilDue).takeDue.passTime (d - s.untilDue) := by
  have hm := State.moments_due h
  have hf := s.moments_fuel d
  rw [State.passTime, passFuel_due h]
  exact State.passFuel_enough (by omega) (Nat.lt_succ_of_le (State.moments_fuel _ _))

/-- Induction over the moments that fall due within a time: what holds of time that ends before the next one, and is
inherited from the time that is left after it, holds of all time. -/
theorem State.passTime_induction {P : State → Nat → Prop} (stop : ∀ s d, d ≤ s.untilDue → P s d)
    (due : ∀ s d, s.untilDue < d → P (s.advanceTime s.untilDue).takeDue (d - s.untilDue) → P s d)
    (s : State) (d : Nat) : P s d := by
  induction hm : s.moments d using Nat.strong_induction_on generalizing s d with
  | _ m ih =>
    rcases Nat.lt_or_ge s.untilDue d with h | h
    · exact due s d h (ih _ (hm ▸ State.moments_due h) _ _ rfl)
    · exact stop s d h

end Sys2Proof.Machine
end

section
/-! PROOF. What time that passes makes of the clocks: until the next self-start, through it, and over a period without a
signal. -/

namespace Sys2Proof.Machine

/-- Two states that differ from a third at most in timer, fault monitor and part counts are equal where these are. -/
theorem Same.ext_monitor {s t u : State} (ht : Same [.timer, .faults, .counts] s t)
    (hu : Same [.timer, .faults, .counts] s u) (h1 : t.timer = u.timer) (h2 : t.faults = u.faults)
    (h3 : t.counts = u.counts) : t = u := by
  rw [ht.eq_monitor, hu.eq_monitor, h1, h2, h3]

/-- R14: a period without a signal grows by the time that passes, up to its limit, whatever falls due. -/
theorem State.passTime_noSignal (s : State) (d : Nat) :
    (s.passTime d).faults.noSignal = s.faults.noSignal.map fun x => min signalLimit (x + d) := by
  induction s, d using State.passTime_induction with
  | stop s d h => rw [passTime_free h]; rfl
  | due s d h ih =>
    rw [State.passTime_due h, ih, (State.takeDue_noSignal _).1, State.advanceTime_faults, Option.map_map]
    refine congrFun (congrArg _ (funext fun x => ?_)) _
    dsimp only [Function.comp]
    omega

/-- R14: what has come to hold, with its flag raised, stays so while time passes. -/
theorem State.passTime_down_stays (s : State) (d : Nat) :
    (s.faults.backboneDown = true → (s.passTime d).faults.backboneDown = true) ∧
      (s.faults.flags.backboneDown = true → (s.passTime d).faults.flags.backboneDown = true) := by
  induction s, d using State.passTime_induction with
  | stop s d h => rw [passTime_free h]; exact ⟨id, id⟩
  | due s d h ih =>
    obtain ⟨-, h2, h3⟩ := State.takeDue_noSignal (s.advanceTime s.untilDue)
    rw [State.passTime_due h]
    exact ⟨fun hd => ih.1 (by rw [h2, State.advanceTime_faults, hd]; rfl),
      fun hf => ih.2 (by rw [h3, State.advanceTime_faults, hf]; rfl)⟩

/-- R14: when time that passes brings a period without a signal to its limit. -/
theorem State.advanceTime_limit {s : State} {x : Nat} (hn : s.faults.noSignal = some x)
    (hb : s.faults.backboneDown = false) (d : Nat) :
    (s.advanceTime d).signalLimitReached = decide (signalLimit ≤ x + d) := by
  rw [Bool.eq_iff_iff]
  simp [State.signalLimitReached, hn, hb]

/-- R14: an awaited BACKBONE DOWN bounds the time until the next moment. -/
theorem State.untilDue_awaited {s : State} {x : Nat} (hn : s.faults.noSignal = some x)
    (hb : s.faults.backboneDown = false) :
    s.untilDue = min (selfStartTime - s.timer.sinceStart) (signalLimit - x) := by
  simp [State.untilDue, hn, hb]

/-- R4: the next moment is no later than the next self-start. -/
theorem State.untilDue_le (s : State) : s.untilDue ≤ selfStartTime - s.timer.sinceStart := by
  obtain h | ⟨h, -⟩ := s.untilDue_reached
  · exact h.le
  · exact h.le

/-- R14: a period that reaches 10 ms before the end of the time that passes has raised BACKBONE DOWN. -/
theorem State.passTime_down {s : State} {d x : Nat} (hn : s.faults.noSignal = some x)
    (hb : s.faults.backboneDown = false) (hx : x ≤ signalLimit) (hd : signalLimit < x + d) :
    (s.passTime d).faults.backboneDown = true ∧ (s.passTime d).faults.flags.backboneDown = true := by
  induction s, d using State.passTime_induction generalizing x with
  | stop s d h =>
    have hu := State.untilDue_awaited hn hb
    omega
  | due s d h ih =>
    have hu := State.untilDue_awaited hn hb
    obtain ⟨h1, h2, h3⟩ := State.takeDue_noSignal (s.advanceTime s.untilDue)
    rw [State.passTime_due h]
    cases hl : (s.advanceTime s.untilDue).signalLimitReached with
    | true =>
      rw [hl, Bool.or_true] at h2 h3
      exact ⟨(State.passTime_down_stays _ _).1 h2, (State.passTime_down_stays _ _).2 h3⟩
    | false =>
      refine ih (x := x + s.untilDue) ?_ ?_ (by omega) (by omega)
      · rw [h1, State.advanceTime_faults, hn, Option.map_some, Nat.min_eq_right (by omega)]
      · rw [h2, hl, State.advanceTime_faults, hb]
        rfl

/-- R14: BACKBONE DOWN at the end of a time, with what falls due there: it holds when a period has reached 10 ms, and
not before. -/
theorem State.passTime_takeDue_down {s : State} {d x : Nat} (hn : s.faults.noSignal = some x)
    (hb : s.faults.backboneDown = false) :
    (x + d < signalLimit → (s.passTime d).takeDue.faults.backboneDown = false) ∧
      (signalLimit ≤ x + d → (s.passTime d).takeDue.faults.backboneDown = true ∧
        (s.passTime d).takeDue.faults.flags.backboneDown = true) := by
  induction s, d using State.passTime_induction generalizing x with
  | stop s d h =>
    obtain ⟨h1, h2, h3⟩ := State.takeDue_noSignal (s.advanceTime d)
    rw [passTime_free h, h2, h3, State.advanceTime_limit hn hb, State.advanceTime_faults]
    refine ⟨fun hlt => ?_, fun hge => ?_⟩
    · rw [decide_eq_false (Nat.not_le.2 hlt), hb]
      rfl
    · rw [decide_eq_true hge]
      simp
  | due s d h ih =>
    obtain ⟨h1, h2, h3⟩ := State.takeDue_noSignal (s.advanceTime s.untilDue)
    have hu := State.untilDue_awaited hn hb
    rw [State.passTime_due h]
    cases hl : (s.advanceTime s.untilDue).signalLimitReached with
    | true =>
      have hge : signalLimit ≤ x + s.untilDue := of_decide_eq_true (State.advanceTime_limit hn hb _ ▸ hl)
      rw [hl, Bool.or_true] at h2 h3
      have k1 := (State.passTime_down_stays _ (d - s.untilDue)).1 h2
      have k2 := (State.passTime_down_stays _ (d - s.untilDue)).2 h3
      obtain ⟨-, j2, j3⟩ := State.takeDue_noSignal ((s.advanceTime s.untilDue).takeDue.passTime (d - s.untilDue))
      rw [k1] at j2
      rw [k2] at j3
      exact ⟨fun hlt => by omega, fun _ => ⟨j2, j3⟩⟩
    | false =>
      have hlt : ¬ signalLimit ≤ x + s.untilDue := of_decide_eq_false (State.advanceTime_limit hn hb _ ▸ hl)
      have hih := ih (x := x + s.untilDue)
        (by rw [h1, State.advanceTime_faults, hn, Option.map_some, Nat.min_eq_right (by omega)])
        (by rw [h2, hl, State.advanceTime_faults, hb]; rfl)
      rwa [show x + s.untilDue + (d - s.untilDue) = x + d by omega] at hih

/-- R4: the clock at the end of a time of less than one cycle beyond the next self-start, with what falls due there. -/
theorem State.passTime_takeDue_clock {s : State} {d : Nat} (hs : s.timer.sinceStart ≤ selfStartTime)
    (hd : s.timer.sinceStart + d < 2 * selfStartTime) :
    (s.passTime d).takeDue.clock =
      if s.timer.sinceStart + d < selfStartTime then { s.clock with sinceStart := s.timer.sinceStart + d }
      else { s.clock.restarted with sinceStart := s.timer.sinceStart + d - selfStartTime } := by
  induction s, d using State.passTime_induction with
  | stop s d h =>
    have hu := s.untilDue_le
    rw [passTime_free h, State.takeDue_clock, State.advanceTime_timer]
    dsimp only
    split
    · rw [if_neg (by omega)]
      simp only [Clock.restarted, State.clock, State.advanceTime_timer, Clock.mk.injEq, true_and, and_true]
      omega
    · rw [if_pos (by omega)]
      rfl
  | due s d h ih =>
    have hu := s.untilDue_le
    have hc := State.takeDue_clock (s.advanceTime s.untilDue)
    have ht := State.takeDue_sinceStart (s.advanceTime s.untilDue)
    rw [State.advanceTime_timer] at hc ht
    dsimp only at hc ht
    rw [State.passTime_due h, ih (by rw [ht]; split <;> omega) (by rw [ht]; split <;> omega), hc, ht]
    split
    · rw [if_pos (by omega), if_neg (by omega)]
      simp only [Clock.restarted, State.clock, State.advanceTime_timer, Clock.mk.injEq, true_and, and_true]
      omega
    · next hlt =>
      rw [show s.timer.sinceStart + s.untilDue + (d - s.untilDue) = s.timer.sinceStart + d by omega]
      rfl

/-- R14: time within a period's limit and up to the next self-start passes freely. -/
theorem State.passTime_holds {s : State} {d : Nat} (hd : d ≤ selfStartTime - s.timer.sinceStart)
    (hs : SignalHolds s d) : s.passTime d = s.advanceTime d := by
  refine passTime_free ?_
  unfold State.untilDue
  cases hn : s.faults.noSignal with
  | none => exact hd
  | some x =>
    cases hb : s.faults.backboneDown with
    | true => exact hd
    | false =>
      have hx := hs x hn hb
      simp only [Bool.false_eq_true, if_false, signalLimit]
      omega

/-- R14: time that passes a period's limit, up to the next self-start, raises BACKBONE DOWN on the way. -/
theorem State.passTime_fails {s : State} {d x : Nat} (hd : d ≤ selfStartTime - s.timer.sinceStart)
    (hn : s.faults.noSignal = some x) (hb : s.faults.backboneDown = false) (hx : signalLimit < x + d) (h0 : 0 < d) :
    s.passTime d = (s.advanceTime d).backboneFails := by
  have hu := State.untilDue_awaited hn hb
  have hlt : s.untilDue < d := by omega
  have hlim : (s.advanceTime s.untilDue).signalLimitReached = true := by
    rw [State.advanceTime_limit hn hb]
    exact decide_eq_true (by omega)
  have hdue : (s.advanceTime s.untilDue).selfStartDue = false := by
    have h := (s.advanceTime s.untilDue).selfStartDue_iff
    simp only [State.advanceTime_timer] at h
    rw [← Bool.not_eq_true, h]
    omega
  rw [State.passTime_due hlt, takeDue_signal hlim hdue]
  have hfree : d - s.untilDue ≤ (s.advanceTime s.untilDue).backboneFails.untilDue := by
    unfold State.untilDue
    rw [State.backboneFails_faults, State.advanceTime_faults, hn,
      (State.backboneFails_same _).timer (by decide), State.advanceTime_timer]
    simp only [Option.map_some, if_true]
    omega
  have fails : ∀ (x : State), Same [.timer, .faults, .counts] x x.backboneFails := fun x =>
    (State.backboneFails_same x).widen (by decide)
  have runs : ∀ (x : State) (k : Nat), Same [.timer, .faults, .counts] x (x.advanceTime k) := fun x k =>
    (State.advanceTime_same x k).widen (by decide)
  rw [passTime_free hfree]
  refine Same.ext_monitor (((runs s _).trans (fails _)).trans (runs _ _)) ((runs s d).trans (fails _)) ?_ ?_ ?_
  · rw [State.advanceTime_timer, (State.backboneFails_same _).timer (by decide),
      (State.backboneFails_same _).timer (by decide), State.advanceTime_timer, State.advanceTime_timer]
    simp only [Nat.add_assoc, Nat.add_sub_cancel' hlt.le]
  · simp only [State.advanceTime_faults, State.backboneFails_faults, hn, Option.map_some, FaultMonitor.mk.injEq,
      Option.some.injEq, true_and, and_true]
    omega
  · rw [State.advanceTime_counts, State.backboneFails_counts, State.backboneFails_counts]
    rfl

/-- R4, R14: time up to the next self-start leaves everything but the time since the last cycle start, the fault monitor
and the part counts, and of these what `advanceTime` and a BACKBONE DOWN change. -/
theorem State.passTime_within {s : State} {d : Nat} (hd : d ≤ selfStartTime - s.timer.sinceStart) :
    s.passTime d = s.advanceTime d ∨ s.passTime d = (s.advanceTime d).backboneFails := by
  by_cases hs : SignalHolds s d
  · exact .inl (State.passTime_holds hd hs)
  · unfold SignalHolds at hs
    push Not at hs
    obtain ⟨x, hn, hb, hx⟩ := hs
    rcases Nat.eq_zero_or_pos d with rfl | h0
    · exact .inl (passTime_free (Nat.zero_le _))
    · exact .inr (State.passTime_fails hd hn hb hx h0)

/-- R4, R14: time up to the next self-start changes only timer, fault monitor and part counts. -/
theorem State.passTime_within_same {s : State} {d : Nat} (hd : d ≤ selfStartTime - s.timer.sinceStart) :
    Same [.timer, .faults, .counts] s (s.passTime d) := by
  have runs : Same [.timer, .faults, .counts] s (s.advanceTime d) := (State.advanceTime_same s d).widen (by decide)
  obtain e | e := State.passTime_within hd
  · exact e ▸ runs
  · exact e ▸ runs.trans ((State.backboneFails_same _).widen (by decide))

/-- R4: the time since the last cycle start, up to the next self-start. -/
theorem State.passTime_within_timer {s : State} {d : Nat} (hd : d ≤ selfStartTime - s.timer.sinceStart) :
    (s.passTime d).timer = { s.timer with sinceStart := s.timer.sinceStart + d } := by
  obtain e | e := State.passTime_within hd
  · rw [e]; rfl
  · rw [e, (State.backboneFails_same _).timer (by decide)]; rfl

/-- R4: time that reaches beyond the next self-start is the time up to it, what is due then, and the rest. -/
theorem State.passTime_split {s : State} {d : Nat} (hd : selfStartTime - s.timer.sinceStart < d) :
    s.passTime d = (s.passTime (selfStartTime - s.timer.sinceStart)).takeDue.passTime
      (d - (selfStartTime - s.timer.sinceStart)) := by
  obtain hu | ⟨hu, hw, hl⟩ := s.untilDue_reached
  · rw [State.passTime_due (hu ▸ hd), hu, passTime_free hu.ge]
  · have hdue : (s.advanceTime s.untilDue).selfStartDue = false := by
      have h := (s.advanceTime s.untilDue).selfStartDue_iff
      rw [State.advanceTime_timer] at h
      rw [← Bool.not_eq_true, h]
      dsimp only
      omega
    have hbt : (s.advanceTime s.untilDue).takeDue = (s.advanceTime s.untilDue).backboneFails :=
      takeDue_signal hl hdue
    have hnext : (s.advanceTime s.untilDue).takeDue.untilDue =
        selfStartTime - s.timer.sinceStart - s.untilDue := by
      rw [hbt]
      unfold State.untilDue
      rw [State.backboneFails_faults, State.advanceTime_faults, (State.backboneFails_same _).timer (by decide),
        State.advanceTime_timer]
      cases s.faults.noSignal with
      | none => exact (Nat.sub_sub _ _ _).symm
      | some x => exact (Nat.sub_sub _ _ _).symm
    rw [State.passTime_due (hu.trans hd), State.passTime_due hu, State.passTime_due (by omega), hnext,
      passTime_free hnext.ge]
    congr 1
    omega

end Sys2Proof.Machine
end

section
/-! PROOF. What a command can leave: the state that management leaves, the ports around it, and a reset (R146, R149,
R153, R166). The statements about every command go through these inversions. -/

namespace Sys2Proof.Machine

/-- What management can make of a state with a command: nothing, where it refuses or only reads, or the one effect of the
command. -/
inductive Manages (s : State) : Command → State → Prop
  | stays (c : Command) : Manages s c s
  | loads (t : Table) (first : Nat) (entries : List Byte) (count : Nat) (hz : ¬ (t = .zone ∧ first = 0)) :
      Manages s .loadEntries (s.loadAll t first entries count)
  | opensVideo (v : StreamIx) (k : StreamKind) : Manages s .openStream (s.openVideo v k)
  | opensAudio (v : StreamIx) (r : RingIx) : Manages s .openStream (s.openAudio v r)
  | closes (v : StreamIx) : Manages s .closeStream (s.closeStream v)
  | joins (b : BerthIx) : Manages s .resetBerth (s.modBerth b s.joined)
  | overlays (b : BerthIx) (selection : Byte) (x : Settings) :
      Manages s .setBerthActive (s.modBerth b fun r => { r with settings := overlaySettings selection r.settings x })
  | clearsGroup (g : Group) : Manages s .clearCounters (s.clearGroup g)
  | clearsAttention (named : BitVec 16) : Manages s .clearAttention (s.clearAttention named)
  | acknowledges (named : BitVec 48) : Manages s .acknowledgeCalls (s.acknowledge named)
  | clearsFaults : Manages s .clearFaults s.clearFaults
  | entersService : Manages s .enterService s.intoService
  | entersConfiguration : Manages s .enterConfiguration s.intoConfiguration
  | asks (c : ChainIx) (q : Query) :
      Manages s .berthQuery ((s.modChain c fun ch => { ch with queries := ch.queries ++ [q] }).startQueries c)
  | fetches (c : ChainIx) :
      Manages s .fetchQueryResults ((s.modChain c fun ch => { ch with results := [] }).startQueries c)
  | aborts (c : ChainIx) : Manages s .abortQueries (s.discardQueries c)

/-- What management yields for a command: a state that `Manages` lists, and an answer that asks for a reset only where
the command is RESTART (R166). -/
def Yields (s : State) (c : Command) (m : Managed) : Prop := Manages s c m.1 ∧ (m.2.restart = true → c = .restart)

theorem Yields.refused {s : State} {c : Command} {code : Byte} {v : Verdict} {d : Byte} :
    Yields s c (refuse s code v d) :=
  ⟨.stays c, fun h => absurd h (by simp [refuse])⟩

theorem Yields.accepted {s t : State} {c : Command} {code d : Byte} {body : List Byte} (h : Manages s c t) :
    Yields s c (accept t code d body) :=
  ⟨h, fun h => absurd h (by simp [accept])⟩

/-- A check of the body's length passes over to the rest, or refuses (R153). -/
theorem Yields.withLength {s : State} {c : Command} {code : Byte} {body : List Byte} {n : Nat} {f : Managed}
    (h : Yields s c f) : Yields s c (withLength s code body n f) := by
  unfold Machine.withLength
  split
  · exact h
  · exact .refused

theorem manageLoadEntries_yields (body : List Byte) (s : State) :
    Yields s .loadEntries (manageLoadEntries body s) := by
  unfold manageLoadEntries
  dsimp only
  split
  · exact .refused
  split
  · exact .refused
  split
  · exact .refused
  split
  · exact .refused
  split
  · exact .refused
  split
  · exact .refused
  next hz =>
    split
    · exact .refused
    · exact .accepted (.loads _ _ _ _ hz)

theorem manageReadEntries_yields (body : List Byte) (s : State) :
    Yields s .readEntries (manageReadEntries body s) := by
  unfold manageReadEntries
  split
  · exact .refused
  split
  · exact .refused
  split
  · exact .refused
  split
  · exact .refused
  · exact .accepted (.stays _)

theorem manageOpenStream_yields (body : List Byte) (s : State) :
    Yields s .openStream (manageOpenStream body s) := by
  refine .withLength ?_
  split
  · exact .refused
  · exact .refused
  · split
    · exact .refused
    · split
      · exact .accepted (.opensVideo _ _)
      · exact .accepted (.opensVideo _ _)
      · split
        · exact .refused
        · exact .accepted (.opensAudio _ _)

theorem manageCloseStream_yields (body : List Byte) (s : State) :
    Yields s .closeStream (manageCloseStream body s) := by
  refine .withLength ?_
  split
  · exact .refused
  · refine .accepted ?_
    split
    · exact .closes _
    · exact .stays _

theorem manageResetBerth_yields (body : List Byte) (s : State) :
    Yields s .resetBerth (manageResetBerth body s) := by
  refine .withLength ?_
  split
  · exact .refused
  · split
    · split
      · exact .accepted (.joins _)
      · exact .refused
    · exact .refused

theorem manageSetBerthActive_yields (body : List Byte) (s : State) :
    Yields s .setBerthActive (manageSetBerthActive body s) := by
  refine .withLength ?_
  split
  · exact .refused
  · split
    · split
      · exact .refused
      · split
        · exact .accepted (.overlays _ _ _)
        · exact .refused
    · exact .refused

theorem manageReadCounters_yields (body : List Byte) (s : State) :
    Yields s .readCounters (manageReadCounters body s) := by
  refine .withLength ?_
  split
  · exact .refused
  · exact .accepted (.stays _)

theorem manageClearCounters_yields (body : List Byte) (s : State) :
    Yields s .clearCounters (manageClearCounters body s) := by
  refine .withLength ?_
  split
  · exact .refused
  · exact .accepted (.clearsGroup _)

theorem manageEnterService_yields (body : List Byte) (s : State) :
    Yields s .enterService (manageEnterService body s) := by
  refine .withLength ?_
  split
  · exact .refused
  · split
    · exact .refused
    · exact .accepted (.entersService)

theorem manageEnterConfiguration_yields (body : List Byte) (s : State) :
    Yields s .enterConfiguration (manageEnterConfiguration body s) := by
  refine .withLength ?_
  split
  · exact .accepted (.entersConfiguration)
  · exact .refused

theorem manageBerthQuery_yields (body : List Byte) (s : State) :
    Yields s .berthQuery (manageBerthQuery body s) := by
  refine .withLength ?_
  split
  · split
    · split
      · exact .refused
      · exact .accepted (.asks _ _)
    · exact .refused
  · exact .refused

theorem manageFetchQueryResults_yields (body : List Byte) (s : State) :
    Yields s .fetchQueryResults (manageFetchQueryResults body s) := by
  refine .withLength ?_
  split
  · exact .accepted (.fetches _)
  · exact .refused

theorem manageAbortQueries_yields (body : List Byte) (s : State) :
    Yields s .abortQueries (manageAbortQueries body s) := by
  refine .withLength ?_
  split
  · exact .accepted (.aborts _)
  · exact .refused

/-- What management makes of a state with a command is one of what `Manages` lists. -/
theorem manageCommand_yields (c : Command) (body : List Byte) (s : State) : Yields s c (manageCommand c body s) := by
  cases c with
  | identify => exact .withLength (.accepted (.stays _))
  | loadEntries => exact manageLoadEntries_yields body s
  | readEntries => exact manageReadEntries_yields body s
  | openStream => exact manageOpenStream_yields body s
  | closeStream => exact manageCloseStream_yields body s
  | resetBerth => exact manageResetBerth_yields body s
  | setBerthActive => exact manageSetBerthActive_yields body s
  | readCounters => exact manageReadCounters_yields body s
  | clearCounters => exact manageClearCounters_yields body s
  | readAttention => exact .withLength (.accepted (.stays _))
  | clearAttention => exact .withLength (.accepted (.clearsAttention _))
  | readCalls => exact .withLength (.accepted (.stays _))
  | acknowledgeCalls => exact .withLength (.accepted (.acknowledges _))
  | clearFaults => exact .withLength (.accepted .clearsFaults)
  | enterService => exact manageEnterService_yields body s
  | enterConfiguration => exact manageEnterConfiguration_yields body s
  | berthQuery => exact manageBerthQuery_yields body s
  | fetchQueryResults => exact manageFetchQueryResults_yields body s
  | abortQueries => exact manageAbortQueries_yields body s
  | restart => exact .withLength ⟨.stays _, fun _ => rfl⟩

/-- R153: a COMMAND payload without a code, or whose code is none of 01h..14h, is refused. -/
theorem managePayload_refused {payload : List Byte}
    (h : ∀ code body, payload = code :: body → code = 0 ∨ 0x14#8 < code) (s : State) :
    (managePayload payload s).1 = s ∧ (managePayload payload s).2.restart = false := by
  have unlisted : ∀ code : Byte, code = 0 ∨ 0x14#8 < code → commandOf code = none := by decide
  cases payload with
  | nil => exact ⟨rfl, rfl⟩
  | cons code body =>
    rw [managePayload, unlisted code (h code body rfl)]
    exact ⟨rfl, rfl⟩

/-- What the part makes of a COMMAND parcel, from a state `s1` in which its ports have received and forwarded it, with
what management yields for it. -/
inductive Taken (s : State) (m : State → Managed) : State → Prop
  /-- forwarded alone, to another target -/
  | forwarded (t : State) (h : Same [.up, .thru] s t) : Taken s m t
  /-- executed, with a reply or without one, and no reset asked for -/
  | executed (s1 t : State) (h : Same [.up, .thru] s s1) (hr : (m s1).2.restart = false)
      (ht : Same [.up] (m s1).1 t) : Taken s m t
  /-- a reset asked for and made pending until its reply is sent -/
  | resetPending (s1 t : State) (h : Same [.up, .thru] s s1) (hr : (m s1).2.restart = true)
      (ht : Same [.up] (m s1).1 t) : Taken s m (t.modMgmt fun x => { x with restartPending := true })
  /-- a reset asked for and taken at once -/
  | reset (s1 t : State) (h : Same [.up, .thru] s s1) (hr : (m s1).2.restart = true)
      (ht : Same [.up] (m s1).1 t) : Taken s m t.resetNow

/-- R146, R149, R166: every COMMAND parcel is taken in one of the four ways that `Taken` lists. -/
theorem takeCommand_taken (s : State) (h : Header) (payload : List Byte) (m : State → Managed) :
    Taken s m (s.takeCommand h payload m) := by
  have received : Same [.up, .thru] s s.receivedU := (State.receivedU_same s).widen (by decide)
  have queued : Same [.up, .thru] s (s.receivedU.queueThrough (parcelOf .command h payload)) :=
    received.trans ((State.queueThrough_same _ _).widen (by decide))
  have unanswered : ∀ s1, Same [.up, .thru] s s1 → Taken s m ((m s1).1.withoutReply (m s1).2) := by
    intro s1 h1
    unfold State.withoutReply
    split
    · next hr => exact .reset s1 _ h1 hr (Same.refl _ _)
    · next hr => exact .executed s1 _ h1 (Bool.not_eq_true _ ▸ hr) (Same.refl _ _)
  by_cases hown : h.target = s.node.address
  · rw [takeCommand_own h payload m hown]
    split
    · unfold State.giveReply
      split
      · next hr =>
        split
        · exact .reset _ _ received hr (State.modUp_same _ _)
        · exact .resetPending _ _ received hr (State.modUp_same _ _)
      · next hr => exact .executed _ _ received (Bool.not_eq_true _ ▸ hr) (State.modUp_same _ _)
    · exact unanswered _ received
  · by_cases hall : h.target = 0xFF
    · rw [takeCommand_broadcast h payload m hown hall]
      exact unanswered _ queued
    · rw [takeCommand_other h payload m hown hall]
      exact .forwarded _ queued

/-! ### The frames of the rows that have an operation of their own -/

theorem State.acceptQuiet_same (s : State) (qa qb : Bool) :
    Same [.timer, .pins, .berths, .counts] s (s.acceptQuiet qa qb) :=
  (((same_set_timer s { s.timer with qa := eighthSample s.timer.qa qa, qb := eighthSample s.timer.qb qb }).widen
    (by decide)).trans ((same_set_pins _ { s.pins with qa := qa, qb := qb }).widen (by decide))).trans
    ((State.quietHandOver_same _ _ _).widen (by decide))

theorem State.setUpstreamLine_same (s : State) (x : Bool) : Same [.pins] s (s.setUpstreamLine x) :=
  same_set_pins s _

theorem State.setThroughLine_same (s : State) (x : Bool) : Same [.pins] s (s.setThroughLine x) :=
  same_set_pins s _

theorem State.setChainLine_same (s : State) (c : ChainIx) (x : Bool) : Same [.pins] s (s.setChainLine c x) :=
  same_set_pins s _

theorem State.signalLost_same (s : State) : Same [.pins, .faults] s s.signalLost :=
  ((State.setUpstreamLine_same s false).widen (by decide)).trans ((State.modFaults_same _ _).widen (by decide))

theorem State.chainLineLost_same (s : State) (c : ChainIx) :
    Same [.pins, .berths, .channels, .mgmt, .chains, .calls, .store] s (s.chainLineLost c) := by
  have h : Same [.pins, .berths, .channels, .mgmt, .chains, .calls, .store] s (s.setChainLine c false) :=
    (State.setChainLine_same s c false).widen (by decide)
  exact Same.ite (h.trans ((State.linkDown_same _ c).widen (by decide))) h

theorem State.chainLineBack_same (s : State) (c : ChainIx) : Same [.pins, .chains] s (s.chainLineBack c) :=
  ((State.setChainLine_same s c true).widen (by decide)).trans ((State.modChain_same _ _ _).widen (by decide))

theorem State.replyArrives_same (s : State) : Same [.up] s s.replyArrives :=
  (State.receivedU_same s).trans (State.countU_same _ _)

theorem State.dropFailed_same (s : State) (port : Port) (clean : Bool) (bytes : List Byte) :
    Same [.up, .thru] s (s.dropFailed port clean bytes) := by
  unfold State.dropFailed
  split
  · exact Same.refl _ _
  · exact (State.countU_same _ _).widen (by decide)
  · exact (State.countT_same _ _).widen (by decide)

theorem State.startCueTaken_same (q : CueBody) (s : State) : Same [.berths, .channels, .up] s (s.startCueTaken q) := by
  unfold State.startCueTaken
  split
  · exact Same.ite ((State.takeStart_same _ _ _ _).widen (by decide)) ((State.countU_same _ _).widen (by decide))
  · exact (State.countU_same _ _).widen (by decide)

theorem State.endCueTaken_same (q : CueBody) (s : State) : Same [.berths, .channels, .up] s (s.endCueTaken q) := by
  unfold State.endCueTaken
  split
  · exact (State.takeEnd_same _ _ _).widen (by decide)
  · exact (State.countU_same _ _).widen (by decide)

theorem State.cancelCueTaken_same (q : CueBody) (s : State) :
    Same [.berths, .channels, .up] s (s.cancelCueTaken q) := by
  unfold State.cancelCueTaken
  split
  · exact (State.takeCancel_same _ _).widen (by decide)
  · exact (State.countU_same _ _).widen (by decide)

theorem State.receivedThrough_same (s : State) (p : Parcel) : Same [.up, .thru] s (s.receivedU.queueThrough p) :=
  ((State.receivedU_same s).widen (by decide)).trans ((State.queueThrough_same _ p).widen (by decide))

/-! ### The rows -/

/-- The row of command `c`: its COMMAND parcel taken, with what management does with it. -/
def State.command (s : State) (h : Header) (c : Command) (body : List Byte) : State :=
  s.takeCommand h (commandCode c :: body) (manageCommand c body)

/-- What a row does to a part that takes its event, over all rows (`exec_eq`). -/
def effect (i : Instr) (s : State) : State :=
  match i with
  | .cycleMark h elapsed lines payload => (s.passTime elapsed).takeMarkParcel h lines payload
  | .selfStart lines => (s.passTime (selfStartTime - s.timer.sinceStart)).selfStart lines
  | .secondsTick sensor => if s.timer.divider = 999 then s.secondsTick sensor else s
  | .quietLineAccepted qa qb => s.acceptQuiet qa qb
  | .markLoss => if s.timer.missedRun = 49 then s.missMark else s
  | .backboneSignalLost => s.signalLost
  | .backboneDown => s.signalGone
  | .backboneSignalReturn => s.signalBack
  | .programAudio h payload => s.takeMedia (parcelOf .programAudio h payload) fun s => s.takeProgramAudio payload
  | .videoSegment h payload => s.takeMedia (parcelOf .videoSegment h payload) fun s => s.takeVideoSegment payload
  | .startCue h cue => s.takeMedia (parcelOf .announceCue h (cueBytes 0x01 cue)) (State.startCueTaken cue)
  | .endCue h cue => s.takeMedia (parcelOf .announceCue h (cueBytes 0x02 cue)) (State.endCueTaken cue)
  | .cancelCue h cue => s.takeMedia (parcelOf .announceCue h (cueBytes 0x03 cue)) (State.cancelCueTaken cue)
  | .leadExpiry a => if s.leadExpires a then s.countLead a else s
  | .announceStall a => if s.stallExpires a then s.presentGap a else s
  | .announceAudio h payload => s.takeMedia (parcelOf .announceAudio h payload) (State.takeAnnounceAudio payload)
  | .chainFrameComplete r => s.frameDone r
  | .returnWindowClose c slots => s.returnWindow c slots
  | .berthPresent b => if s.berths[b].presence = .joining ∧ 3 ≤ s.berths[b].validRun then s.becomePresent b else s
  | .berthAbsent b => if s.berths[b].presence = .present ∧ 15 ≤ s.berths[b].missingRun then s.enterAbsent b else s
  | .idleDim b => if s.dims s.berths[b] then s.modBerth b Berth.ticked else s
  | .idleSleep b => if s.sleeps s.berths[b] then s.modBerth b Berth.ticked else s
  | .noAnswer c => if s.chains[c].waitsLast then s.queryUnanswered c else s
  | .chainLinkDown c => s.chainLineLost c
  | .chainLinkUp c => s.chainLineBack c
  | .receiveCheckFailure port clean bytes => s.dropFailed port clean bytes
  | .wrongDirection _ _ => s.replyArrives
  | .forwardCommand h payload => s.takeCommand h payload (managePayload payload)
  | .throughArrival p => s.takeThrough p
  | .throughLinkDown => (s.setThroughLine false).modThru ThroughPort.down
  | .throughLinkUp => (s.setThroughLine true).modThru fun t => { t with link := true }
  | .throughSendComplete => s.modThru ThroughPort.sent
  | .upstreamSendComplete => s.upstreamSent
  | .unknownCommand h payload => s.takeCommand h payload (managePayload payload)
  | .identify h body => s.command h .identify body
  | .loadEntries h body => s.command h .loadEntries body
  | .readEntries h body => s.command h .readEntries body
  | .openStream h body => s.command h .openStream body
  | .closeStream h body => s.command h .closeStream body
  | .resetBerth h body => s.command h .resetBerth body
  | .setBerthActive h body => s.command h .setBerthActive body
  | .readCounters h body => s.command h .readCounters body
  | .clearCounters h body => s.command h .clearCounters body
  | .readAttention h body => s.command h .readAttention body
  | .clearAttention h body => s.command h .clearAttention body
  | .readCalls h body => s.command h .readCalls body
  | .acknowledgeCalls h body => s.command h .acknowledgeCalls body
  | .clearFaults h body => s.command h .clearFaults body
  | .enterService h body => s.command h .enterService body
  | .enterConfiguration h body => s.command h .enterConfiguration body
  | .berthQuery h body => s.command h .berthQuery body
  | .fetchQueryResults h body => s.command h .fetchQueryResults body
  | .abortQueries h body => s.command h .abortQueries body
  | .restart h body => s.command h .restart body
  | .powerOnReset => { s.resetNow with held := some .powerOn }
  | .resetPin => { s.resetNow with held := some .pin }
  | .endOfReset pins => { State.afterReset pins with pending := s.pending, draws := s.draws }
  | .cueBadPayload h payload => s.takeMedia (parcelOf .announceCue h payload) State.countBadPayload

/-- Whether a row begins or ends a reset: a part held in reset takes these alone (R166, log 6). -/
def resets (i : Instr) : Bool :=
  match i with
  | .powerOnReset => true
  | .resetPin => true
  | .endOfReset _ => true
  | _ => false

/-- Every row completes: with its effect where the part takes its event, and with no change where it is held in reset. -/
theorem exec_eq (i : Instr) (s : State) :
    exec i s = .next (if resets i || s.held.isNone then effect i s else s) := by
  cases i <;> rfl

end Sys2Proof.Machine
end

section
/-! PROOF. R11 over the whole machine: a raised fault flag stays raised through every command but those that clear flags
or can reset the part. -/

namespace Sys2Proof.Machine

/-- R11: each flag that is raised in `s` is raised in `t`. -/
def FlagsStay (s t : State) : Prop :=
  (s.faults.flags.markLoss = true → t.faults.flags.markLoss = true) ∧
  (s.faults.flags.overheat = true → t.faults.flags.overheat = true) ∧
  (s.faults.flags.backboneDown = true → t.faults.flags.backboneDown = true)

namespace FlagsStay

theorem refl (s : State) : FlagsStay s s := ⟨id, id, id⟩

theorem trans {s t u : State} (h : FlagsStay s t) (k : FlagsStay t u) : FlagsStay s u :=
  ⟨k.1 ∘ h.1, k.2.1 ∘ h.2.1, k.2.2 ∘ h.2.2⟩

theorem of_flags {s t : State} (h : t.faults.flags = s.faults.flags) : FlagsStay s t := by
  unfold FlagsStay
  rw [h]
  exact refl s

/-- An operation that does not write the fault monitor keeps every flag. -/
theorem of_same {fs : List StateField} {s t : State} (h : Same fs s t) (hf : StateField.faults ∉ fs) :
    FlagsStay s t :=
  of_flags (congrArg _ (h.faults hf))

theorem ite {s t u : State} {c : Prop} [Decidable c] (h : FlagsStay s t) (k : FlagsStay s u) :
    FlagsStay s (if c then t else u) := by
  split
  · exact h
  · exact k

theorem missMark (s : State) : FlagsStay s s.missMark := by
  simp +contextual [FlagsStay]

theorem judgeOverheat (s : State) : FlagsStay s s.judgeOverheat := by
  simp +contextual [FlagsStay]

theorem readTemperature (s : State) (v : Int) : FlagsStay s (s.readTemperature v) := by
  simp +contextual [FlagsStay]

theorem backboneFails (s : State) : FlagsStay s s.backboneFails := by
  simp +contextual [FlagsStay]

theorem startCycle (s : State) (n : Word16) (k : Bool) (l : LineSample) : FlagsStay s (s.startCycle n k l) := by
  have h := readTemperature s l.sensor
  unfold FlagsStay at h ⊢
  rw [State.startCycle_faults, State.runCycle_faults]
  split
  · exact h
  · exact refl s

theorem selfStart (s : State) (l : LineSample) : FlagsStay s (s.selfStart l) :=
  ((missMark s).trans (of_same (State.countPart_same _ _) (by decide))).trans (startCycle _ _ _ _)

theorem takeMark (s : State) (n : Word16) (l : LineSample) : FlagsStay s (s.takeMark n l) :=
  ite (((of_same (State.modTimer_same _ _) (by decide)).trans (of_same (State.countPart_same _ _) (by decide))).trans
    (startCycle _ _ _ _)) (of_same (State.countPart_same _ _) (by decide))

theorem advanceTime (s : State) (d : Nat) : FlagsStay s (s.advanceTime d) := of_flags rfl

theorem takeDue (s : State) : FlagsStay s s.takeDue := by
  have drawn : FlagsStay s s.drawn := of_flags rfl
  obtain ⟨-, -, e⟩ | ⟨-, -, e⟩ | ⟨-, -, e⟩ | ⟨-, -, e | e⟩ := s.takeDue_cases <;> rw [e]
  · exact refl s
  · exact backboneFails s
  · exact selfStart s _
  · exact (drawn.trans (backboneFails _)).trans (selfStart _ _)
  · exact (drawn.trans (selfStart _ _)).trans (backboneFails _)

theorem passTime (s : State) (d : Nat) : FlagsStay s (s.passTime d) := by
  induction s, d using State.passTime_induction with
  | stop s d h => exact passTime_free h ▸ advanceTime s d
  | due s d h ih => exact State.passTime_due h ▸ ((advanceTime s _).trans (takeDue _)).trans ih

theorem loadSettings (s : State) (p : PartSettings) : FlagsStay s (s.loadSettings p) := by
  have h1 : FlagsStay s (s.modMgmt fun m => { m with settings := p }) := of_same (State.modMgmt_same _ _) (by decide)
  unfold State.loadSettings
  dsimp only
  split
  · exact h1.trans (judgeOverheat _)
  · exact ((h1.trans (of_same (State.countPart_same _ _) (by decide))).trans
      (of_same (State.evaluateAll_same _) (by decide))).trans (judgeOverheat _)

theorem loadEntry (s : State) (t : Table) (i : Nat) (bs : List Byte) : FlagsStay s (s.loadEntry t i bs) := by
  unfold State.loadEntry
  cases t with
  | berth =>
    dsimp only
    split
    · exact of_same (State.loadBerth_same _ _ _) (by decide)
    · exact refl s
  | zone =>
    dsimp only
    split
    · exact of_flags rfl
    · exact refl s
  | profile =>
    dsimp only
    split
    · exact (of_same (same_set_profiles _ _) (by decide)).trans (of_same (State.copyProfile_same _ _) (by decide))
    · exact refl s
  | cls =>
    dsimp only
    split
    · exact of_same (State.loadClass_same _ _ _) (by decide)
    · exact refl s
  | chain =>
    dsimp only
    split
    · exact of_same (State.loadChain_same _ _ _ _ _) (by decide)
    · exact refl s
  | settings => exact loadSettings s _
  | stream => exact refl s
  | channel => exact refl s

theorem loadAll (s : State) (t : Table) (first : Nat) (entries : List Byte) (count : Nat) :
    FlagsStay s (s.loadAll t first entries count) := by
  unfold State.loadAll
  induction List.range count generalizing s with
  | nil => exact refl s
  | cons j js ih => exact (loadEntry s t _ _).trans (ih _)

theorem clearGroup (s : State) (g : Group) : FlagsStay s (s.clearGroup g) := by
  cases g with
  | portU => exact of_same (State.countU_same _ _) (by decide)
  | portT => exact of_same (State.countT_same _ _) (by decide)
  | stream v => exact of_same (State.countStream_same _ _ _) (by decide)
  | channel a => exact of_same (State.countChannel_same _ _ _) (by decide)
  | chain c => exact of_same (State.countChain_same _ _ _) (by decide)
  | part => exact of_same (State.countPart_same _ _) (by decide)

/-- Management clears no flag but with CLEAR FAULTS. -/
theorem of_manages {s t : State} {c : Command} (h : Manages s c t) (hc : c ≠ .clearFaults) : FlagsStay s t := by
  cases h with
  | stays => exact refl s
  | loads => exact loadAll s _ _ _ _
  | opensVideo => exact of_same (State.openVideo_same _ _ _) (by decide)
  | opensAudio => exact of_same (State.openAudio_same _ _ _) (by decide)
  | closes => exact of_same (State.closeStream_same _ _) (by decide)
  | joins => exact of_same (State.modBerth_same _ _ _) (by decide)
  | overlays => exact of_same (State.modBerth_same _ _ _) (by decide)
  | clearsGroup => exact clearGroup s _
  | clearsAttention => exact of_same (State.clearAttention_same _ _) (by decide)
  | acknowledges => exact of_same (State.acknowledge_same _ _) (by decide)
  | clearsFaults => exact absurd rfl hc
  | entersService => exact of_same (State.intoService_same _) (by decide)
  | entersConfiguration => exact of_same (State.intoConfiguration_same _) (by decide)
  | asks =>
    exact (of_same (State.modChain_same _ _ _) (by decide)).trans (of_same (State.startQueries_same _ _) (by decide))
  | fetches =>
    exact (of_same (State.modChain_same _ _ _) (by decide)).trans (of_same (State.startQueries_same _ _) (by decide))
  | aborts => exact of_same (State.discardQueries_same _ _) (by decide)

/-- A COMMAND parcel clears no flag where management clears none and asks for no reset. -/
theorem of_taken {s t : State} {m : State → Managed} (h : Taken s m t)
    (hm : ∀ s, FlagsStay s (m s).1 ∧ (m s).2.restart = false) : FlagsStay s t := by
  cases h with
  | forwarded _ h => exact of_same h (by decide)
  | executed s1 _ h _ ht => exact ((of_same h (by decide)).trans (hm s1).1).trans (of_same ht (by decide))
  | resetPending s1 _ _ hr => exact absurd hr (by simp [(hm s1).2])
  | reset s1 _ _ hr => exact absurd hr (by simp [(hm s1).2])

/-- The row of a command but CLEAR FAULTS and RESTART clears no flag. -/
theorem command {c : Command} (hc : c ≠ .clearFaults) (hr : c ≠ .restart) (h : Header) (body : List Byte)
    (s : State) : FlagsStay s (s.command h c body) :=
  of_taken (takeCommand_taken _ _ _ _) fun s =>
    ⟨of_manages (manageCommand_yields c body s).1 hc, by
      simpa [hr] using (manageCommand_yields c body s).2⟩

/-- A media parcel clears no flag where its block clears none. -/
theorem media {s : State} {p : Parcel} {take : State → State} (h : ∀ s, FlagsStay s (take s)) :
    FlagsStay s (s.takeMedia p take) :=
  (of_same (State.receivedThrough_same s p) (by decide)).trans
    (ite (h _) (of_same (State.countU_same _ _) (by decide)))

theorem takeMarkParcel (s : State) (h : Header) (l : LineSample) (p : List Byte) :
    FlagsStay s (s.takeMarkParcel h l p) :=
  (of_same (State.receivedThrough_same s _) (by decide)).trans
    (ite (takeMark _ _ _) (of_same (State.countU_same _ _) (by decide)))

theorem secondsTick (s : State) (v : Int) : FlagsStay s (s.secondsTick v) := by
  refine FlagsStay.trans ?_ (of_same (State.idleTick_same (State.readTemperature _ v)) (by decide))
  exact readTemperature { s with timer := { s.timer with divider := 0 }, pins := { s.pins with sensor := v } } v

theorem signalLost (s : State) : FlagsStay s s.signalLost := of_flags rfl

theorem signalGone (s : State) : FlagsStay s s.signalGone := by
  unfold State.signalGone
  split
  · exact refl s
  · exact refl s
  · exact (passTime s _).trans (backboneFails _)

theorem signalBack (s : State) : FlagsStay s s.signalBack := by
  have h : FlagsStay s (if s.signalLimitReached then s.backboneFails else s) := ite (backboneFails s) (refl s)
  exact h.trans (of_flags rfl)

end FlagsStay

end Sys2Proof.Machine

open Sys2Proof
open Sys2Proof.Machine

/-- Settles O10: each command is a case, and each flag is kept by what its effect is made of. -/
theorem raisedFlagsStay : Obligations.RaisedFlagsStay := by
  intro c s t h hclear hrestart hsent hpower hpin hend hforward hunknown
  rw [exec_eq] at h
  obtain rfl := Host.Outcome.next.inj h
  refine FlagsStay.ite ?_ (.refl s)
  cases c with
  | cycleMark hd elapsed lines payload =>
    exact (FlagsStay.passTime s elapsed).trans (.takeMarkParcel _ _ _ _)
  | selfStart lines => exact (FlagsStay.passTime s _).trans (.selfStart _ _)
  | secondsTick sensor => exact .ite (.secondsTick _ _) (.refl _)
  | quietLineAccepted qa qb =>
    exact .of_same (State.acceptQuiet_same s qa qb) (by decide)
  | markLoss => exact .ite (.missMark _) (.refl _)
  | backboneSignalLost => exact .signalLost _
  | backboneDown => exact .signalGone _
  | backboneSignalReturn => exact .signalBack _
  | programAudio hd payload =>
    exact .media fun s => .of_same (State.takeProgramAudio_same s _) (by decide)
  | videoSegment hd payload =>
    exact .media fun s => .of_same (State.takeVideoSegment_same s _) (by decide)
  | startCue hd cue => exact .media fun s => .of_same (State.startCueTaken_same cue s) (by decide)
  | endCue hd cue => exact .media fun s => .of_same (State.endCueTaken_same cue s) (by decide)
  | cancelCue hd cue => exact .media fun s => .of_same (State.cancelCueTaken_same cue s) (by decide)
  | leadExpiry a => exact .ite (.of_same (State.countLead_same _ _) (by decide)) (.refl _)
  | announceStall a => exact .ite (.of_same (State.presentGap_same _ _) (by decide)) (.refl _)
  | announceAudio hd payload =>
    exact .media fun s => .of_same (State.takeAnnounceAudio_same s _) (by decide)
  | chainFrameComplete r => exact .of_same (State.frameDone_same _ _) (by decide)
  | returnWindowClose c slots => exact .of_same (State.returnWindow_same _ _ _) (by decide)
  | berthPresent b => exact .ite (.of_same (State.becomePresent_same _ _) (by decide)) (.refl _)
  | berthAbsent b => exact .ite (.of_same (State.enterAbsent_same _ _) (by decide)) (.refl _)
  | idleDim b => exact .ite (.of_same (State.modBerth_same _ _ _) (by decide)) (.refl _)
  | idleSleep b => exact .ite (.of_same (State.modBerth_same _ _ _) (by decide)) (.refl _)
  | noAnswer c => exact .ite (.of_same (State.queryUnanswered_same _ _) (by decide)) (.refl _)
  | chainLinkDown c =>
    exact .of_same (State.chainLineLost_same s c) (by decide)
  | chainLinkUp c => exact .of_same (State.chainLineBack_same s c) (by decide)
  | receiveCheckFailure port clean bytes => exact .of_same (State.dropFailed_same s _ _ _) (by decide)
  | wrongDirection hd payload => exact .of_same (State.replyArrives_same s) (by decide)
  | forwardCommand hd payload =>
    have hn := hforward hd payload rfl
    unfold Addressed at hn
    push Not at hn
    rw [effect, takeCommand_other hd payload _ hn.1 hn.2]
    exact .of_same (State.receivedThrough_same s _) (by decide)
  | throughArrival p => exact .of_same (State.takeThrough_same _ _) (by decide)
  | throughLinkDown => exact .of_flags rfl
  | throughLinkUp => exact .of_flags rfl
  | throughSendComplete => exact .of_flags rfl
  | upstreamSendComplete => exact absurd rfl hsent
  | unknownCommand hd payload =>
    refine .of_taken (takeCommand_taken _ _ _ _) fun s => ?_
    have hp := managePayload_refused (fun code body e => hunknown hd code body (congrArg _ e)) s
    exact ⟨hp.1.symm ▸ .refl s, hp.2⟩
  | identify hd body => exact .command (by decide) (by decide) _ _ _
  | loadEntries hd body => exact .command (by decide) (by decide) _ _ _
  | readEntries hd body => exact .command (by decide) (by decide) _ _ _
  | openStream hd body => exact .command (by decide) (by decide) _ _ _
  | closeStream hd body => exact .command (by decide) (by decide) _ _ _
  | resetBerth hd body => exact .command (by decide) (by decide) _ _ _
  | setBerthActive hd body => exact .command (by decide) (by decide) _ _ _
  | readCounters hd body => exact .command (by decide) (by decide) _ _ _
  | clearCounters hd body => exact .command (by decide) (by decide) _ _ _
  | readAttention hd body => exact .command (by decide) (by decide) _ _ _
  | clearAttention hd body => exact .command (by decide) (by decide) _ _ _
  | readCalls hd body => exact .command (by decide) (by decide) _ _ _
  | acknowledgeCalls hd body => exact .command (by decide) (by decide) _ _ _
  | clearFaults hd body => exact absurd rfl (hclear hd body)
  | enterService hd body => exact .command (by decide) (by decide) _ _ _
  | enterConfiguration hd body =>
    exact .command (by decide) (by decide) _ _ _
  | berthQuery hd body => exact .command (by decide) (by decide) _ _ _
  | fetchQueryResults hd body => exact .command (by decide) (by decide) _ _ _
  | abortQueries hd body => exact .command (by decide) (by decide) _ _ _
  | restart hd body => exact absurd rfl (hrestart hd body)
  | powerOnReset => exact absurd rfl hpower
  | resetPin => exact absurd rfl hpin
  | endOfReset pins => exact absurd rfl (hend pins)
  | cueBadPayload hd payload => exact .media fun s => .of_same (State.countU_same s _) (by decide)
end

section
/-! PROOF. The rows of the fault monitor and of the time base: MARK_LOSS, the upstream line signal, the idle step, the
reset rows. -/

open Sys2Proof
open Sys2Proof.Machine

namespace Sys2Proof.Machine

/-- A part that is not held in reset takes every row's event. -/
theorem exec_free {s : State} (h : s.held = none) (i : Instr) : exec i s = .next (effect i s) := by
  rw [exec_eq, h, Option.isNone_none, Bool.or_true, if_pos rfl]

/-- A part held in reset takes no event but those of the reset rows (R166, log 6). -/
theorem exec_held {s : State} {i : Instr} (h : s.held ≠ none) (hi : resets i = false) : exec i s = .next s := by
  rw [exec_eq, hi, Bool.false_or, if_neg (by simpa using h)]

/-- R12: a missed mark changes only timer, fault monitor and part counts. -/
theorem State.missMark_eq (s : State) : s.missMark =
    { s with timer := s.missMark.timer, faults := s.missMark.faults, counts := s.missMark.counts } :=
  (State.missMark_same s).eq_monitor

/-- R14: BACKBONE DOWN changes only fault monitor and part counts. -/
theorem State.backboneFails_eq (s : State) : s.backboneFails =
    { s with faults := s.backboneFails.faults, counts := s.backboneFails.counts } := by
  have h : Same [.timer, .faults, .counts] s s.backboneFails := (State.backboneFails_same s).widen (by decide)
  rw [h.eq_monitor, (State.backboneFails_same s).timer (by decide)]

end Sys2Proof.Machine

/-- Settles O9: each of the four rows written out. -/
theorem faultRows : Obligations.FaultRows := by
  refine ⟨fun s hs hr => ?_, fun s hs hn => ?_, fun x s hs hn hb => ?_, fun s hs => ?_⟩
  · rw [exec_free hs]
    refine ⟨_, rfl, ?_⟩
    rw [effect, if_pos hr, State.missMark_eq]
    simp only [State.missMark_timer, State.missMark_faults, State.missMark_counts, hr]
    cases s.faults.flags.markLoss <;> simp
  · rw [exec_free hs]
    refine ⟨_, rfl, ?_⟩
    simp [effect, State.signalLost, State.setUpstreamLine, State.modFaults, hn]
  · rw [exec_free hs]
    refine ⟨_, rfl, ?_⟩
    have e : effect .backboneDown s = (s.passTime (signalLimit - x)).backboneFails := by
      rw [effect, State.signalGone, hn, hb]
    rw [e]
    refine ⟨?_, by simp, by simp, fun hle => ?_⟩
    · rw [State.backboneFails_faults, State.passTime_noSignal, hn]
      simp only [Option.map_some, Option.some.injEq, signalLimit]
      omega
    · have hfree : signalLimit - x ≤ s.untilDue := by
        rw [State.untilDue_awaited hn hb]
        unfold signalLimit selfStartTime
        omega
      rw [passTime_free hfree, State.backboneFails_eq, State.backboneFails_faults, State.backboneFails_counts,
        State.advanceTime_faults, hn]
      have hmin : min signalLimit (x + (signalLimit - x)) = 10000 := by
        unfold signalLimit
        omega
      simp only [hmin, Option.map_some]
      rfl
  · rw [exec_free hs]
    refine ⟨_, rfl, ?_⟩
    simp only [effect, State.signalBack]
    cases hl : s.signalLimitReached with
    | true =>
      have hd : s.faults.noSignal = some 10000 ∧ s.faults.backboneDown = false := by
        simpa [State.signalLimitReached, signalLimit] using hl
      rw [if_pos rfl, State.backboneFails_eq]
      simp only [State.backboneFails_faults, State.backboneFails_counts, hd]
      cases hf : s.faults.flags.backboneDown <;> simp [State.setUpstreamLine, State.modFaults]
    | false =>
      have hd : ¬ (s.faults.noSignal = some 10000 ∧ s.faults.backboneDown = false) := by
        simpa [State.signalLimitReached, signalLimit] using hl
      simp [hd, State.setUpstreamLine, State.modFaults]

namespace Sys2Proof.Machine

/-- R142: the identity that a strap value gives. -/
theorem ofStraps_spec (v : BitVec 4) :
    (Node.ofStraps v).strap = v ∧ ((Node.ofStraps v).fault = false ↔ v ∈ [3#4, 5#4, 6#4, 9#4, 10#4, 12#4]) ∧
      (Node.ofStraps v).address = if (Node.ofStraps v).fault then 0xAF#8 else 0xA0#8 + v.setWidth 8 := by
  revert v
  decide

/-- R13: OVERHEAT as judged at the end of a reset, where it did not hold before. -/
theorem overheatAfter_initial (v : Int) : overheatAfter 95 false v = true ↔ 95 ≤ v := by
  simp [overheatAfter]

/-- R71, R93: every zone but zone 0 is empty after a reset. -/
theorem zonesInitial_get : ∀ z : Fin 16, z ≠ 0 → zonesInitial[z] = 0 := by
  decide

/-- R162: the lists of the counts that a clear or a reset leaves. -/
theorem zero_lists : UpstreamCounts.zero.list = List.replicate 15 0 ∧ ThroughCounts.zero.list = List.replicate 11 0 ∧
    StreamCounts.zero.list = List.replicate 5 0 ∧ ChannelCounts.zero.list = List.replicate 5 0 ∧
    ChainCounts.zero.list = List.replicate 25 0 ∧ PartCounts.zero.list = List.replicate 13 0 :=
  ⟨rfl, rfl, rfl, rfl, rfl, rfl⟩

/-- R17, R39, R53, R69, R94, R109, R126, R141, R152: every count of every group is 0 after a reset, but those of the part
group (log 23). -/
theorem afterReset_groupCounts (pins : Pins) {g : Group} (hg : g ≠ .part) :
    ∀ k ∈ (State.afterReset pins).groupCounts g, k = 0 := by
  obtain ⟨hu, ht, hv, ha, hc, -⟩ := zero_lists
  cases g with
  | portU =>
    show ∀ k ∈ UpstreamCounts.zero.list, k = 0
    exact fun k hk => List.eq_of_mem_replicate (hu ▸ hk)
  | portT =>
    show ∀ k ∈ ThroughCounts.zero.list, k = 0
    exact fun k hk => List.eq_of_mem_replicate (ht ▸ hk)
  | stream v =>
    have e : (State.afterReset pins).streams[v] = StreamEntry.initial := get_replicate_fin _ v
    rw [State.groupCounts, e]
    exact fun k hk => List.eq_of_mem_replicate (hv ▸ hk)
  | channel a =>
    have e : (State.afterReset pins).channels[a] = Channel.initial := get_replicate_fin _ a
    rw [State.groupCounts, e]
    exact fun k hk => List.eq_of_mem_replicate (ha ▸ hk)
  | chain c =>
    have e : (State.afterReset pins).chains[c] = Chain.initial pins.chainLines[c] := get_ofFn_fin _ c
    rw [State.groupCounts, e]
    exact fun k hk => List.eq_of_mem_replicate (hc ▸ hk)
  | part => exact absurd rfl hg

end Sys2Proof.Machine

/-- Settles O4: a held part by its rows, the others by the values that `State.afterReset` gives. -/
theorem resetRows : Obligations.ResetRows := by
  refine ⟨fun c s hs h1 h2 h3 => exec_held hs ?_, fun _ => rfl, fun _ => rfl, fun pins s => ?_⟩
  · cases c with
    | powerOnReset => exact absurd rfl h1
    | resetPin => exact absurd rfl h2
    | endOfReset pins => exact absurd rfl (h3 pins)
    | _ => rfl
  · have chain : ∀ c : ChainIx, (State.afterReset pins).chains[c] = Chain.initial pins.chainLines[c] :=
      get_ofFn_fin _
    have channel : ∀ a : ChannelIx, (State.afterReset pins).channels[a] = Channel.initial := get_replicate_fin _
    have stream : ∀ v : StreamIx, (State.afterReset pins).streams[v] = StreamEntry.initial := get_replicate_fin _
    have ring : ∀ r : RingIx, (State.afterReset pins).rings[r] = Ring.empty := get_replicate_fin _
    have slot : ∀ b : BerthIx, (State.afterReset pins).slots[b] = ProgramBlock.silent := get_replicate_fin _
    obtain ⟨hstrap, hfault, haddress⟩ := ofStraps_spec pins.straps
    refine ⟨_, rfl, rfl, rfl, rfl, rfl, rfl, overheatAfter_initial _, rfl, rfl, rfl, rfl, rfl, rfl, rfl,
      get_replicate_fin _, get_replicate_fin _, rfl, rfl, get_replicate_fin _, fun v => ?_, fun r i => ?_, by rfl,
      zonesInitial_get, fun a => ?_, get_replicate_fin _, fun c => ?_, hstrap, hfault, haddress, rfl, rfl,
      get_replicate_fin _, rfl, fun b => ?_,
      fun k hk => List.eq_of_mem_replicate (n := 13) hk, rfl, fun _ hg => afterReset_groupCounts pins hg, fun c => ?_⟩
    · dsimp only
      rw [stream]
      exact ⟨rfl, rfl, rfl⟩
    · dsimp only
      rw [ring]
      exact get_replicate_fin none i
    · dsimp only
      rw [channel]
      exact ⟨rfl, rfl, get_replicate_fin none⟩
    · dsimp only
      rw [chain]
      exact ⟨rfl, rfl, rfl, rfl, rfl, rfl, rfl, rfl, rfl⟩
    · dsimp only
      rw [slot]
      exact ⟨rfl, get_replicate_fin _⟩
    · dsimp only
      rw [chain]
      exact ⟨rfl, rfl, rfl, rfl, rfl⟩
end

section
/-! PROOF. The time base on an empty queue, the seconds tick and the acceptance of a quiet level. -/

open Sys2Proof
open Sys2Proof.Machine

namespace Sys2Proof.Machine

/-- A step on an empty queue of a part that is not held. -/
theorem step_idle {s : State} (hs : s.held = none) (hp : s.pending = []) : step s = .next s.passIdle := by
  rw [step, hp]
  simp only [State.idle, hs, Option.isNone_none, if_true]

theorem State.passIdle_held (s : State) : s.passIdle.held = s.held := (State.passIdle_same s).held (by decide)

theorem State.passIdle_pending (s : State) : s.passIdle.pending = s.pending :=
  (State.passIdle_same s).pending (by decide)

/-- R4: an idle step before the last tenth of a millisecond of a cycle only lets the time pass. -/
theorem State.passIdle_timer {s : State} (h : s.timer.sinceStart < 1000) :
    s.passIdle.timer = { s.timer with sinceStart := s.timer.sinceStart + 100 } := by
  have hd : idleStep ≤ selfStartTime - s.timer.sinceStart := by
    unfold idleStep selfStartTime
    omega
  have ht := State.passTime_within_timer hd
  have hdue : (s.passTime idleStep).selfStartDue = false := by
    have iff := (s.passTime idleStep).selfStartDue_iff
    rw [ht] at iff
    rw [← Bool.not_eq_true, iff]
    dsimp only
    unfold idleStep selfStartTime
    omega
  unfold State.passIdle
  obtain ⟨-, -, e⟩ | ⟨-, -, e⟩ | ⟨-, h2, -⟩ | ⟨-, h2, -⟩ := (s.passTime idleStep).takeDue_cases
  · rw [e, ht]; rfl
  · rw [e, (State.backboneFails_same _).timer (by decide), ht]; rfl
  · rw [hdue] at h2; cases h2
  · rw [hdue] at h2; cases h2

/-- R4: an idle step that reaches 1.1 ms takes the self-start, and the rest of the step counts for the next cycle. -/
theorem State.passIdle_clock {s : State} (h : 1000 ≤ s.timer.sinceStart) (hs : s.timer.sinceStart ≤ 1100) :
    s.passIdle.clock = { s.clock.restarted with sinceStart := s.timer.sinceStart - 1000 } := by
  unfold State.passIdle
  rw [State.passTime_takeDue_clock hs (by unfold idleStep selfStartTime; omega),
    if_neg (by unfold idleStep selfStartTime; omega)]
  simp only [Clock.mk.injEq, idleStep, selfStartTime, true_and, and_true]
  omega

/-- R4: without a period that lacks a signal, an idle step that reaches 1.1 ms is the self-start of that moment, on the
pins as they stand, with the rest of the step after it. -/
theorem State.passIdle_selfStart {s : State} (h : 1000 ≤ s.timer.sinceStart) (hs : s.timer.sinceStart ≤ 1100)
    (hn : s.faults.noSignal = none) :
    s.passIdle = { effect (.selfStart s.lineSample) s with
      timer := { (effect (.selfStart s.lineSample) s).timer with sinceStart := s.timer.sinceStart - 1000 } } := by
  have holds : ∀ (x : State) (d : Nat), x.faults.noSignal = none → SignalHolds x d := by
    intro x d hx y hy
    rw [hx] at hy
    cases hy
  have late : ∀ (x : State) (k : Nat), x.faults.noSignal = none → x.timer.sinceStart = 0 →
      x.advanceTime k = { x with timer := { x.timer with sinceStart := k } } := by
    intro x k hx h0
    have e : x.advanceTime k = { x with timer := (x.advanceTime k).timer, faults := (x.advanceTime k).faults } := rfl
    rw [e, State.advanceTime_timer, State.advanceTime_faults, hx, h0, Nat.zero_add, Option.map_none, ← hx]
  have hlim : ∀ x : State, x.faults.noSignal = none → x.signalLimitReached = false := by
    intro x hx
    simp [State.signalLimitReached, hx]
  have hu : (s.advanceTime (selfStartTime - s.timer.sinceStart)).takeDue = effect (.selfStart s.lineSample) s := by
    have hdue : (s.advanceTime (selfStartTime - s.timer.sinceStart)).selfStartDue = true := by
      rw [State.selfStartDue_iff, State.advanceTime_timer]
      dsimp only
      omega
    rw [takeDue_start (hlim _ (by rw [State.advanceTime_faults, hn]; rfl)) hdue, effect,
      State.passTime_holds le_rfl (holds s _ hn)]
    rfl
  have hu0 : (effect (.selfStart s.lineSample) s).timer.sinceStart = 0 := by
    rw [effect, State.selfStart_timer]
  have hun : (effect (.selfStart s.lineSample) s).faults.noSignal = none := by
    rw [← hu, (State.takeDue_noSignal _).1, State.advanceTime_faults, hn]
    rfl
  have hidle : s.passIdle = (effect (.selfStart s.lineSample) s).advanceTime (s.timer.sinceStart - 1000) := by
    unfold State.passIdle
    have hrest : s.timer.sinceStart - 1000 = idleStep - (selfStartTime - s.timer.sinceStart) := by
      unfold idleStep selfStartTime
      omega
    have hdue : ((effect (.selfStart s.lineSample) s).advanceTime (s.timer.sinceStart - 1000)).takeDue =
        (effect (.selfStart s.lineSample) s).advanceTime (s.timer.sinceStart - 1000) := by
      refine takeDue_none (hlim _ (by rw [State.advanceTime_faults, hun]; rfl)) ?_
      rw [← Bool.not_eq_true, State.selfStartDue_iff, State.advanceTime_timer, hu0]
      unfold selfStartTime
      dsimp only
      omega
    rcases Nat.eq_or_lt_of_le h with h1 | h1
    · have h0 : s.timer.sinceStart - 1000 = 0 := by omega
      rw [State.passTime_holds (by unfold idleStep selfStartTime; omega) (holds s _ hn),
        show idleStep = selfStartTime - s.timer.sinceStart by unfold idleStep selfStartTime; omega, hu, h0,
        late _ _ hun hu0, ← hu0]
    · rw [State.passTime_split (by unfold idleStep selfStartTime; omega), State.passTime_holds le_rfl (holds s _ hn),
        hu, State.passTime_holds (by rw [hu0]; unfold idleStep selfStartTime; omega) (holds _ _ hun), ← hrest, hdue]
  rw [hidle, late _ _ hun hu0]

/-- A run goes on from what its first step leaves. -/
theorem core_run_succ {M : Host.Core} (k : Nat) {x y : M.State} (h : M.step x = .next y) :
    M.run (k + 1) x = M.run k y := by
  simp only [Host.Core.run, h]

/-- A run on an empty queue begins with an idle step. -/
theorem run_succ_idle (k : Nat) {s : State} (hs : s.held = none) (hp : s.pending = []) :
    Host.Core.run Sys2Proof.core (k + 1) s = Host.Core.run Sys2Proof.core k s.passIdle :=
  core_run_succ k (step_idle hs hp)

/-- R4: idle steps from a whole number of tenths of a millisecond up to 1.1 ms bring the self-start of that moment. -/
theorem run_idle (k : Nat) {s : State} (hs : s.held = none) (hp : s.pending = [])
    (hk : s.timer.sinceStart + 100 * k = 1000) :
    ∃ t : State, Host.Core.run Sys2Proof.core (k + 1) s = .next t ∧ t.clock = s.clock.restarted ∧ t.pending = [] := by
  induction k generalizing s with
  | zero =>
    refine ⟨s.passIdle, run_succ_idle 0 hs hp, ?_, s.passIdle_pending.trans hp⟩
    rw [State.passIdle_clock (by omega) (by omega)]
    simp only [Clock.restarted, Clock.mk.injEq, true_and, and_true]
    omega
  | succ k ih =>
    have ht := State.passIdle_timer (s := s) (by omega)
    obtain ⟨t, h1, h2, h3⟩ := ih (s.passIdle_held.trans hs) (s.passIdle_pending.trans hp)
      (by rw [ht]; dsimp only; omega)
    refine ⟨t, (run_succ_idle _ hs hp).trans h1, ?_, h3⟩
    rw [h2, State.clock, ht]
    rfl

end Sys2Proof.Machine

/-- Settles O3: eleven idle steps by `run_idle`, and one idle step by whether its tenth of a millisecond reaches the
self-start (`State.passIdle_clock`) and the ten milliseconds of a period without a signal. -/
theorem idleSelfStarts : Obligations.IdleSelfStarts := by
  refine ⟨fun s hs hp h0 => ?_, fun s hs hp hle => ?_⟩
  · obtain ⟨t, hr, hc, hq⟩ := run_idle 10 hs hp (by omega)
    exact ⟨t, hr, congrArg Clock.cycle hc, congrArg Clock.sinceStart hc, congrArg Clock.missedRun hc, hq⟩
  · refine ⟨s.passIdle, step_idle hs hp, s.passIdle_pending.trans hp, fun hge => ?_, fun hge hn => ?_, fun hlt => ?_,
      fun x hn hb => ?_⟩
    · have hc := State.passIdle_clock hge hle
      exact ⟨congrArg Clock.cycle hc, congrArg Clock.sinceStart hc, congrArg Clock.missedRun hc⟩
    · have e : s.lineSample = { qa := s.pins.qa, qb := s.pins.qb, sensor := s.pins.sensor, returns := [] } := rfl
      rw [← e]
      exact ⟨_, exec_free hs _, State.passIdle_selfStart hge hle hn⟩
    · exact State.passIdle_timer hlt
    · obtain ⟨h1, h2⟩ := State.passTime_takeDue_down hn hb (d := idleStep)
      have hx : s.passIdle.faults.noSignal = some (min 10000 (x + 100)) := by
        rw [State.passIdle, (State.takeDue_noSignal _).1, State.passTime_noSignal, hn]
        rfl
      refine ⟨fun hlt => ⟨?_, h1 hlt⟩, fun hge => ⟨?_, h2 hge⟩⟩
      · rw [hx, Nat.min_eq_right hlt.le]
      · rw [hx, Nat.min_eq_left hge]
end

section
/-! PROOF. The seconds tick (R8, R10, R13, R34) and the acceptance of a quiet level (R9, R40 to R45, R53). -/

open Sys2Proof
open Sys2Proof.Machine

namespace Sys2Proof.Machine

/-! ### The sensor read (R10, R13) -/

/-- R13: OVERHEAT comes to hold at the threshold or above. -/
theorem overheatAfter_rises (threshold : Nat) (v : Int) :
    overheatAfter threshold false v = true ↔ (threshold : Int) ≤ v := by
  simp [overheatAfter]

/-- R13: OVERHEAT ends at 5 below the threshold or less. -/
theorem overheatAfter_falls (threshold : Nat) (v : Int) :
    overheatAfter threshold true v = false ↔ v ≤ (threshold : Int) - 5 := by
  simp [overheatAfter]

/-- R11, R13: the OVERHEAT flag is raised when the condition comes to hold. -/
theorem readTemperature_flag (s : State) (v : Int) : (s.readTemperature v).faults.flags.overheat = true ↔
    s.faults.flags.overheat = true ∨ (s.faults.overheat = false ∧ (s.readTemperature v).faults.overheat = true) := by
  simp only [State.readTemperature_faults, Bool.or_eq_true, Bool.and_eq_true, Bool.not_eq_true']
  rw [and_comm (a := s.faults.overheat = false)]

/-- R11: the raise of OVERHEAT at a reading is the only count that moves. -/
theorem readTemperature_overheatCount (s : State) (v : Int) : (s.readTemperature v).counts =
    { s.counts with overheatRaises := overheatCount s (s.readTemperature v) } := by
  rw [State.readTemperature_counts]
  unfold overheatCount
  rw [State.readTemperature_faults]
  dsimp only
  cases s.faults.flags.overheat <;> simp

/-- R10, R13: the sensor read at a seconds tick. -/
theorem readTemperature_sensorRead {s : State} (v : Int) (h : 1000 ≤ s.timer.divider + 1) :
    SensorRead s (s.readTemperature v) v := by
  refine ⟨fun h2 => absurd h2 (by omega), fun _ => ⟨?_, fun hf => ?_, fun ht => ?_, readTemperature_flag s v, ?_⟩⟩
  · rw [State.readTemperature_faults, clampReading]
  · rw [State.readTemperature_faults]
    unfold State.hotAt
    rw [hf]
    exact overheatAfter_rises _ _
  · rw [State.readTemperature_faults]
    unfold State.hotAt
    rw [ht]
    exact overheatAfter_falls _ _
  · rw [readTemperature_overheatCount]

/-! ### The idle timers (R34) -/

/-- A berth's record with another awake state and other idle seconds. -/
def Berth.withIdle (b : Berth) (x : Awake × Nat) : Berth := { b with awake := x.1, idle := x.2 }

/-- R34: the tick of a berth that is AWAKE or DIMMED. -/
theorem Berth.ticked_eq {b : Berth} (h : b.awake ≠ .asleep) : b.ticked = b.withIdle (idleNext b b.settings) := by
  have zero_iff : ∀ x : Fin 1024, (x.val ≠ 0 ↔ x ≠ 0) := fun x => not_congr (Fin.val_eq_zero_iff)
  unfold Berth.ticked idleNext idleAfter
  cases hb : b.awake with
  | asleep => exact absurd hb h
  | awake =>
    simp only [zero_iff, true_and, reduceCtorEq, false_and, if_false]
    split
    · rfl
    · rw [← hb, Berth.withIdle]
  | dimmed =>
    simp only [zero_iff, true_and, reduceCtorEq, false_and, if_false]
    split
    · rfl
    · rw [← hb, Berth.withIdle]

/-- R34: the class of what governs a berth. -/
theorem State.emergencyGoverned_iff (s : State) (b : Berth) :
    s.emergencyGoverned b = true ↔ ∃ a, b.governing = some a ∧ s.channels[a].cls = some .emergency := by
  simp [State.emergencyGoverned, State.governingClass, Option.bind_eq_some_iff]

/-- R34: the idle timer of a berth runs while it is PRESENT, not ASLEEP, and not under an EMERGENCY. -/
theorem State.idleRuns_iff (s : State) (b : Berth) : s.idleRuns b = true ↔ b.presence = .present ∧ b.awake ≠ .asleep ∧
    ¬ ∃ a, b.governing = some a ∧ s.channels[a].cls = some .emergency := by
  rw [← State.emergencyGoverned_iff]
  simp [State.idleRuns, and_assoc]

theorem State.serving_iff (s : State) : s.serving = true ↔ s.mgmt.mode = .service := by
  simp [State.serving]

/-- R34: one berth at a tick of the idle timers. -/
theorem State.idleTick_get (s : State) (b : BerthIx) : s.idleTick.berths[b] =
    if s.mgmt.mode = .service ∧ s.idleRuns s.berths[b] = true then
      s.berths[b].withIdle (idleNext s.berths[b] s.berths[b].settings)
    else s.berths[b] := by
  unfold State.idleTick
  by_cases hm : s.mgmt.mode = .service
  · rw [if_pos ((State.serving_iff s).2 hm), State.mapBerths_get]
    by_cases hr : s.idleRuns s.berths[b] = true
    · rw [if_pos hr, if_pos ⟨hm, hr⟩]
      exact Berth.ticked_eq ((State.idleRuns_iff s _).1 hr).2.1
    · rw [if_neg hr, if_neg fun h => hr h.2]
  · rw [if_neg (mt (State.serving_iff s).1 hm), if_neg fun h => hm h.1]

/-- A state of which only the timer, the pins, the fault monitor, the counts and the berths may differ from another. -/
theorem Same.eq_tick {s t : State} (h : Same [.timer, .pins, .faults, .counts, .berths] s t) :
    t = { s with timer := t.timer, pins := t.pins, faults := t.faults, counts := t.counts, berths := t.berths } := by
  obtain ⟨-, h2, -, -, h5, -, -, h8, h9, h10, h11, h12, h13, h14, h15, h16, h17, h18, h19, h20, h21, h22⟩ := h
  cases s
  cases t
  simp_all

/-- R8: the state that a seconds tick reads the sensor in. -/
def State.wrapped (s : State) (v : Int) : State :=
  { s with timer := { s.timer with divider := 0 }, pins := { s.pins with sensor := v } }

/-- R10: the tick's reading does not depend on divider and pins. -/
theorem readTemperature_wrapped (s : State) (v : Int) :
    ((s.wrapped v).readTemperature v).faults = (s.readTemperature v).faults ∧
    ((s.wrapped v).readTemperature v).counts = (s.readTemperature v).counts := by
  rw [State.readTemperature_faults, State.readTemperature_faults, State.readTemperature_counts,
    State.readTemperature_counts]
  exact ⟨rfl, rfl⟩

theorem State.secondsTick_eq (s : State) (v : Int) : s.secondsTick v = ((s.wrapped v).readTemperature v).idleTick := rfl

/-- R8: what a seconds tick leaves of the monitor and the counts is the reading's. -/
theorem State.secondsTick_faults (s : State) (v : Int) :
    (s.secondsTick v).faults = (s.readTemperature v).faults ∧
    (s.secondsTick v).counts = (s.readTemperature v).counts := by
  rw [State.secondsTick_eq, (State.idleTick_same _).faults (by decide), (State.idleTick_same _).counts (by decide)]
  exact readTemperature_wrapped s v

/-- R8: a seconds tick changes the divider, the sensor as the pins hold it, the fault monitor, the counts and the
berths. -/
theorem State.secondsTick_frame (s : State) (v : Int) : s.secondsTick v =
    { s.wrapped v with
      faults := (s.secondsTick v).faults, counts := (s.secondsTick v).counts, berths := (s.secondsTick v).berths } := by
  have h : Same [.faults, .counts, .berths] (s.wrapped v) (s.secondsTick v) := by
    rw [State.secondsTick_eq]
    exact ((State.readTemperature_same _ v).widen (by decide)).trans ((State.idleTick_same _).widen (by decide))
  have e := Same.eq_tick (h.widen (by decide))
  rw [h.timer (by decide), h.pins (by decide)] at e
  exact e

/-- R34: one berth at a seconds tick. -/
theorem State.secondsTick_get (s : State) (v : Int) (b : BerthIx) : (s.secondsTick v).berths[b] =
    if s.mgmt.mode = .service ∧ s.idleRuns s.berths[b] = true then
      s.berths[b].withIdle (idleNext s.berths[b] s.berths[b].settings)
    else s.berths[b] := by
  have k := State.readTemperature_same (s.wrapped v) v
  have hb : ((s.wrapped v).readTemperature v).berths = s.berths := k.berths (by decide)
  have hm : ((s.wrapped v).readTemperature v).mgmt = s.mgmt := k.mgmt (by decide)
  have hr : ((s.wrapped v).readTemperature v).idleRuns s.berths[b] = s.idleRuns s.berths[b] := by
    rw [Bool.eq_iff_iff, State.idleRuns_iff, State.idleRuns_iff, k.channels (by decide)]
    rfl
  rw [State.secondsTick_eq, State.idleTick_get, hb, hm, hr]

/-- R34: IDLE_DIM's trigger. -/
theorem State.dims_iff (s : State) (r : Berth) : s.dims r = true ↔ s.mgmt.mode = .service ∧ s.idleRuns r = true ∧
    r.awake = .awake ∧ r.settings.idleToDim ≠ 0 ∧ r.settings.idleToDim.val ≤ min 1023 (r.idle + 1) := by
  simp [State.dims, State.serving_iff, idleAfter, and_assoc]

/-- R34: IDLE_SLEEP's trigger. -/
theorem State.sleeps_iff (s : State) (r : Berth) : s.sleeps r = true ↔ s.mgmt.mode = .service ∧
    s.idleRuns r = true ∧ r.awake = .dimmed ∧ r.settings.idleToSleep ≠ 0 ∧
    r.settings.idleToSleep.val ≤ min 1023 (r.idle + 1) := by
  simp [State.sleeps, State.serving_iff, idleAfter, and_assoc]

/-- R34: the berth that IDLE_DIM and IDLE_SLEEP tick. -/
theorem State.modBerth_ticked {s : State} {b : BerthIx} {x : Awake × Nat} (h : s.berths[b].awake ≠ .asleep)
    (hx : idleNext s.berths[b] s.berths[b].settings = x) :
    s.modBerth b Berth.ticked = { s with berths := s.berths.set b (s.berths[b].withIdle x) } := by
  rw [State.modBerth, Berth.ticked_eq h, hx]

/-- R34: the idle-to-dim and the idle-to-sleep thresholds lie within the range of the idle seconds. -/
theorem le_idleAfter {x : Fin 1024} {b : Berth} (h : x.val ≤ b.idle + 1) : x.val ≤ min 1023 (b.idle + 1) :=
  le_min (by omega) h

/-! ### The quiet regime block (R40 to R45, R53) -/

/-- R43: the regime of a berth that has been evaluated. -/
theorem State.evaluated_regime (s : State) (r : Berth) : (s.evaluated r).regime = s.formedRegime r := by
  unfold State.evaluated
  split
  · next h => exact h.symm
  · rfl

/-- R43, R45: a berth that has been evaluated is unchanged when its regime is, and else has the regime's set. -/
theorem State.evaluated_eq (s : State) (r : Berth) : s.evaluated r =
    { r with
      regime := s.formedRegime r
      settings :=
        if s.formedRegime r = r.regime then r.settings else profileSet s.profiles[r.config.profile] (s.formedRegime r) } := by
  unfold State.evaluated
  split
  · next h => rw [h]
  · rfl

/-- R43: the berths after every one has been evaluated. -/
theorem State.evaluateAll_get (s : State) (b : BerthIx) : s.evaluateAll.berths[b] = s.evaluated s.berths[b] := by
  unfold State.evaluateAll
  rw [State.countPart_berths]
  exact State.mapBerths_get s b _

/-- R41: what the hand-over makes of one berth. -/
theorem State.quietHandOver_get (s : State) (qa qb : Bool) (b : BerthIx) : (s.quietHandOver qa qb).berths[b] =
    if s.effectiveQA = qa ∧ s.effectiveQB = qb then s.berths[b] else s.evaluated s.berths[b] := by
  unfold State.quietHandOver
  split
  · rfl
  · rw [State.evaluateAll_get]
    rfl

/-- R41, R53: what the hand-over counts. -/
theorem State.quietHandOver_counts (s : State) (qa qb : Bool) : (s.quietHandOver qa qb).counts =
    { s.counts with
      qaChanges := if s.effectiveQA = qa then s.counts.qaChanges else bump s.counts.qaChanges
      qbChanges := if s.effectiveQB = qb then s.counts.qbChanges else bump s.counts.qbChanges
      regimeChanges := addCount s.counts.regimeChanges
        ((List.finRange 48).filter fun b => (s.quietHandOver qa qb).berths[b].regime ≠ s.berths[b].regime).length } := by
  simp only [State.quietHandOver_get]
  by_cases h : s.effectiveQA = qa ∧ s.effectiveQB = qb
  · have e : s.quietHandOver qa qb = s := if_pos h
    simp [e, h]
  · have e : s.quietHandOver qa qb = (s.countLevelChanges qa qb).evaluateAll := if_neg h
    have add_ite : ∀ (c : Count) (p : Prop) [Decidable p], addCount c (if p then 0 else 1) = if p then c else bump c := by
      intro c p _
      split
      · exact addCount_zero c
      · rfl
    rw [e]
    simp only [h, if_false, State.evaluated_regime, State.evaluateAll, State.countLevelChanges, State.countPart_counts,
      State.mapBerths_counts, add_ite]
    rfl

/-- R9: a sampler that does not stand before its eighth sample is left alone by the acceptance. -/
theorem eighthSample_eq (p : Sampler) (level : Bool) :
    (p.run = 7 ∧ level ≠ p.accepted → eighthSample p level = { accepted := level, run := 0 }) ∧
    (¬ (p.run = 7 ∧ level ≠ p.accepted) → eighthSample p level = p) :=
  ⟨fun h => if_pos h, fun h => if_neg h⟩

/-- R9: the state in which the block judges the levels that the eighth samples brought. -/
def State.eighthTaken (s : State) (qa qb : Bool) : State :=
  { s with
    timer := { s.timer with qa := eighthSample s.timer.qa qa, qb := eighthSample s.timer.qb qb }
    pins := { s.pins with qa := qa, qb := qb } }

theorem State.acceptQuiet_eq (s : State) (qa qb : Bool) :
    s.acceptQuiet qa qb = (s.eighthTaken qa qb).quietHandOver s.effectiveQA s.effectiveQB := rfl

/-- R41: the levels after the hand-over are those that it judges. -/
theorem State.quietHandOver_levels (s : State) (qa qb : Bool) :
    (s.quietHandOver qa qb).effectiveQA = s.effectiveQA ∧ (s.quietHandOver qa qb).effectiveQB = s.effectiveQB := by
  have h := State.quietHandOver_same s qa qb
  unfold State.effectiveQA State.effectiveQB
  rw [h.mgmt (by decide), h.timer (by decide)]
  exact ⟨rfl, rfl⟩

/-- R41: the hand-over after an acceptance changes the two samplers, the pins, the counts and the berths. -/
theorem State.acceptQuiet_frame (s : State) (qa qb : Bool) : s.acceptQuiet qa qb =
    { s.eighthTaken qa qb with
      counts := (s.acceptQuiet qa qb).counts, berths := (s.acceptQuiet qa qb).berths } := by
  have h := State.quietHandOver_same (s.eighthTaken qa qb) s.effectiveQA s.effectiveQB
  have e := Same.eq_tick (h.widen (by decide))
  rw [h.timer (by decide), h.pins (by decide), h.faults (by decide)] at e
  exact e

end Sys2Proof.Machine

/-- Settles O7: the tick's reading is `readTemperature_sensorRead`, its idle timers `State.secondsTick_get`; the two idle
rows tick the one berth that stands at its threshold. -/
theorem secondsTickRule : Obligations.SecondsTickRule := by
  refine ⟨fun v s hs hd => ?_, fun b s hs hm hp hg => ?_⟩
  · obtain ⟨hf, hc⟩ := State.secondsTick_faults s v
    obtain ⟨-, hread⟩ := readTemperature_sensorRead (s := s) v (by omega)
    obtain ⟨h1, h2, h3, h4, -⟩ := hread (by omega)
    have hcount : overheatCount s (s.secondsTick v) = overheatCount s (s.readTemperature v) := by
      unfold overheatCount
      rw [hf]
    refine ⟨s.secondsTick v, ?_, State.secondsTick_frame s v, ?_, ?_, ?_, ?_, ?_, ?_, ?_, ?_, ?_, fun b => ?_⟩
    · rw [exec_free hs]
      exact congrArg Host.Outcome.next (if_pos hd)
    · rw [hf, h1]
    · rw [hf]; exact h2
    · rw [hf]; exact h3
    · rw [hf]; exact h4
    · rw [hf, State.readTemperature_faults]
    · rw [hf, State.readTemperature_faults]
    · rw [hf, State.readTemperature_faults]
    · rw [hf, State.readTemperature_faults]
    · rw [hc, hcount, ← readTemperature_overheatCount]
    · rw [State.secondsTick_get]
      refine if_congr (and_congr_right fun _ => State.idleRuns_iff s _) ?_ rfl
      unfold Berth.withIdle idleNext
      dsimp only
      split
      · rfl
      · split <;> rfl
  · have hruns : s.berths[b].awake ≠ .asleep → s.idleRuns s.berths[b] = true := fun ha =>
      (State.idleRuns_iff s _).2 ⟨hp, ha, fun ⟨a, h1, h2⟩ => hg a h1 h2⟩
    refine ⟨fun ha h0 hle => ?_, fun ha h0 hle => ?_⟩
    · have hr := hruns (by rw [ha]; decide)
      have hdims := (State.dims_iff s s.berths[b]).2 ⟨hm, hr, ha, h0, le_idleAfter hle⟩
      rw [exec_free hs]
      refine congrArg Host.Outcome.next ((if_pos hdims).trans (State.modBerth_ticked (x := (.dimmed, 0)) (by rw [ha]; decide) ?_))
      exact if_pos ⟨ha, h0, le_idleAfter hle⟩
    · have hr := hruns (by rw [ha]; decide)
      have hsleeps := (State.sleeps_iff s s.berths[b]).2 ⟨hm, hr, ha, h0, le_idleAfter hle⟩
      rw [exec_free hs]
      refine congrArg Host.Outcome.next ((if_pos hsleeps).trans (State.modBerth_ticked (x := (.asleep, 0)) (by rw [ha]; decide) ?_))
      exact (if_neg fun k => by rw [ha] at k; cases k.1).trans (if_pos ⟨ha, h0, le_idleAfter hle⟩)

/-- Settles O8: the two samplers by `eighthSample_eq`, the berths by `State.evaluated_eq`, the counts by
`State.quietHandOver_counts`. -/
theorem quietAccepted : Obligations.QuietAccepted := by
  refine ⟨fun s => ?_, fun p => ⟨rfl, rfl⟩, fun qa qb s hs _ => ?_⟩
  · unfold State.effectiveQA State.effectiveQB effectiveLevel
    exact ⟨by cases s.mgmt.settings.modeQA <;> rfl, by cases s.mgmt.settings.modeQB <;> rfl⟩
  have same := State.quietHandOver_same (s.eighthTaken qa qb) s.effectiveQA s.effectiveQB
  obtain ⟨hqa, hqb⟩ := State.quietHandOver_levels (s.eighthTaken qa qb) s.effectiveQA s.effectiveQB
  have hcounts := State.quietHandOver_counts (s.eighthTaken qa qb) s.effectiveQA s.effectiveQB
  have hget := State.quietHandOver_get (s.eighthTaken qa qb) s.effectiveQA s.effectiveQB
  have htimer : (s.acceptQuiet qa qb).timer = (s.eighthTaken qa qb).timer := same.timer (by decide)
  rw [← State.acceptQuiet_eq] at hqa hqb hcounts hget
  refine ⟨s.acceptQuiet qa qb, exec_free hs _, ?_, ?_, ?_, ?_, ?_, ?_, ?_, ?_⟩
  · rw [htimer]
    exact State.acceptQuiet_frame s qa qb
  · rw [htimer]; exact (eighthSample_eq _ _).1
  · rw [htimer]; exact (eighthSample_eq _ _).2
  · rw [htimer]; exact (eighthSample_eq _ _).1
  · rw [htimer]; exact (eighthSample_eq _ _).2
  · rintro ⟨h1, h2⟩
    rw [hqa] at h1
    rw [hqb] at h2
    have e : s.acceptQuiet qa qb = s.eighthTaken qa qb := if_pos ⟨h1, h2⟩
    rw [e]
    exact ⟨rfl, rfl⟩
  · intro hne b
    rw [hqa, hqb] at hne ⊢
    have hb : (s.acceptQuiet qa qb).berths[b] = (s.eighthTaken qa qb).evaluated s.berths[b] :=
      (hget b).trans (if_neg fun ⟨h1, h2⟩ => hne.elim (fun h => h h1) (fun h => h h2))
    rw [hb, State.evaluated_regime]
    refine ⟨formRegime_night _ _ _, fun h => ?_, fun h => ?_⟩
    · exact if_pos h
    · rw [State.evaluated_eq, if_neg h]
      rfl
  · rw [hcounts]
    unfold regimesCounted
    rw [hqa, hqb]
    rfl
end

section
/-! PROOF. The service of the video queues (R118 to R121) and the distance of cycle numbers (R6). -/

open Sys2Proof
open Sys2Proof.Machine

namespace Sys2Proof.Machine

/-- R6: the distance of two cycle numbers. -/
theorem cycleDistance_spec (a b : Word16) : -32768 ≤ cycleDistance a b ∧ cycleDistance a b ≤ 32767 ∧
    cycleDistance a b % 65536 = ((a.toNat : Int) - b.toNat) % 65536 := by
  unfold cycleDistance
  rw [BitVec.toInt_eq_toNat_cond, BitVec.toNat_sub]
  have ha := a.isLt
  have hb := b.isLt
  split <;> omega

theorem entryLate_iff (n : Word16) (e : VideoEntry) : entryLate n e = true ↔ cycleDistance e.due n < 0 := by
  simp [entryLate]

theorem not_entryLate_iff (n : Word16) (e : VideoEntry) : entryLate n e = false ↔ 0 ≤ cycleDistance e.due n := by
  simp [entryLate]

/-! ### One queue served (R119) -/

/-- R119: the three ways in which the head of a queue is served. -/
theorem serveQueue_cons (n : Word16) (e : VideoEntry) (es : List VideoEntry) (budget : Nat) :
    (entryLate n e = true ∧ serveQueue n (e :: es) budget =
      { serveQueue n es budget with late := e :: (serveQueue n es budget).late }) ∨
    (entryLate n e = false ∧ e.length + 8 ≤ budget ∧ serveQueue n (e :: es) budget =
      { serveQueue n es (budget - (e.length + 8)) with
        sent := e :: (serveQueue n es (budget - (e.length + 8))).sent }) ∨
    (entryLate n e = false ∧ budget < e.length + 8 ∧
      serveQueue n (e :: es) budget = { sent := [], late := [], rest := e :: es, budget := budget }) := by
  have cost : segmentCost e.length = e.length + 8 := by simp [segmentCost]
  rw [serveQueue, cost]
  by_cases hl : entryLate n e = true
  · exact .inl ⟨hl, if_pos hl⟩
  · have hf : entryLate n e = false := Bool.eq_false_iff.2 hl
    by_cases hb : e.length + 8 ≤ budget
    · exact .inr (.inl ⟨hf, hb, (if_neg hl).trans (if_pos hb)⟩)
    · exact .inr (.inr ⟨hf, Nat.lt_of_not_le hb, (if_neg hl).trans (if_neg hb)⟩)

/-- R119: the served part of a queue is sent or discarded late, entry by entry. -/
theorem serveQueue_split (n : Word16) (q : List VideoEntry) (budget : Nat) :
    ∃ served, q = served ++ (serveQueue n q budget).rest ∧
      (serveQueue n q budget).sent = (served.filter fun e => !entryLate n e) ∧
      (serveQueue n q budget).late = served.filter (entryLate n) := by
  induction q generalizing budget with
  | nil => exact ⟨[], rfl, rfl, rfl⟩
  | cons e es ih =>
    obtain ⟨hl, eq⟩ | ⟨hf, -, eq⟩ | ⟨-, -, eq⟩ := serveQueue_cons n e es budget
    · obtain ⟨served, h1, h2, h3⟩ := ih budget
      refine ⟨e :: served, ?_, ?_, ?_⟩
      · rw [eq, List.cons_append, ← h1]
      · rw [eq, List.filter_cons_of_neg (by simp [hl]), ← h2]
      · rw [eq, List.filter_cons_of_pos hl, ← h3]
    · obtain ⟨served, h1, h2, h3⟩ := ih (budget - (e.length + 8))
      refine ⟨e :: served, ?_, ?_, ?_⟩
      · rw [eq, List.cons_append, ← h1]
      · rw [eq, List.filter_cons_of_pos (by simp [hf]), ← h2]
      · rw [eq, List.filter_cons_of_neg (by simp [hf]), ← h3]
    · exact ⟨[], by rw [eq]; rfl, by rw [eq]; rfl, by rw [eq]; rfl⟩

/-- R119: what is sent costs what of the budget is gone. -/
theorem serveQueue_budget (n : Word16) (q : List VideoEntry) (budget : Nat) :
    ((serveQueue n q budget).sent.map fun e => e.length + 8).sum + (serveQueue n q budget).budget = budget := by
  induction q generalizing budget with
  | nil => simp [serveQueue]
  | cons e es ih =>
    obtain ⟨-, eq⟩ | ⟨-, hb, eq⟩ | ⟨-, -, eq⟩ := serveQueue_cons n e es budget
    · rw [eq]
      exact ih budget
    · have h := ih (budget - (e.length + 8))
      rw [eq]
      dsimp only
      rw [List.map_cons, List.sum_cons]
      omega
    · rw [eq]
      simp

/-- R119: serving ends at an empty queue, or at a head that is in time and does not fit. -/
theorem serveQueue_rest (n : Word16) (q : List VideoEntry) (budget : Nat) (e : VideoEntry) (es : List VideoEntry)
    (h : (serveQueue n q budget).rest = e :: es) :
    0 ≤ cycleDistance e.due n ∧ (serveQueue n q budget).budget < e.length + 8 := by
  induction q generalizing budget with
  | nil => cases h
  | cons x xs ih =>
    obtain ⟨-, eq⟩ | ⟨-, -, eq⟩ | ⟨hf, hb, eq⟩ := serveQueue_cons n x xs budget
    · rw [eq] at h ⊢
      exact ih budget h
    · rw [eq] at h ⊢
      exact ih _ h
    · rw [eq] at h ⊢
      cases h
      exact ⟨(not_entryLate_iff n e).1 hf, hb⟩

/-- R119: what is sent is in time. -/
theorem serveQueue_sent (n : Word16) (q : List VideoEntry) (budget : Nat) :
    ∀ e ∈ (serveQueue n q budget).sent, 0 ≤ cycleDistance e.due n := by
  obtain ⟨served, -, h, -⟩ := serveQueue_split n q budget
  intro e he
  rw [h, List.mem_filter, Bool.not_eq_true'] at he
  exact (not_entryLate_iff n e).1 he.2

/-- R119: what is discarded is late. -/
theorem serveQueue_late (n : Word16) (q : List VideoEntry) (budget : Nat) :
    ∀ e ∈ (serveQueue n q budget).late, cycleDistance e.due n < 0 := by
  obtain ⟨served, -, -, h⟩ := serveQueue_split n q budget
  intro e he
  rw [h, List.mem_filter] at he
  exact (entryLate_iff n e).1 he.2

/-- R119: nothing of a queue is lost. -/
theorem serveQueue_count (n : Word16) (q : List VideoEntry) (budget : Nat) (x : VideoEntry) :
    List.count x (serveQueue n q budget).sent + List.count x (serveQueue n q budget).late +
      List.count x (serveQueue n q budget).rest = List.count x q := by
  induction q generalizing budget with
  | nil => simp [serveQueue]
  | cons e es ih =>
    obtain ⟨-, eq⟩ | ⟨-, -, eq⟩ | ⟨-, -, eq⟩ := serveQueue_cons n e es budget
    · have h := ih budget
      rw [eq]
      simp only [List.count_cons] at h ⊢
      omega
    · have h := ih (budget - (e.length + 8))
      rw [eq]
      simp only [List.count_cons] at h ⊢
      omega
    · rw [eq]
      simp

/-! ### The assembly of a chain (R118 to R121) -/

/-- R120: while W is below the service ratio the priority queue is served first. -/
theorem assemble_priority_first {ch : Chain} (n : Word16) (h : ch.wait < ch.ratio) :
    let x := serveQueue n (ch.priority.dropWhile (entryLate n)) ch.budget
    let y := serveQueue n (ch.program.dropWhile (entryLate n)) x.budget
    ch.assemble n =
      { priority := x.rest, program := y.rest, sent := x.sent ++ y.sent
        late := ch.priority.takeWhile (entryLate n) ++ ch.program.takeWhile (entryLate n) ++ x.late ++ y.late
        wait := waitAfter ch.wait (ch.program.dropWhile (entryLate n)) y.sent } :=
  if_pos h

/-- R120: from the service ratio on the program queue is served first. -/
theorem assemble_program_first {ch : Chain} (n : Word16) (h : ch.ratio ≤ ch.wait) :
    let y := serveQueue n (ch.program.dropWhile (entryLate n)) ch.budget
    let x := serveQueue n (ch.priority.dropWhile (entryLate n)) y.budget
    ch.assemble n =
      { priority := x.rest, program := y.rest, sent := y.sent ++ x.sent
        late := ch.priority.takeWhile (entryLate n) ++ ch.program.takeWhile (entryLate n) ++ y.late ++ x.late
        wait := waitAfter ch.wait (ch.program.dropWhile (entryLate n)) y.sent } :=
  if_neg (Nat.not_lt.2 h)

/-- R118, R119: what the assembly of a chain sends, discards and keeps is what its two queues, served within two parts of
the budget, send, discard and keep, with the late heads of both. -/
theorem assemble_served (ch : Chain) (n : Word16) : ∃ j k : Nat,
    let x := serveQueue n (ch.priority.dropWhile (entryLate n)) j
    let y := serveQueue n (ch.program.dropWhile (entryLate n)) k
    (ch.assemble n).priority = x.rest ∧ (ch.assemble n).program = y.rest ∧
    (ch.assemble n).sent.Perm (x.sent ++ y.sent) ∧
    (ch.assemble n).late.Perm
      (ch.priority.takeWhile (entryLate n) ++ ch.program.takeWhile (entryLate n) ++ (x.late ++ y.late)) ∧
    (x.sent.map fun e => e.length + 8).sum + (y.sent.map fun e => e.length + 8).sum ≤ ch.budget := by
  dsimp only
  by_cases h : ch.wait < ch.ratio
  · let j := ch.budget
    let k := (serveQueue n (ch.priority.dropWhile (entryLate n)) j).budget
    have bx := serveQueue_budget n (ch.priority.dropWhile (entryLate n)) j
    have bY := serveQueue_budget n (ch.program.dropWhile (entryLate n)) k
    refine ⟨j, k, ?_⟩
    rw [assemble_priority_first n h]
    refine ⟨rfl, rfl, .refl _, ?_, by omega⟩
    rw [← List.append_assoc]
  · let k := ch.budget
    let j := (serveQueue n (ch.program.dropWhile (entryLate n)) k).budget
    have bY := serveQueue_budget n (ch.program.dropWhile (entryLate n)) k
    have bx := serveQueue_budget n (ch.priority.dropWhile (entryLate n)) j
    refine ⟨j, k, ?_⟩
    rw [assemble_program_first n (Nat.not_lt.1 h)]
    refine ⟨rfl, rfl, List.perm_append_comm, ?_, by omega⟩
    rw [List.append_assoc]
    exact List.perm_append_comm.append_left _

/-- The late heads of a queue, and what follows them, are the queue. -/
theorem count_late_heads (n : Word16) (q : List VideoEntry) (e : VideoEntry) :
    List.count e (q.takeWhile (entryLate n)) + List.count e (q.dropWhile (entryLate n)) = List.count e q := by
  rw [← List.count_append, List.takeWhile_append_dropWhile]

/-- R118, R119: an assembly loses no entry. -/
theorem assemble_perm (ch : Chain) (n : Word16) :
    ((ch.assemble n).sent ++ (ch.assemble n).late ++ (ch.assemble n).priority ++ (ch.assemble n).program).Perm
      (ch.priority ++ ch.program) := by
  obtain ⟨j, k, h1, h2, h3, h4, -⟩ := assemble_served ch n
  rw [List.perm_iff_count]
  intro e
  have c3 := h3.count_eq e
  have c4 := h4.count_eq e
  have cx := serveQueue_count n (ch.priority.dropWhile (entryLate n)) j e
  have cy := serveQueue_count n (ch.program.dropWhile (entryLate n)) k e
  have kx := count_late_heads n ch.priority e
  have ky := count_late_heads n ch.program e
  simp only [List.count_append] at c3 c4 ⊢
  rw [h1, h2]
  omega

/-- R119: what an assembly sends fits the budget of the chain. -/
theorem assemble_cost (ch : Chain) (n : Word16) :
    ((ch.assemble n).sent.map fun e => e.length + 8).sum ≤ ch.budget := by
  obtain ⟨j, k, -, -, h3, -, h5⟩ := assemble_served ch n
  rw [(h3.map _).sum_eq, List.map_append, List.sum_append]
  exact h5

/-- R119: what an assembly sends is in time. -/
theorem assemble_sent (ch : Chain) (n : Word16) : ∀ e ∈ (ch.assemble n).sent, 0 ≤ cycleDistance e.due n := by
  obtain ⟨j, k, -, -, h3, -⟩ := assemble_served ch n
  intro e he
  rcases List.mem_append.1 (h3.mem_iff.1 he) with h | h
  · exact serveQueue_sent n _ _ e h
  · exact serveQueue_sent n _ _ e h

/-- R118, R119: what an assembly discards is late. -/
theorem assemble_late (ch : Chain) (n : Word16) : ∀ e ∈ (ch.assemble n).late, cycleDistance e.due n < 0 := by
  obtain ⟨j, k, -, -, -, h4, -⟩ := assemble_served ch n
  intro e he
  simp only [h4.mem_iff, List.mem_append] at he
  obtain (h | h) | h | h := he
  · exact (entryLate_iff n e).1 (List.mem_takeWhile_imp h)
  · exact (entryLate_iff n e).1 (List.mem_takeWhile_imp h)
  · exact serveQueue_late n _ _ e h
  · exact serveQueue_late n _ _ e h

/-- The entries of two lists that refer to a slot, in any order. -/
theorem references_append_comm (xs ys : List VideoEntry) (i : Fin 256) :
    references (xs ++ ys) i = references (ys ++ xs) i :=
  (List.perm_append_comm.filter _).length_eq

/-- R110: the store after the release of a list of references. -/
theorem slotsReleased_of {s t : State} {es : List VideoEntry} (h : t.store = releaseAll s.store es) :
    SlotsReleased s t (references es) := by
  intro i
  rw [h, releaseAll_get]
  refine ⟨fun h0 => ?_, fun g hg hk => ?_⟩
  · split
    · rfl
    · next hk => rw [h0.resolve_right hk]; rfl
  · rw [if_neg hk, hg]
    rfl

/-- R119: the bytes of a slot. -/
theorem slotBytes_eq (st : Vector (Option Segment) 256) (i : Fin 256) :
    slotBytes st i = ((st[i]).map Segment.bytes).getD [] := by
  unfold slotBytes
  cases st[i] <;> rfl

end Sys2Proof.Machine

/-- Settles O22: one queue by induction along it (`serveQueue_split`, `_budget`, `_rest`), an assembly as two queues
served within the budget (`assemble_served`), the store by `slotsReleased_of`. -/
theorem queueServed : Obligations.QueueServed := by
  refine ⟨cycleDistance_spec, fun n q budget => ?_, fun w before sent _ => ?_, fun n ch => ?_, fun n c s => ?_⟩
  · exact ⟨serveQueue_split n q budget, serveQueue_budget n q budget, serveQueue_sent n q budget,
      serveQueue_late n q budget, serveQueue_rest n q budget⟩
  · refine ⟨fun hb => ?_, fun hb hs => ?_, fun hb hs => ?_⟩
    · simp [waitAfter, hb]
    · simp [waitAfter, hb, hs]
    · simp [waitAfter, hb, hs]
  · refine ⟨fun h => ?_, fun h => ?_, assemble_perm ch n, assemble_cost ch n, assemble_sent ch n, assemble_late ch n⟩
    · rw [assemble_priority_first n h]
      exact ⟨rfl, rfl, rfl, rfl⟩
    · rw [assemble_program_first n h]
      exact ⟨rfl, rfl, rfl, rfl⟩
  · refine ⟨rfl, ?_, ?_⟩
    · unfold State.videoArea videoItems
      simp only [slotBytes_eq]
    · have h : SlotsReleased s (s.assembleVideo c n)
          (references ((s.chains[c].assemble n).late ++ (s.chains[c].assemble n).sent)) := slotsReleased_of rfl
      rw [show references ((s.chains[c].assemble n).sent ++ (s.chains[c].assemble n).late) =
        references ((s.chains[c].assemble n).late ++ (s.chains[c].assemble n).sent) from
          funext (references_append_comm _ _)]
      exact h
end

section
/-! PROOF. The answer to a command (R146, R149, R153), and the clearing commands (R11, R38, R162, R164, R165). -/

open Sys2Proof
open Sys2Proof.Machine

namespace Sys2Proof.Machine

/-! ### A reply placed (R149, R150) -/

/-- R150: a reply that waits in the slot is still there, or on the line, after the transmitter took what it takes. -/
theorem UpstreamPort.pump_slot {u : UpstreamPort} {r : Reply} (h : u.slot = some r) :
    u.pump.slot = some r ∨ u.pump.sending = some (.reply r) := by
  unfold UpstreamPort.pump
  split
  · exact .inl h
  · next hs _ => rw [h] at hs; cases hs
  · next hs _ => rw [h] at hs; cases hs; exact .inr rfl
  · next hs _ => rw [h] at hs; cases hs
  · next hs _ =>
    rw [h] at hs
    cases hs
    split
    · exact .inr rfl
    · exact .inl h

/-- R150: taking a parcel counts nothing. -/
theorem UpstreamPort.pump_counts (u : UpstreamPort) : u.pump.counts = u.counts := by
  unfold UpstreamPort.pump
  split
  · rfl
  · rfl
  · rfl
  · rfl
  · split <;> rfl

/-- R149: a reply goes into an empty slot. -/
theorem UpstreamPort.placeReply_empty {u : UpstreamPort} (r : Reply) (h : u.slot = none) :
    ((u.placeReply r).slot = some r ∨ (u.placeReply r).sending = some (.reply r)) ∧
    (u.placeReply r).counts = u.counts := by
  have e : u.placeReply r = { u with slot := some r }.pump := if_neg (by simp [h])
  rw [e]
  exact ⟨UpstreamPort.pump_slot rfl, UpstreamPort.pump_counts _⟩

/-- R149: a reply that finds the slot occupied is discarded and counted. -/
theorem UpstreamPort.placeReply_full {u : UpstreamPort} (r : Reply) (h : u.slot ≠ none) :
    u.placeReply r = { u with counts := { u.counts with repliesDiscarded := bump u.counts.repliesDiscarded } } :=
  if_pos (Option.isSome_iff_ne_none.2 h)

/-! ### A command executed (R146, R149) -/

/-- The state with other ports. -/
def State.withPorts (s : State) (x : UpstreamPort) (y : ThroughPort) : State := { s with up := x, thru := y }

/-- R146: the state in which a command that the part executes finds it. -/
def State.heard (s : State) (h : Header) (payload : List Byte) : State :=
  s.withPorts s.receivedU.up
    (if h.target = s.node.address then s.thru else s.thru.enqueue (parcelOf .command h payload))

/-- R146, R149: a command that asks for no reset is executed, and answered when it came to the node address alone and
wants a reply. -/
theorem takeCommand_addressed {s : State} {h : Header} (ha : Addressed s h) (payload : List Byte)
    {manage : State → Managed} (hr : (manage (s.heard h payload)).2.restart = false) :
    s.takeCommand h payload manage =
      if h.target = s.node.address ∧ replyWanted h = true then
        (manage (s.heard h payload)).1.modUp fun u =>
          u.placeReply ((manage (s.heard h payload)).1.replyTo h (manage (s.heard h payload)).2)
      else (manage (s.heard h payload)).1 := by
  by_cases hown : h.target = s.node.address
  · have e : s.heard h payload = s.receivedU := by
      unfold State.heard
      rw [if_pos hown]
      rfl
    rw [e] at hr ⊢
    rw [takeCommand_own h payload manage hown]
    by_cases hw : replyWanted h = true
    · rw [if_pos hw, if_pos ⟨hown, hw⟩]
      exact if_neg (by simp [hr])
    · rw [if_neg hw, if_neg fun k => hw k.2]
      exact if_neg (by simp [hr])
  · have e : s.heard h payload = s.receivedU.queueThrough (parcelOf .command h payload) := by
      unfold State.heard
      rw [if_neg hown]
      rfl
    rw [e] at hr ⊢
    rw [takeCommand_broadcast h payload manage hown (ha.resolve_left hown), if_neg fun k => hown k.1]
    exact if_neg (by simp [hr])

/-- R153: the outcome byte tells an accepted command from a refused one. -/
theorem verdictCode_accepted (v : Verdict) : (verdictCode v == 0) = (v == .accepted) := by
  cases v <;> rfl

/-- R146, R149: a command whose effect `u` and answer `a` do not depend on the ports leaves that effect, and answers. -/
theorem takeCommand_answers {s u : State} {h : Header} {payload : List Byte} {manage : State → Managed} {a : Answer}
    (ha : Addressed s h) (hm : ∀ x y, manage (s.withPorts x y) = (u.withPorts x y, a))
    (hr : a.restart = false) (hn : u.node = s.node) (hc : a.code = payload.headD 0) :
    s.takeCommand h payload manage =
      u.withPorts (s.takeCommand h payload manage).up (s.takeCommand h payload manage).thru ∧
    Answers s (s.takeCommand h payload manage) h payload (verdictCode a.verdict) a.detail a.body := by
  have em : manage (s.heard h payload) =
      (u.withPorts (s.heard h payload).up (s.heard h payload).thru, a) := hm _ _
  have e := takeCommand_addressed ha payload (manage := manage) (by rw [em]; exact hr)
  rw [em] at e
  dsimp only at e
  have hthru : (s.takeCommand h payload manage).thru = (s.heard h payload).thru := by
    rw [e]
    split <;> rfl
  refine ⟨?_, fun hown hw h0 => ?_, fun hown hw h0 => ?_, fun hno => ?_, fun hown => ?_, fun hown => ?_⟩
  · rw [e]
    split <;> rfl
  · rw [if_pos ⟨hown, hw⟩] at e
    have h0' : s.receivedU.up.slot = none := h0
    rw [e]
    refine ⟨State.replyTo _ h a, (UpstreamPort.placeReply_empty _ h0').1, hr, rfl, ?_, rfl, ?_, ?_⟩
    · exact congrArg Node.address hn
    · rw [verdictCode_accepted]
      rfl
    · rw [← hc]
      rfl
  · rw [if_pos ⟨hown, hw⟩] at e
    rw [e]
    show ((s.receivedU.up.placeReply _).slot = _) ∧ ((s.receivedU.up.placeReply _).counts.repliesDiscarded = _)
    rw [UpstreamPort.placeReply_full _ (show s.receivedU.up.slot ≠ none from h0)]
    exact ⟨rfl, rfl⟩
  · rw [if_neg fun k => hno.elim (fun h => h k.1) fun h => by rw [h] at k; cases k.2] at e
    rw [e]
    rfl
  · rw [hthru]
    exact if_pos hown
  · rw [hthru]
    exact if_neg hown

/-! ### Counter groups (R162) -/

/-- A list of zero counts. -/
theorem eq_zero_of_replicate {l : List Count} {n : Nat} (h : l = List.replicate n 0) : ∀ k ∈ l, k = 0 :=
  fun _ hk => List.eq_of_mem_replicate (h ▸ hk)

/-- R162: a cleared group holds zeros. -/
theorem clearGroup_zero (s : State) (g : Group) : ∀ k ∈ (s.clearGroup g).groupCounts g, k = 0 := by
  obtain ⟨hu, ht, hv, ha, hc, hp⟩ := zero_lists
  cases g with
  | portU => exact eq_zero_of_replicate hu
  | portT => exact eq_zero_of_replicate ht
  | stream v =>
    rw [State.clearGroup, State.groupCounts, State.countStream_get, if_pos rfl]
    exact eq_zero_of_replicate hv
  | channel a =>
    rw [State.clearGroup, State.groupCounts, State.countChannel_get, if_pos rfl]
    exact eq_zero_of_replicate ha
  | chain c =>
    rw [State.clearGroup, State.groupCounts, State.countChain_get, if_pos rfl]
    exact eq_zero_of_replicate hc
  | part => exact eq_zero_of_replicate hp

/-- R162: a clear leaves every other group. -/
theorem clearGroup_other (s : State) {g g' : Group} (h : g' ≠ g) :
    (s.clearGroup g).groupCounts g' = s.groupCounts g' := by
  cases g with
  | portU =>
    cases g' with
    | portU => exact absurd rfl h
    | _ => rfl
  | portT =>
    cases g' with
    | portT => exact absurd rfl h
    | _ => rfl
  | stream v =>
    cases g' with
    | stream w =>
      rw [State.clearGroup, State.groupCounts, State.countStream_get, if_neg fun e : w = v => h (congrArg Group.stream e)]
      rfl
    | _ => rfl
  | channel a =>
    cases g' with
    | channel a' =>
      rw [State.clearGroup, State.groupCounts, State.countChannel_get, if_neg fun e : a' = a => h (congrArg Group.channel e)]
      rfl
    | _ => rfl
  | chain c =>
    cases g' with
    | chain c' =>
      rw [State.clearGroup, State.groupCounts, State.countChain_get, if_neg fun e : c' = c => h (congrArg Group.chain e)]
      rfl
    | _ => rfl
  | part =>
    cases g' with
    | part => exact absurd rfl h
    | _ => rfl

/-- R162: a clear of a group that is no port's changes only counts. -/
theorem clearGroup_frame (s : State) (g : Group) :
    (∀ v : StreamIx, (s.clearGroup g).streams[v] =
      { s.streams[v] with counts := (s.clearGroup g).streams[v].counts }) ∧
    (∀ a : ChannelIx, (s.clearGroup g).channels[a] =
      { s.channels[a] with counts := (s.clearGroup g).channels[a].counts }) ∧
    (∀ c : ChainIx, (s.clearGroup g).chains[c] =
      { s.chains[c] with counts := (s.clearGroup g).chains[c].counts }) := by
  cases g with
  | stream v =>
    refine ⟨fun w => ?_, fun _ => rfl, fun _ => rfl⟩
    rw [State.clearGroup, State.countStream_get]
    split
    · next h => rw [h]
    · rfl
  | channel a =>
    refine ⟨fun _ => rfl, fun a' => ?_, fun _ => rfl⟩
    rw [State.clearGroup, State.countChannel_get]
    split
    · next h => rw [h]
    · rfl
  | chain c =>
    refine ⟨fun _ => rfl, fun _ => rfl, fun c' => ?_⟩
    rw [State.clearGroup, State.countChain_get]
    split
    · next h => rw [h]
    · rfl
  | _ => exact ⟨fun _ => rfl, fun _ => rfl, fun _ => rfl⟩

/-- R162: what a clear of a group that is no port's changes does not depend on the ports. -/
theorem clearGroup_ports (s : State) {g : Group} (hu : g ≠ .portU) (ht : g ≠ .portT) (x : UpstreamPort)
    (y : ThroughPort) : (s.withPorts x y).clearGroup g = (s.clearGroup g).withPorts x y := by
  cases g with
  | portU => exact absurd rfl hu
  | portT => exact absurd rfl ht
  | _ => rfl

/-- R162: CLEAR COUNTERS with the two bytes that name a group. -/
theorem manageClearCounters_group {group index : Byte} {g : Group} (h : groupOf group index = .ok g) (s : State) :
    manageClearCounters [group, index] s = accept (s.clearGroup g) 0x09 := by
  show (match groupOf group index with
    | .error (v, d) => refuse s 0x09 v d
    | .ok g => accept (s.clearGroup g) 0x09) = _
  rw [h]

/-- R148: a parcel queued for the through port leaves its link. -/
theorem ThroughPort.enqueue_link (t : ThroughPort) (p : Parcel) : (t.enqueue p).link = t.link := by
  unfold ThroughPort.enqueue
  split
  · rfl
  · split
    · rfl
    · unfold ThroughPort.pump
      split
      · split <;> rfl
      · rfl

/-- R162: CLEAR COUNTERS of a group that is no port's. -/
theorem clearCounters_group {s : State} {h : Header} (ha : Addressed s h) {group index : Byte} {g : Group}
    (hg : groupOf group index = .ok g) (hu : g ≠ .portU) (ht : g ≠ .portT) :
    s.command h .clearCounters [group, index] = (s.clearGroup g).withPorts
      (s.command h .clearCounters [group, index]).up (s.command h .clearCounters [group, index]).thru ∧
    Answers s (s.command h .clearCounters [group, index]) h [0x09, group, index] 0 0 [] := by
  refine takeCommand_answers (u := s.clearGroup g) ha (a := (accept s 0x09).2) (fun x y => ?_) rfl ?_ rfl
  · show manageClearCounters [group, index] (s.withPorts x y) = _
    rw [manageClearCounters_group hg, clearGroup_ports s hu ht]
    rfl
  · cases g <;> rfl

/-- R162: a clear of a group that is no port's writes streams, channels, chains and part counts. -/
theorem clearGroup_same (s : State) {g : Group} (hu : g ≠ .portU) (ht : g ≠ .portT) : s.clearGroup g =
    { s with
      counts := (s.clearGroup g).counts, streams := (s.clearGroup g).streams
      channels := (s.clearGroup g).channels, chains := (s.clearGroup g).chains } := by
  cases g with
  | portU => exact absurd rfl hu
  | portT => exact absurd rfl ht
  | _ => rfl

/-- The counts of a group that is no port's do not depend on the ports. -/
theorem groupCounts_withPorts (s : State) (x : UpstreamPort) (y : ThroughPort) {g : Group} (hu : g ≠ .portU)
    (ht : g ≠ .portT) : (s.withPorts x y).groupCounts g = s.groupCounts g := by
  cases g with
  | portU => exact absurd rfl hu
  | portT => exact absurd rfl ht
  | _ => rfl

/-- R162: CLEAR COUNTERS of port U: the reply that finds the slot occupied is counted after the clear (log 25). -/
theorem clearCounters_portU {s : State} {h : Header} (ha : Addressed s h) (index : Byte) :
    (∃ x y, s.command h .clearCounters [1, index] = s.withPorts x y) ∧
    (s.command h .clearCounters [1, index]).up.counts =
      if h.target = s.node.address ∧ replyWanted h = true ∧ s.up.slot ≠ none then
        { UpstreamCounts.zero with repliesDiscarded := 1 } else .zero := by
  have e := takeCommand_addressed ha [0x09, 1, index] (manage := manageClearCounters [1, index])
    (by rw [manageClearCounters_group rfl]; rfl)
  rw [manageClearCounters_group rfl] at e
  have ec : s.command h .clearCounters [1, index] =
    s.takeCommand h [0x09, 1, index] (manageClearCounters [1, index]) := rfl
  rw [ec, e]
  by_cases hw : h.target = s.node.address ∧ replyWanted h = true
  · rw [if_pos hw]
    refine ⟨⟨_, _, rfl⟩, ?_⟩
    by_cases h0 : s.up.slot = none
    · rw [if_neg fun k => k.2.2 h0]
      exact (UpstreamPort.placeReply_empty (u := { s.up with counts := .zero }) _ h0).2
    · rw [if_pos ⟨hw.1, hw.2, h0⟩]
      exact congrArg UpstreamPort.counts (UpstreamPort.placeReply_full (u := { s.up with counts := .zero }) _ h0)
  · rw [if_neg hw, if_neg fun k => hw ⟨k.1, k.2.1⟩]
    exact ⟨⟨_, _, rfl⟩, rfl⟩

/-- R162: CLEAR COUNTERS of port T; the copy of a broadcast one is queued before the clear (log 27). -/
theorem clearCounters_portT {s : State} {h : Header} (ha : Addressed s h) (index : Byte) :
    (∃ x y, s.command h .clearCounters [2, index] = s.withPorts x y) ∧
    (s.command h .clearCounters [2, index]).thru.counts = .zero ∧
    (s.command h .clearCounters [2, index]).thru.link = s.thru.link := by
  have e := takeCommand_addressed ha [0x09, 2, index] (manage := manageClearCounters [2, index])
    (by rw [manageClearCounters_group rfl]; rfl)
  rw [manageClearCounters_group rfl] at e
  have ec : s.command h .clearCounters [2, index] =
    s.takeCommand h [0x09, 2, index] (manageClearCounters [2, index]) := rfl
  have hl : (s.heard h [0x09, 2, index]).thru.link = s.thru.link := by
    show (if _ then _ else _ : ThroughPort).link = _
    split
    · rfl
    · exact ThroughPort.enqueue_link _ _
  rw [ec, e]
  split
  · exact ⟨⟨_, _, rfl⟩, rfl, hl⟩
  · exact ⟨⟨_, _, rfl⟩, rfl, hl⟩

/-! ### The other clears (R11, R38, R164, R165) -/

/-- The number that two bytes hold. -/
theorem fieldAt_two (hi lo : Byte) : fieldAt [hi, lo] 0 2 = hi.toNat * 256 + lo.toNat := by
  simp [fieldAt, beNat]

/-- R164: CLEAR ATTENTION. -/
theorem clearAttention_answers {s : State} {h : Header} (ha : Addressed s h) (hi lo : Byte) :
    let t := s.command h .clearAttention [hi, lo]
    t = (s.clearAttention (BitVec.ofNat 16 (hi.toNat * 256 + lo.toNat))).withPorts t.up t.thru ∧
    Answers s t h [0x0B, hi, lo] 0 0
      (beBytes 2 (s.clearAttention (BitVec.ofNat 16 (hi.toNat * 256 + lo.toNat))).attentionReported.toNat) := by
  refine takeCommand_answers ha
    (a := (accept s 0x0B 0 (beBytes 2
      (s.clearAttention (BitVec.ofNat 16 (hi.toNat * 256 + lo.toNat))).attentionReported.toNat)).2)
    (fun x y => ?_) rfl rfl rfl
  rw [← fieldAt_two hi lo]
  rfl

/-- The elements that a filter drops are those that its complement keeps. -/
theorem length_sub_filter {α : Type} (l : List α) (p : α → Bool) :
    l.length - (l.filter fun x => !p x).length = (l.filter p).length := by
  have h := List.length_eq_length_filter_add (l := l) p
  omega

/-- R38, R165: ACKNOWLEDGE CALLS. -/
theorem acknowledgeCalls_answers {s : State} {h : Header} (ha : Addressed s h) {body : List Byte}
    (hl : body.length = 6) :
    let t := s.command h .acknowledgeCalls body
    let named := BitVec.ofNat 48 (fieldAt body 0 6)
    t = (s.acknowledge named).withPorts t.up t.thru ∧
    Answers s t h (0x0D :: body) 0 (BitVec.ofNat 8 (s.calls.filter fun b => named.getLsbD b.val).length) [] := by
  intro t named
  refine takeCommand_answers (payload := 0x0D :: body) (u := s.acknowledge named) ha
    (a := (accept s 0x0D
      (BitVec.ofNat 8 (s.calls.filter fun b => named.getLsbD b.val).length)).2)
    (fun x y => ?_) rfl rfl rfl
  show withLength _ _ body 6 _ = _
  rw [withLength, if_pos hl, ← length_sub_filter]
  rfl

/-- R11, R165: CLEAR FAULTS. -/
theorem clearFaults_answers {s : State} {h : Header} (ha : Addressed s h) :
    let t := s.command h .clearFaults []
    t = s.clearFaults.withPorts t.up t.thru ∧ Answers s t h [0x0E] 0 0 [faultByte s.clearFaults.faults.flags] :=
  takeCommand_answers ha (a := (accept s 0x0E 0 [faultByte s.clearFaults.faults.flags]).2) (fun _ _ => rfl) rfl rfl rfl

end Sys2Proof.Machine

/-- Settles O44: each command by what it answers and leaves (`takeCommand_answers`), the groups by `clearGroup_zero` and
`clearGroup_other`. -/
theorem clearingCommands : Obligations.ClearingCommands := by
  refine ⟨fun s hu ht => ?_, fun h s hs ha => ⟨fun group index g hg hu ht => ?_, fun index => ?_, fun index => ?_,
    fun hi lo => ?_, fun body hl => ?_, ?_⟩⟩
  · obtain ⟨eu, et, -⟩ := zero_lists
    show ∀ k ∈ s.up.counts.list ++ s.thru.counts.list, k = 0
    rw [hu, ht]
    intro k hk
    exact (List.mem_append.1 hk).elim (eq_zero_of_replicate eu k) (eq_zero_of_replicate et k)
  · obtain ⟨e, hans⟩ := clearCounters_group ha hg hu ht
    obtain ⟨hv, hch, hc⟩ := clearGroup_frame s g
    refine ⟨_, exec_free hs _, hans, ?_, ?_, ?_, ?_, ?_, fun g' hne hu' ht' => ?_⟩
    all_goals rw [effect, e]
    · exact congrArg (State.withPorts · _ _) (clearGroup_same s hu ht)
    · exact hv
    · exact hch
    · exact hc
    · rw [groupCounts_withPorts _ _ _ hu ht]
      exact clearGroup_zero s g
    · rw [groupCounts_withPorts _ _ _ hu' ht']
      exact clearGroup_other s hne
  · obtain ⟨⟨x, y, e⟩, hcounts⟩ := clearCounters_portU ha index
    exact ⟨_, exec_free hs _, by rw [effect, e]; rfl, hcounts⟩
  · obtain ⟨⟨x, y, e⟩, hcounts, hlink⟩ := clearCounters_portT ha index
    exact ⟨_, exec_free hs _, by rw [effect, e]; rfl, hcounts, hlink⟩
  · obtain ⟨e, hans⟩ := clearAttention_answers ha hi lo
    refine ⟨_, exec_free hs _, ?_, fun c => ?_, fun a => ?_, ?_⟩
    · rw [effect, e]; rfl
    · rw [effect, e]; exact get_ofFn_fin _ _
    · rw [effect, e]; exact get_ofFn_fin _ _
    · have er : (effect (.clearAttention h [hi, lo]) s).attentionSet &&& s.mgmt.settings.attentionMask =
          (s.clearAttention (BitVec.ofNat 16 (hi.toNat * 256 + lo.toNat))).attentionReported := by
        rw [effect, e]
        rfl
      rw [er]
      exact hans
  · obtain ⟨e, hans⟩ := acknowledgeCalls_answers ha hl
    exact ⟨_, exec_free hs _, e, hans⟩
  · obtain ⟨e, hans⟩ := clearFaults_answers ha
    refine ⟨_, exec_free hs _, ?_, ?_, ?_, ?_, ?_⟩
    · rw [effect, e]; rfl
    · rw [effect, e]
      simp [State.withPorts, State.clearFaults, State.markLossHolds]
    · rw [effect, e]
      simp [State.withPorts, State.clearFaults]
    · rw [effect, e]
      simp [State.withPorts, State.clearFaults]
    · have er : (effect (.clearFaults h []) s).faults.flags = s.clearFaults.faults.flags := by
        rw [effect, e]
        rfl
      rw [er]
      exact hans
end

section
/-! PROOF. What the operations of the berth table, the channels, the query engines, the video queues and the return
windows keep of the ranges: idle seconds and gains of each berth; budget, service ratio, wait count and mix clips of each
chain; mode, settings and zones of the part. -/

namespace Sys2Proof.Machine

/-! ### The relation -/

/-- R34, R102: idle seconds and applied gains of a berth within their ranges. -/
def Berth.InRange (r : Berth) : Prop := r.idle ≤ 1023 ∧ r.ap ≤ 256 ∧ r.ad ≤ 256

/-- R109, R120, R127: budget, service ratio and mix clips of a chain are kept, and its wait count stays within 15. -/
structure Chain.Calm (ch ch' : Chain) : Prop where
  budget : ch'.budget = ch.budget
  ratio : ch'.ratio = ch.ratio
  wait : ch.wait ≤ 15 → ch'.wait ≤ 15
  mixClips : ch'.counts.mixClips = ch.counts.mixClips

theorem Chain.Calm.refl (ch : Chain) : Chain.Calm ch ch := ⟨rfl, rfl, id, rfl⟩

theorem Chain.Calm.trans {x y z : Chain} (h : Chain.Calm x y) (k : Chain.Calm y z) : Chain.Calm x z :=
  ⟨k.budget.trans h.budget, k.ratio.trans h.ratio, k.wait ∘ h.wait, k.mixClips.trans h.mixClips⟩

/-- An event that keeps berths and chains within their ranges, and the mode, the settings, the zones and the mix-clip
counts as they are. -/
structure Calm (s t : State) : Prop where
  berths : ∀ b : BerthIx, s.berths[b].InRange → t.berths[b].InRange
  chains : ∀ c : ChainIx, Chain.Calm s.chains[c] t.chains[c]
  mode : t.mgmt.mode = s.mgmt.mode
  settings : t.mgmt.settings = s.mgmt.settings
  zones : t.zones = s.zones

namespace Calm

theorem refl (s : State) : Calm s s := ⟨fun _ => id, fun _ => .refl _, rfl, rfl, rfl⟩

theorem trans {s t u : State} (h : Calm s t) (k : Calm t u) : Calm s u :=
  ⟨fun b => k.berths b ∘ h.berths b, fun c => (h.chains c).trans (k.chains c), k.mode.trans h.mode,
    k.settings.trans h.settings, k.zones.trans h.zones⟩

theorem ite {s t u : State} {c : Prop} [Decidable c] (h : Calm s t) (k : Calm s u) : Calm s (if c then t else u) := by
  split
  · exact h
  · exact k

theorem foldl {ι : Type} {f : State → ι → State} (h : ∀ s i, Calm s (f s i)) (l : List ι) (s : State) :
    Calm s (l.foldl f s) := by
  induction l generalizing s with
  | nil => exact refl s
  | cons i is ih => exact (h s i).trans (ih _)

/-- An operation that writes no berth, no chain, no zone and nothing of management is calm. -/
theorem of_same {fs : List StateField} {s t : State} (h : Same fs s t) (hb : StateField.berths ∉ fs)
    (hc : StateField.chains ∉ fs) (hm : StateField.mgmt ∉ fs) (hz : StateField.zones ∉ fs) : Calm s t := by
  refine ⟨fun b => ?_, fun c => ?_, ?_, ?_, h.zones hz⟩
  · rw [h.berths hb]; exact id
  · rw [h.chains hc]; exact .refl _
  · rw [h.mgmt hm]
  · rw [h.mgmt hm]

/-- What writes berths, and keeps them within their ranges, is calm where it writes no chain. -/
theorem of_berths {fs : List StateField} {s t : State} (h : Same fs s t) (hc : StateField.chains ∉ fs)
    (hm : StateField.mgmt ∉ fs) (hz : StateField.zones ∉ fs)
    (hb : ∀ b : BerthIx, s.berths[b].InRange → t.berths[b].InRange) : Calm s t := by
  refine ⟨hb, fun c => ?_, ?_, ?_, h.zones hz⟩
  · rw [h.chains hc]; exact .refl _
  · rw [h.mgmt hm]
  · rw [h.mgmt hm]

theorem mapBerths (s : State) {f : BerthIx → Berth → Berth} (h : ∀ b r, Berth.InRange r → (f b r).InRange) :
    Calm s (s.mapBerths f) :=
  of_berths (State.mapBerths_same s f) (by decide) (by decide) (by decide) fun b hb => by
    rw [State.mapBerths_get]
    exact h b _ hb

theorem modBerth (s : State) (b : BerthIx) {f : Berth → Berth} (h : ∀ r, Berth.InRange r → (f r).InRange) :
    Calm s (s.modBerth b f) :=
  of_berths (State.modBerth_same s b f) (by decide) (by decide) (by decide) fun b' hb => by
    rw [State.modBerth_get]
    split
    · next e => exact h _ (e ▸ hb)
    · exact hb

/-- What writes chains, and keeps what is kept of them, is calm where it writes no berth. -/
theorem of_chains {fs : List StateField} {s t : State} (h : Same fs s t) (hb : StateField.berths ∉ fs)
    (hm : StateField.mgmt ∉ fs) (hz : StateField.zones ∉ fs)
    (hc : ∀ c : ChainIx, Chain.Calm s.chains[c] t.chains[c]) : Calm s t := by
  refine ⟨fun b => ?_, hc, ?_, ?_, h.zones hz⟩
  · rw [h.berths hb]; exact id
  · rw [h.mgmt hm]
  · rw [h.mgmt hm]

theorem mapChains (s : State) {f : ChainIx → Chain → Chain} (h : ∀ c ch, Chain.Calm ch (f c ch)) :
    Calm s (s.mapChains f) :=
  of_chains (State.mapChains_same s f) (by decide) (by decide) (by decide) fun c => by
    rw [State.mapChains_get]
    exact h c _

theorem modChain (s : State) (c : ChainIx) {f : Chain → Chain} (h : ∀ ch, Chain.Calm ch (f ch)) :
    Calm s (s.modChain c f) :=
  of_chains (State.modChain_same s c f) (by decide) (by decide) (by decide) fun c' => by
    rw [State.modChain_get]
    split
    · next e => exact e ▸ h _
    · exact .refl _

theorem countChain (s : State) (c : ChainIx) {f : ChainCounts → ChainCounts} (h : ∀ k, (f k).mixClips = k.mixClips) :
    Calm s (s.countChain c f) :=
  modChain s c fun _ => ⟨rfl, rfl, id, h _⟩

theorem latchPresence (s : State) (c : ChainIx) : Calm s (s.latchPresence c) :=
  ⟨fun _ => id, fun _ => .refl _, rfl, rfl, rfl⟩

theorem latchStall (s : State) (a : ChannelIx) : Calm s (s.latchStall a) :=
  ⟨fun _ => id, fun _ => .refl _, rfl, rfl, rfl⟩

/-- What writes of each berth at most governing and ducked mark, and no chain, is calm. -/
theorem of_governed {s t : State} (hs : Same [.berths, .channels] s t)
    (h : ∀ b : BerthIx, t.berths[b] =
      { s.berths[b] with governing := t.berths[b].governing, ducked := t.berths[b].ducked }) : Calm s t :=
  of_berths hs (by decide) (by decide) (by decide) fun b hb => by
    rw [h b]
    exact hb

/-! ### Regimes and profiles (ch. 3) -/

theorem evaluated (s : State) {r : Berth} (h : r.InRange) : (s.evaluated r).InRange := by
  rw [State.evaluated_eq]
  exact h

theorem evaluateBerth (s : State) (b : BerthIx) : Calm s (s.evaluateBerth b) :=
  (modBerth s b fun _ => evaluated s).trans (of_same (State.countPart_same _ _) (by decide) (by decide) (by decide) (by decide))

theorem evaluateAll (s : State) : Calm s s.evaluateAll :=
  (mapBerths s fun _ _ => evaluated s).trans (of_same (State.countPart_same _ _) (by decide) (by decide) (by decide) (by decide))

theorem countLevelChanges (s : State) (qa qb : Bool) : Calm s (s.countLevelChanges qa qb) :=
  of_same (State.countPart_same _ _) (by decide) (by decide) (by decide) (by decide)

theorem quietHandOver (s : State) (qa qb : Bool) : Calm s (s.quietHandOver qa qb) :=
  ite (refl s) ((countLevelChanges s qa qb).trans (evaluateAll _))

theorem copyProfile (s : State) (p : Fin 4) : Calm s (s.copyProfile p) :=
  mapBerths s fun _ r h => by
    split
    · exact h
    · exact h

theorem enterServiceSettings (s : State) : Calm s s.enterServiceSettings :=
  (evaluateAll s).trans (mapBerths _ fun _ _ h => h)

/-! ### Channels (ch. 5) -/

theorem recomputeGoverning (s : State) : Calm s s.recomputeGoverning :=
  of_governed ((State.recomputeGoverning_same s).widen (by decide)) fun b => by
    rw [recomputeGoverning_get]
    exact regoverned_only s b _

theorem enterPlaying (s : State) (a : ChannelIx) : Calm s (s.enterPlaying a) :=
  of_governed (State.enterPlaying_same s a) (enterPlaying_spec s a).1

theorem evaluateRelease (s : State) (a : ChannelIx) : Calm s (s.evaluateRelease a) :=
  of_governed (State.evaluateRelease_same s a) (evaluateRelease_spec s a).1

theorem evaluateReleases (s : State) : Calm s s.evaluateReleases :=
  of_governed (State.evaluateReleases_same s) (evaluateReleases_spec s).1

theorem settleGoverning (s : State) : Calm s s.settleGoverning :=
  of_governed (State.settleGoverning_same s) (settleGoverning_spec s).1

theorem enterIdle (s : State) (a : ChannelIx) : Calm s (s.enterIdle a) :=
  of_governed (State.enterIdle_same s a) (enterIdle_spec s a).1

theorem modChannel (s : State) (a : ChannelIx) (f : Channel → Channel) : Calm s (s.modChannel a f) :=
  of_same (State.modChannel_same s a f) (by decide) (by decide) (by decide) (by decide)

theorem refuseCue (s : State) (a : ChannelIx) : Calm s (s.refuseCue a) :=
  of_same (State.refuseCue_same s a) (by decide) (by decide) (by decide) (by decide)

/-- R29: a wake sets the idle seconds to 0. -/
theorem woken {r : Berth} (h : r.InRange) : r.woken.InRange := by
  unfold Berth.woken
  split
  · exact ⟨Nat.zero_le _, h.2⟩
  · exact h

theorem wakeFor {c : Class} {zone : BitVec 48} {stop : Option (Fin 64)} (b : BerthIx) (r : Berth) (h : r.InRange) :
    (wakeFor c zone stop b r).InRange := by
  unfold Machine.wakeFor
  split
  · split
    · exact woken h
    · exact h
  · split
    · exact woken h
    · exact h
  · exact h
  · exact h

theorem beginAnnouncement (s : State) (a : ChannelIx) (c : Class) (q : CueBody) : Calm s (s.beginAnnouncement a c q) :=
  ((mapBerths s wakeFor).trans (modChannel _ _ _)).trans (settleGoverning _)

theorem cancelForPreemption (s : State) (a : ChannelIx) : Calm s (s.cancelForPreemption a) :=
  (modChannel s a _).trans (mapBerths _ fun _ r h => by
    split
    · exact h
    · exact h)

theorem takeStart (s : State) (a : ChannelIx) (c : Class) (q : CueBody) : Calm s (s.takeStart a c q) := by
  unfold State.takeStart
  split
  · exact beginAnnouncement s a c q
  · exact refuseCue s a
  · exact ite ((cancelForPreemption s a).trans (beginAnnouncement _ a c q)) (refuseCue s a)

theorem takeEnd (s : State) (a : ChannelIx) (l : Word16) : Calm s (s.takeEnd a l) :=
  ite (ite (enterIdle s a) (modChannel s a _)) (refuseCue s a)

theorem takeCancel (s : State) (a : ChannelIx) : Calm s (s.takeCancel a) := ite (enterIdle s a) (refuseCue s a)

theorem presentGap (s : State) (a : ChannelIx) : Calm s (s.presentGap a) :=
  (modChannel s a _).trans (ite ((latchStall _ a).trans (enterIdle _ a)) (refl _))

theorem presentSpeech (s : State) (a : ChannelIx) : Calm s (s.presentSpeech a) := by
  refine ite (enterIdle s a) ?_
  split
  · exact modChannel s a _
  · exact presentGap s a

theorem countLead (s : State) (a : ChannelIx) : Calm s (s.countLead a) := ite (enterPlaying s a) (modChannel s a _)

theorem channelCycle (s : State) (a : ChannelIx) (st : ChannelState) : Calm s (s.channelCycle a st) := by
  cases st with
  | lead => exact countLead s a
  | playing => exact presentSpeech s a
  | idle => exact refl s
  | ducking => exact refl s

theorem channelsCycle (s : State) : Calm s s.channelsCycle :=
  ite ((channelCycle s 0 _).trans (channelCycle _ 1 _)) (refl s)

/-! ### Queries (ch. 8) -/

theorem startLoop (present : PosIx → Bool) (c : ChainIx) (qs : List Query) (ch : Chain) :
    Chain.Calm ch (startLoop present c qs ch) := by
  induction qs generalizing ch with
  | nil => exact ⟨rfl, rfl, id, rfl⟩
  | cons q qs ih =>
    unfold Machine.startLoop
    split
    · exact ⟨rfl, rfl, id, rfl⟩
    · split
      · exact ⟨rfl, rfl, id, rfl⟩
      · refine Chain.Calm.trans ?_ (ih _)
        exact ⟨rfl, rfl, id, rfl⟩

theorem startQueries (s : State) (c : ChainIx) : Calm s (s.startQueries c) := modChain s c fun _ => startLoop _ _ _ _

theorem endQuery (s : State) (c : ChainIx) (o : QueryOutcome) (x : Option AnswerBytes) {f : ChainCounts → ChainCounts}
    (h : ∀ k, (f k).mixClips = k.mixClips) : Calm s (s.endQuery c o x f) := by
  unfold State.endQuery
  split
  · exact refl s
  · refine (modChain s c ?_).trans (startQueries _ c)
    exact fun _ => ⟨rfl, rfl, id, h _⟩

theorem queryUnanswered (s : State) (c : ChainIx) : Calm s (s.queryUnanswered c) := endQuery s c _ _ fun _ => rfl

theorem queryTargetAbsent (s : State) (c : ChainIx) (p : PosIx) : Calm s (s.queryTargetAbsent c p) := by
  unfold State.queryTargetAbsent
  split
  · exact refl s
  · exact ite (endQuery s c _ _ fun _ => rfl) (refl s)

theorem takeToken (s : State) (c : ChainIx) (p : PosIx) (j : Bool) (k : Byte) (x : AnswerBytes) :
    Calm s (s.takeToken c p j k x) := by
  refine ite (refl s) ?_
  split
  · exact ite (endQuery s c _ _ fun _ => rfl) (countChain s c fun _ => rfl)
  · exact countChain s c fun _ => rfl

theorem countWindow (s : State) (c : ChainIx) (j : Bool) : Calm s (s.countWindow c j) := by
  unfold State.countWindow
  split
  · exact refl s
  · refine ite ?_ (refl s)
    have h := modChain s c (f := fun ch => { ch with inFlight := some { ‹InFlight› with waited := ‹InFlight›.waited + 1 } })
      fun _ => ⟨rfl, rfl, id, rfl⟩
    exact ite (h.trans (queryUnanswered _ c)) h

theorem discardQueries (s : State) (c : ChainIx) : Calm s (s.discardQueries c) := modChain s c fun _ => ⟨rfl, rfl, id, rfl⟩

/-! ### The berth table (ch. 2) -/

/-- R27: join initialisation. -/
theorem joined (s : State) {r : Berth} (_ : r.InRange) : (s.joined r).InRange :=
  ⟨Nat.zero_le _, Nat.zero_le _, le_refl _⟩

theorem keyed (s : State) (k : Key) {r : Berth} (h : r.InRange) : (s.keyed k r).InRange := by
  unfold State.keyed
  split
  · cases k with
    | videoNext => exact woken h
    | videoPrev => exact woken h
    | screen => exact woken h
    | touch => exact woken h
    | _ => exact h
  · cases k <;> exact ⟨Nat.zero_le _, h.2⟩

theorem placeCall (s : State) (b : BerthIx) : Calm s (s.placeCall b) :=
  ite (refl s) ((of_same (same_set_calls s _) (by decide) (by decide) (by decide) (by decide)).trans (countChain _ _ fun _ => rfl))

theorem applyKey (s : State) (b : BerthIx) (k : Key) : Calm s (s.applyKey b k) := by
  have h := (modBerth s b fun _ => keyed s k).trans
    (countChain _ (chainOf b) (f := fun n => { n with keysApplied := bump n.keysApplied }) fun _ => rfl)
  exact ite (h.trans (placeCall _ b)) h

theorem takeKey (s : State) (b : BerthIx) (w : Bool) (k : Byte) : Calm s (s.takeKey b w k) := by
  refine ite (refl s) ?_
  split
  · exact applyKey s b _
  · exact countChain s _ fun _ => rfl

theorem becomePresent (s : State) (b : BerthIx) : Calm s (s.becomePresent b) := by
  unfold State.becomePresent
  refine (((modBerth s b fun r h => ?_).trans (latchPresence _ _)).trans (settleGoverning _)).trans (countChain _ _ fun _ => rfl)
  dsimp only
  split
  · exact joined s h
  · exact h

theorem enterAbsent (s : State) (b : BerthIx) : Calm s (s.enterAbsent b) := by
  unfold State.enterAbsent
  split
  · exact refl s
  · exact modBerth s b fun _ h => h
  · have h1 : Calm s (s.modBerth b Berth.lost) := modBerth s b fun _ _ => ⟨Nat.zero_le _, Nat.zero_le _, le_refl _⟩
    have h2 := h1.trans (of_same (same_set_calls _ ((s.modBerth b Berth.lost).calls.filter (· ≠ b)))
      (by decide) (by decide) (by decide) (by decide))
    exact (((h2.trans (settleGoverning _)).trans (queryTargetAbsent _ _ _)).trans (latchPresence _ _)).trans
      (countChain _ _ fun _ => rfl)

theorem chainAbsent (s : State) (c : ChainIx) : Calm s (s.chainAbsent c) := foldl (fun s _ => enterAbsent s _) _ s

theorem advanceValid (s : State) (b : BerthIx) : Calm s (s.advanceValid b) := by
  unfold State.advanceValid
  split
  · exact modBerth s b fun _ h => h
  · exact ite (modBerth s b fun _ h => h) (becomePresent s b)
  · exact modBerth s b fun _ h => h

theorem advanceMissing (s : State) (b : BerthIx) : Calm s (s.advanceMissing b) := by
  unfold State.advanceMissing
  split
  · exact refl s
  · exact enterAbsent s b
  · exact ite (modBerth s b fun _ h => h) (enterAbsent s b)

theorem recordStatus (s : State) (b : BerthIx) (x y : Bool) : Calm s (s.recordStatus b x y) := by
  unfold State.recordStatus
  refine Calm.trans ?_ (countChain _ _ fun _ => rfl)
  exact modBerth s b fun _ h => h

theorem takeReturn (s : State) (b : BerthIx) (j : Bool) (r : ReturnData) : Calm s (s.takeReturn b j r) := by
  have h1 := advanceValid s b
  have h2 := h1.trans (ite (c := (s.advanceValid b).berths[b].presence = .absent) (refl _)
    (recordStatus _ b r.headphone r.unitFault))
  exact ((h2.trans (takeKey _ b _ _)).trans (takeKey _ b _ _)).trans (takeToken _ _ _ _ _ _)

/-- R34: a tick keeps the idle seconds of a berth within 1023. -/
theorem withIdle {r : Berth} (h : r.InRange) (x : Settings) : (r.withIdle (idleNext r x)).InRange := by
  refine ⟨?_, h.2⟩
  unfold Berth.withIdle idleNext
  dsimp only
  split
  · exact Nat.zero_le _
  · split
    · exact Nat.zero_le _
    · exact min_le_left _ _

theorem ticked {r : Berth} (h : r.InRange) : r.ticked.InRange := by
  by_cases ha : r.awake = .asleep
  · have e : r.ticked = r := by
      unfold Berth.ticked
      rw [ha]
    rw [e]
    exact h
  · rw [Berth.ticked_eq ha]
    exact withIdle h _

theorem idleTick (s : State) : Calm s s.idleTick :=
  ite (mapBerths s fun _ r h => by
    split
    · exact ticked h
    · exact h) (refl s)

theorem joinAll (s : State) : Calm s s.joinAll :=
  mapBerths s fun _ r h => by
    split
    · exact joined s h
    · exact h

theorem deselect (s : State) (v : StreamIx) : Calm s (s.deselect v) := mapBerths s fun _ _ h => h

theorem loadBerth (s : State) (b : BerthIx) (cfg : BerthConfig) : Calm s (s.loadBerth b cfg) := by
  have h1 : Calm s (s.modBerth b (reconfigured cfg)) := modBerth s b fun _ h => h
  have h2 := h1.trans (ite (c := cfg.profile = s.berths[b].config.profile) (refl _)
    (modBerth _ b fun _ h => h : Calm _ ((s.modBerth b (reconfigured cfg)).modBerth b
      (s.modBerth b (reconfigured cfg)).copied)))
  exact ite h2 (h2.trans (evaluateBerth _ b))

theorem closeStream (s : State) (v : StreamIx) : Calm s (s.closeStream v) := by
  refine Calm.trans ?_ (deselect _ v)
  refine Calm.trans ?_ (of_same (State.modStream_same _ v _) (by decide) (by decide) (by decide) (by decide))
  split
  · exact of_same (same_set_rings s _) (by decide) (by decide) (by decide) (by decide)
  · exact refl s

/-! ### Video queues, chain frames and return windows (ch. 7, 8) -/

theorem flush (s : State) (c : ChainIx) : Calm s (s.flush c) := by
  unfold State.flush
  exact (of_same (same_set_store s _) (by decide) (by decide) (by decide) (by decide)).trans
    (modChain _ c fun _ => ⟨rfl, rfl, fun _ => Nat.zero_le _, rfl⟩)

theorem flushAll (s : State) : Calm s s.flushAll := foldl flush _ s

/-- R120: W stays within 15. -/
theorem waitAfter_le {w : Nat} (h : w ≤ 15) (before sent : List VideoEntry) : waitAfter w before sent ≤ 15 := by
  unfold waitAfter
  split
  · exact h
  · split
    · exact min_le_left _ _
    · exact Nat.zero_le _

theorem assemble_wait (ch : Chain) (n : Word16) (h : ch.wait ≤ 15) : (ch.assemble n).wait ≤ 15 := by
  by_cases hw : ch.wait < ch.ratio
  · rw [assemble_priority_first n hw]
    exact waitAfter_le h _ _
  · rw [assemble_program_first n (Nat.not_lt.1 hw)]
    exact waitAfter_le h _ _

theorem assembleVideo (s : State) (c : ChainIx) (n : Word16) : Calm s (s.assembleVideo c n) := by
  refine of_chains (State.assembleVideo_same s c n) (by decide) (by decide) (by decide) fun c' => ?_
  show Chain.Calm _ (s.chains.set c (s.chains[c].afterAssembly (s.chains[c].assemble n)))[c']
  rw [get_set_fin]
  split
  · next e => exact e ▸ ⟨rfl, rfl, assemble_wait _ n, rfl⟩
  · exact .refl _

theorem placeQuery (ch : Chain) : Chain.Calm ch ch.placeQuery := ⟨rfl, rfl, id, rfl⟩

theorem beginFrame (ch : Chain) (f : ChainFrame) : Chain.Calm ch (ch.beginFrame f) := ⟨rfl, rfl, id, rfl⟩

theorem sendFrame (ch : Chain) (f : ChainFrame) : Chain.Calm ch (ch.sendFrame f) := by
  unfold Chain.sendFrame
  split
  · exact ⟨rfl, rfl, id, rfl⟩
  · exact beginFrame ch f

theorem chainCycle (s : State) (n : Word16) (c : ChainIx) : Calm s (s.chainCycle n c) :=
  ite (refl s) (ite (countChain s c fun _ => rfl) ((assembleVideo s c n).trans
    (modChain _ c fun _ => (placeQuery _).trans (sendFrame _ _))))

theorem chainsCycle (s : State) (n : Word16) : Calm s (s.chainsCycle n) := foldl (fun s c => chainCycle s n c) _ s

theorem takeSlot (s : State) (c : ChainIx) (j : Bool) (p : PosIx) (x : Option SlotBytes) :
    Calm s (s.takeSlot c j p x) := by
  unfold State.takeSlot
  split
  · refine (countChain s c ?_).trans (advanceMissing _ _)
    exact fun _ => rfl
  · refine (countChain s c ?_).trans (advanceMissing _ _)
    exact fun _ => rfl
  · refine (countChain s c ?_).trans (takeReturn _ _ _ _)
    exact fun _ => rfl

theorem closeWindow (s : State) (c : ChainIx) (j : Bool) (x : ReturnSlots) : Calm s (s.closeWindow c j x) :=
  (foldl (fun s p => takeSlot s c j p x[p]) _ s).trans (countWindow _ c j)

theorem returnWindow (s : State) (c : ChainIx) (x : ReturnSlots) : Calm s (s.returnWindow c x) := by
  unfold State.returnWindow
  split
  · exact refl s
  · refine (modChain s c ?_).trans (closeWindow _ c _ x)
    exact fun _ => ⟨rfl, rfl, id, rfl⟩

theorem closeSuperseded (s : State) (c : ChainIx) : Calm s (s.closeSuperseded c) :=
  foldl (fun s _ => returnWindow s c _) _ s

theorem closeWith (s : State) (r : WindowReturn) : Calm s (s.closeWith r) := ite (returnWindow s _ _) (refl s)

theorem closeAllSuperseded (s : State) (rs : List WindowReturn) : Calm s (s.closeAllSuperseded rs) :=
  (foldl closeWith rs s).trans (foldl closeSuperseded _ _)

theorem frameDone (s : State) (r : WindowReturn) : Calm s (s.frameDone r) := by
  unfold State.frameDone
  split
  · exact refl s
  · exact modChain s _ fun _ => ⟨rfl, rfl, id, rfl⟩
  · refine ((modChain s _ ?_).trans (closeWith _ r)).trans (closeSuperseded _ _)
    exact fun _ => ⟨rfl, rfl, id, rfl⟩

theorem chainStops (s : State) (c : ChainIx) : Calm s (s.chainStops c) := by
  unfold State.chainStops
  refine (((modChain s c ?_).trans (discardQueries _ c)).trans (chainAbsent _ c)).trans (flush _ c)
  exact fun _ => ⟨rfl, rfl, id, rfl⟩

theorem linkDown (s : State) (c : ChainIx) : Calm s (s.linkDown c) := by
  unfold State.linkDown
  refine ((modChain s c ?_).trans (chainStops _ c)).trans (countChain _ c ?_)
  · exact fun _ => ⟨rfl, rfl, id, rfl⟩
  · exact fun _ => rfl

/-! ### Rows and tables -/

theorem chainLineLost (s : State) (c : ChainIx) : Calm s (s.chainLineLost c) := by
  have h : Calm s (s.setChainLine c false) :=
    of_same (State.setChainLine_same s c false) (by decide) (by decide) (by decide) (by decide)
  exact ite (h.trans (linkDown _ c)) h

theorem chainLineBack (s : State) (c : ChainIx) : Calm s (s.chainLineBack c) :=
  (of_same (State.setChainLine_same s c true) (by decide) (by decide) (by decide) (by decide)).trans
    (modChain _ c fun _ => ⟨rfl, rfl, id, rfl⟩)

theorem placed (ch : Chain) (k : Bool) (p : Placement) (e : Option VideoEntry) : Chain.Calm ch (ch.placed k p e) := by
  unfold Chain.placed
  split
  · exact ⟨rfl, rfl, id, rfl⟩
  · exact ⟨rfl, rfl, id, rfl⟩
  · unfold Chain.append
    split
    · exact ⟨rfl, rfl, id, rfl⟩
    · exact ⟨rfl, rfl, id, rfl⟩
  · exact .refl _
  · exact .refl _

theorem replicate (s : State) (k : Bool) (v : StreamIx) (d : Word16) (x : List Byte) : Calm s (s.replicate k v d x) := by
  have count : ∀ (t : State) (f : PartCounts → PartCounts), Calm t (t.countPart f) := fun t f =>
    of_same (State.countPart_same t f) (by decide) (by decide) (by decide) (by decide)
  refine ite (count s _) (ite ((mapChains s fun _ _ => placed _ _ _ _).trans (count _ _)) ?_)
  split
  · exact (mapChains s fun _ _ => placed _ _ _ _).trans (count _ _)
  · exact ((mapChains s fun _ _ => placed _ _ _ _).trans
      (of_same (same_set_store _ _) (by decide) (by decide) (by decide) (by decide))).trans
      (of_same (State.countStream_same _ _ _) (by decide) (by decide) (by decide) (by decide))

theorem takeVideoSegment (s : State) (p : List Byte) : Calm s (s.takeVideoSegment p) := by
  have count : ∀ f, Calm s (s.countU f) := fun f =>
    of_same (State.countU_same s f) (by decide) (by decide) (by decide) (by decide)
  have late : ∀ v f, Calm s (s.countStream v f) := fun v f =>
    of_same (State.countStream_same s v f) (by decide) (by decide) (by decide) (by decide)
  refine ite (count _) ?_
  split
  · exact count _
  · exact ite (late _ _) (ite (late _ _) (replicate s _ _ _ _))

theorem countU (s : State) (f : UpstreamCounts → UpstreamCounts) : Calm s (s.countU f) :=
  of_same (State.countU_same s f) (by decide) (by decide) (by decide) (by decide)

theorem startCueTaken (q : CueBody) (s : State) : Calm s (s.startCueTaken q) := by
  unfold State.startCueTaken
  split
  · exact ite (takeStart s _ _ q) (countU s _)
  · exact countU s _

theorem endCueTaken (q : CueBody) (s : State) : Calm s (s.endCueTaken q) := by
  unfold State.endCueTaken
  split
  · exact takeEnd s _ _
  · exact countU s _

theorem cancelCueTaken (q : CueBody) (s : State) : Calm s (s.cancelCueTaken q) := by
  unfold State.cancelCueTaken
  split
  · exact takeCancel s _
  · exact countU s _

/-- R72, R81: a class entry written clears ducked marks, and may release channels. -/
theorem loadClass (s : State) (i : Fin 4) (e : ClassEntry) : Calm s (s.loadClass i e) := by
  have h1 := of_same (same_set_classes s (s.classes.set i e)) (by decide) (by decide) (by decide) (by decide)
  exact ite h1 ((h1.trans (mapBerths _ fun _ _ h => by
    split
    · exact h
    · exact h)).trans (evaluateReleases _))

theorem idleChannel (s : State) (a : ChannelIx) : Calm s (s.idleChannel a) := ite (enterIdle s a) (refl s)

end Calm

end Sys2Proof.Machine
end

section
/-! PROOF. The ranges of the counted values, the gains, zone 0 and the flags of the fault conditions over the whole
machine (R4, R8 to R14, R34, R71, R102, R127). -/

open Sys2Proof
open Sys2Proof.Machine

namespace Sys2Proof.Machine

/-! ### Timer and fault monitor -/

/-- The ranges of a cycle timer and a fault monitor, and a flag raised under each condition that holds (R4, R8, R9, R10,
R11, R14). -/
structure ClockLaw (t : Timer) (f : FaultMonitor) : Prop where
  sinceStart : t.sinceStart ≤ 1100
  divider : t.divider < 1000
  qa : t.qa.run ≤ 7
  qb : t.qb.run ≤ 7
  missedRun : t.missedRun ≤ 65535
  signal : ∀ x, f.noSignal = some x → x ≤ 10000
  coldest : -40 ≤ f.temperature
  hottest : f.temperature ≤ 150
  markLoss : 50 ≤ t.missedRun → f.flags.markLoss = true
  overheat : f.overheat = true → f.flags.overheat = true
  down : f.backboneDown = true → f.flags.backboneDown = true ∧ f.noSignal.isSome = true

/-- The timer and the fault monitor of a part keep their law. -/
def Clocked (s : State) : Prop := ClockLaw s.timer s.faults

namespace Clocked

theorem of_eq {s t : State} (h : Clocked s) (ht : t.timer = s.timer) (hf : t.faults = s.faults) : Clocked t := by
  unfold Clocked
  rw [ht, hf]
  exact h

theorem of_same {fs : List StateField} {s t : State} (h : Clocked s) (hs : Same fs s t) (ht : StateField.timer ∉ fs)
    (hf : StateField.faults ∉ fs) : Clocked t :=
  h.of_eq (hs.timer ht) (hs.faults hf)

/-- R11, R13: OVERHEAT judged on a reading within the range. -/
theorem judged {s : State} (h : Clocked s) {v : Int} (h1 : -40 ≤ v) (h2 : v ≤ 150) : ClockLaw s.timer { s.faults with
      temperature := v
      overheat := s.hotAt v
      flags := { s.faults.flags with overheat := s.faults.flags.overheat || (s.hotAt v && !s.faults.overheat) } } := by
  refine ⟨h.sinceStart, h.divider, h.qa, h.qb, h.missedRun, h.signal, h1, h2, h.markLoss, fun hh => ?_, h.down⟩
  change s.hotAt v = true at hh
  cases ho : s.faults.overheat with
  | true => simp [h.overheat ho]
  | false => simp [hh]

/-- R10: a reading lies within −40..150. -/
theorem clampReading_range (v : Int) : -40 ≤ clampReading v ∧ clampReading v ≤ 150 := by
  unfold clampReading
  omega

theorem readTemperature {s : State} (h : Clocked s) (v : Int) : Clocked (s.readTemperature v) := by
  unfold Clocked
  rw [(State.readTemperature_same s v).timer (by decide), State.readTemperature_faults]
  exact h.judged (clampReading_range v).1 (clampReading_range v).2

theorem judgeOverheat {s : State} (h : Clocked s) : Clocked s.judgeOverheat := by
  unfold Clocked
  rw [(State.judgeOverheat_same s).timer (by decide), State.judgeOverheat_faults]
  exact h.judged h.coldest h.hottest

/-- R9: the run of a sampler stays within 7. -/
theorem sampled_run (p : Sampler) (x : Bool) : (sampled p x).run ≤ 7 := by
  unfold sampled
  split
  · exact Nat.zero_le _
  · split
    · next h7 => exact h7
    · exact Nat.zero_le _

theorem dividerAfter_lt (d : Nat) : dividerAfter d < 1000 := by
  unfold dividerAfter
  split <;> omega

/-- R1, R8, R9: the timer at the start of a cycle. -/
theorem opened {t : Timer} {f : FaultMonitor} (h : ClockLaw t f) (n : Word16) (l : LineSample) : ClockLaw { t with
      cycle := n, sinceStart := 0, divider := dividerAfter t.divider
      qa := sampled t.qa l.qa, qb := sampled t.qb l.qb } f :=
  ⟨Nat.zero_le _, dividerAfter_lt _, sampled_run _ _, sampled_run _ _, h.missedRun, h.signal, h.coldest,
    h.hottest, h.markLoss, h.overheat, h.down⟩

/-- R1, R8, R9: the start of a cycle. -/
theorem startCycle {s : State} (h : Clocked s) (n : Word16) (k : Bool) (l : LineSample) :
    Clocked (s.startCycle n k l) := by
  unfold Clocked
  rw [State.startCycle_timer, State.runCycle_timer, State.startCycle_faults, State.runCycle_faults]
  refine opened ?_ n l
  split
  · have hr := h.readTemperature l.sensor
    unfold Clocked at hr
    rwa [(State.readTemperature_same _ _).timer (by decide)] at hr
  · exact h

/-- R12: a missed mark raises MARK LOSS at the 50th. -/
theorem missMark {s : State} (h : Clocked s) : Clocked s.missMark := by
  unfold Clocked
  rw [State.missMark_timer, State.missMark_faults]
  refine ⟨h.sinceStart, h.divider, h.qa, h.qb, min_le_left _ _, h.signal, h.coldest, h.hottest, fun h50 => ?_, h.overheat,
    h.down⟩
  rw [Bool.or_eq_true, decide_eq_true_eq]
  by_cases h49 : s.timer.missedRun = 49
  · exact .inr h49
  · refine .inl (h.markLoss ?_)
    change 50 ≤ min 65535 (s.timer.missedRun + 1) at h50
    omega

theorem selfStart {s : State} (h : Clocked s) (l : LineSample) : Clocked (s.selfStart l) := by
  have h1 : Clocked (s.missMark.countPart fun k => { k with selfStarts := bump k.selfStarts }) := h.missMark.of_eq rfl rfl
  exact h1.startCycle _ _ _

theorem markStarts {s : State} (h : Clocked s) (n : Word16) (l : LineSample) : Clocked (s.markStarts n l) := by
  unfold State.markStarts
  refine Clocked.startCycle ?_ _ _ _
  exact ⟨h.sinceStart, h.divider, h.qa, h.qb, Nat.zero_le _, h.signal, h.coldest, h.hottest,
    fun h50 => absurd h50 (by simp), h.overheat, h.down⟩

/-- R14: BACKBONE DOWN comes to hold in a period without a signal. -/
theorem backboneFails {s : State} (h : Clocked s) (hn : s.faults.noSignal.isSome = true) : Clocked s.backboneFails := by
  unfold Clocked
  rw [(State.backboneFails_same s).timer (by decide), State.backboneFails_faults]
  exact ⟨h.sinceStart, h.divider, h.qa, h.qb, h.missedRun, h.signal, h.coldest, h.hottest, h.markLoss, h.overheat,
    fun _ => ⟨rfl, hn⟩⟩

theorem advanceTime {s : State} (h : Clocked s) {d : Nat} (hd : s.timer.sinceStart + d ≤ 1100) :
    Clocked (s.advanceTime d) := by
  refine ⟨hd, h.divider, h.qa, h.qb, h.missedRun, fun x hx => ?_, h.coldest, h.hottest, h.markLoss, h.overheat,
    fun hb => ⟨(h.down hb).1, ?_⟩⟩
  · rw [State.advanceTime_faults] at hx
    obtain ⟨y, -, rfl⟩ := Option.map_eq_some_iff.1 hx
    exact min_le_left _ _
  · rw [State.advanceTime_faults]
    simpa using (h.down hb).2

theorem signalLimitReached_isSome {s : State} (h : s.signalLimitReached = true) : s.faults.noSignal.isSome = true := by
  unfold State.signalLimitReached at h
  rw [Bool.and_eq_true, beq_iff_eq] at h
  rw [h.1]
  rfl

theorem takeDue {s : State} (h : Clocked s) : Clocked s.takeDue := by
  have drawn : Clocked s.drawn := h.of_eq rfl rfl
  obtain ⟨-, -, e⟩ | ⟨h1, -, e⟩ | ⟨-, -, e⟩ | ⟨h1, -, e | e⟩ := s.takeDue_cases <;> rw [e]
  · exact h
  · exact h.backboneFails (signalLimitReached_isSome h1)
  · exact h.selfStart _
  · exact Clocked.selfStart (drawn.backboneFails (signalLimitReached_isSome h1)) _
  · refine (drawn.selfStart _).backboneFails ?_
    rw [(State.selfStart_signal _ _).1]
    exact signalLimitReached_isSome h1

/-- R4, R14: time that ends before the next due moment keeps within 1.1 ms. -/
theorem untilDue_in {s : State} (h : Clocked s) : s.timer.sinceStart + s.untilDue ≤ 1100 := by
  have h1 := h.sinceStart
  have h2 := s.untilDue_le
  unfold selfStartTime at h2
  omega

theorem passTime {s : State} (h : Clocked s) (d : Nat) : Clocked (s.passTime d) := by
  revert h
  induction s, d using State.passTime_induction with
  | stop s d hd =>
    intro h
    have hu := h.untilDue_in
    exact passTime_free hd ▸ h.advanceTime (by omega)
  | due s d hd ih =>
    intro h
    rw [State.passTime_due hd]
    exact ih (h.advanceTime h.untilDue_in).takeDue

end Clocked

/-! ### Berths, chains, settings and zones -/

/-- The ranges of the berths, the chains and the part settings, and zone 0 (R34, R71, R102, R120, R127, R157). -/
structure Ranged (s : State) : Prop where
  berths : ∀ b : BerthIx, s.berths[b].InRange
  chains : ∀ c : ChainIx, s.chains[c].budget ≤ 10752 ∧ 1 ≤ s.chains[c].ratio ∧ s.chains[c].ratio ≤ 15 ∧
    s.chains[c].wait ≤ 15
  settings : 60 ≤ s.mgmt.settings.threshold ∧ s.mgmt.settings.threshold ≤ 125
  zone : s.zones[0] = BitVec.allOnes 48

theorem Calm.ranged {s t : State} (k : Calm s t) (h : Ranged s) : Ranged t := by
  refine ⟨fun b => k.berths b (h.berths b), fun c => ?_, k.settings ▸ h.settings, k.zones ▸ h.zone⟩
  obtain ⟨h1, h2, h3, h4⟩ := h.chains c
  rw [(k.chains c).budget, (k.chains c).ratio]
  exact ⟨h1, h2, h3, (k.chains c).wait h4⟩

/-- An operation that writes nothing of a chain but counts keeps the ranges. -/
theorem Ranged.of_counts {s t : State} (h : Ranged s) (hb : ∀ b : BerthIx, s.berths[b].InRange → t.berths[b].InRange)
    (hc : ∀ c : ChainIx, t.chains[c] = { s.chains[c] with counts := t.chains[c].counts })
    (hm : t.mgmt.settings = s.mgmt.settings) (hz : t.zones = s.zones) : Ranged t := by
  refine ⟨fun b => hb b (h.berths b), fun c => ?_, hm ▸ h.settings, hz ▸ h.zone⟩
  rw [hc c]
  exact h.chains c

/-- R101: a multiplier moved toward a target stays between them. -/
theorem moveToward_le {m target step cur : Nat} (ht : target ≤ m) (hc : cur ≤ m) : moveToward target step cur ≤ m := by
  unfold moveToward
  split
  · exact ht
  · split
    · exact (min_le_left _ _).trans ht
    · split
      · exact max_le ht (by omega)
      · exact hc

/-- R96: the gain table. -/
theorem gain_le (n : Level) : gain n ≤ 256 := by
  revert n
  decide

theorem programTarget_le (s : State) (b : Berth) : s.programTarget b ≤ 256 := by
  unfold State.programTarget
  split
  · exact Nat.zero_le _
  · split
    · exact Nat.zero_le _
    · exact gain_le _

theorem duckTarget_le (s : State) (b : Berth) : s.duckTarget b ≤ 256 := by
  unfold State.duckTarget
  split
  · exact Nat.lt_succ_iff.1 (Fin.isLt _)
  · exact le_refl _

/-- R97: the mixer writes gains and ducked marks of berths, audio slots and mix clips. -/
theorem Ranged.mix {s : State} (h : Ranged s) : Ranged s.mix := by
  have hs := State.mix_same s
  unfold State.mix at hs ⊢
  split
  · refine h.of_counts (fun b hb => ?_) (fun c => ?_) rfl rfl
    · rw [get_ofFn_fin]
      split
      · exact ⟨hb.1, moveToward_le (programTarget_le s _) hb.2.1, moveToward_le (duckTarget_le s _) hb.2.2⟩
      · exact hb
    · rw [get_ofFn_fin]
  · exact h.of_counts (fun _ => id) (fun _ => rfl) rfl rfl

theorem Ranged.mixAndRelease {s : State} (h : Ranged s) : Ranged s.mixAndRelease := by
  unfold State.mixAndRelease
  dsimp only
  split
  · exact (Calm.evaluateReleases _).ranged h.mix
  · exact h.mix

theorem Calm.tickAndChannels (s : State) (t f : Bool) : Calm s (s.tickAndChannels t f) :=
  ite (ite ((idleTick s).trans (channelsCycle _)) ((channelsCycle s).trans (idleTick _))) (channelsCycle s)

/-- The work of a cycle start before the mixer. -/
theorem Ranged.cycleWork {s : State} (h : Ranged s) (n : Word16) (t qa qb : Bool) (p : Fin 5) (f : Bool) :
    Ranged (s.cycleWork n t qa qb p f) := by
  have quiet : ∀ (s : State) (c : Prop) [Decidable c], Calm s (if c then s.quietHandOver qa qb else s) := fun s c _ =>
    .ite (.quietHandOver s qa qb) (.refl s)
  have h1 := (quiet s (p = 0)).ranged h
  have h2 := (Calm.tickAndChannels _ (t && p != 2) f).ranged
    ((Calm.of_same (State.presentRings_same _ n) (by decide) (by decide) (by decide) (by decide)).ranged h1)
  have h3 := ((quiet _ (p = 1)).ranged h2).mixAndRelease
  have h5 := (quiet _ (p = 2 ∨ p = 3)).ranged h3
  have h6 := (Calm.ite (c := (t && p == 2) = true) (Calm.idleTick _) (.refl _)).ranged h5
  exact (quiet _ (p = 4)).ranged ((Calm.chainsCycle _ n).ranged h6)

theorem Ranged.startCycle {s : State} (h : Ranged s) (n : Word16) (k : Bool) (l : LineSample) :
    Ranged (s.startCycle n k l) := by
  refine (Calm.closeAllSuperseded _ _).ranged (Ranged.cycleWork ?_ _ _ _ _ _ _)
  have draws : ∀ (s : State) (c : Prop) [Decidable c], Calm s (if c then { s with draws := s.draws + 1 } else s) :=
    fun s c _ => .ite (.of_same (same_set_draws s _) (by decide) (by decide) (by decide) (by decide)) (.refl s)
  have reads : ∀ (s : State) (c : Prop) [Decidable c], Calm s (if c then s.readTemperature l.sensor else s) :=
    fun s c _ => .ite (.of_same (State.readTemperature_same s _) (by decide) (by decide) (by decide) (by decide)) (.refl s)
  have empties : ∀ (s : State) (c : Prop) [Decidable c], Calm s (if c then s.emptyRings else s) :=
    fun s c _ => .ite (.of_same (State.emptyRings_same s) (by decide) (by decide) (by decide) (by decide)) (.refl s)
  have h1 : Calm s (s.openCycle n l) :=
    .of_same (State.openCycle_same s n l) (by decide) (by decide) (by decide) (by decide)
  exact (((h1.trans (draws _ _)).trans (reads _ _)).trans (empties _ _)).ranged h

end Sys2Proof.Machine
end

section
/-! PROOF. Every step keeps the ranges (R4, R8, R9, R10, R11, R14, R34, R71, R102, R127). -/

open Sys2Proof
open Sys2Proof.Machine

namespace Sys2Proof.Machine

/-- The ranges of the whole part. -/
structure Lawful (s : State) : Prop where
  ranged : Ranged s
  clocked : Clocked s

/-- The three laws of the statement are the ranges. -/
theorem lawful_iff (s : State) : Lawful s ↔ RangeLaw s ∧ FaultLaw s ∧ GainsLaw s := by
  constructor
  · rintro ⟨hr, hc⟩
    exact ⟨⟨hc.sinceStart, hc.signal, hc.divider, hc.qa, hc.qb, hc.missedRun, hc.coldest, hc.hottest, hr.settings.1,
      hr.settings.2, fun b => (hr.berths b).1, hr.chains, hr.zone⟩, ⟨hc.markLoss, hc.overheat, hc.down⟩,
      fun b => (hr.berths b).2⟩
  · rintro ⟨⟨h1, h2, h3, h4, h5, h6, h7, h8, h9, h10, hi, hch, hz⟩, ⟨f1, f2, f3⟩, hg⟩
    exact ⟨⟨fun b => ⟨hi b, hg b⟩, hch, ⟨h9, h10⟩, hz⟩, ⟨h1, h3, h4, h5, h6, h2, h7, h8, f1, f2, f3⟩⟩

/-- An event keeps the ranges. -/
def LawStays (s t : State) : Prop := Lawful s → Lawful t

namespace LawStays

theorem refl (s : State) : LawStays s s := id

theorem trans {s t u : State} (h : LawStays s t) (k : LawStays t u) : LawStays s u := k ∘ h

theorem ite {s t u : State} {c : Prop} [Decidable c] (h : LawStays s t) (k : LawStays s u) : LawStays s (if c then t else u) := by
  split
  · exact h
  · exact k

/-- A calm operation that writes neither timer nor fault monitor. -/
theorem of_calm {fs : List StateField} {s t : State} (h : Calm s t) (hs : Same fs s t) (ht : StateField.timer ∉ fs)
    (hf : StateField.faults ∉ fs) : LawStays s t :=
  fun hl => ⟨h.ranged hl.ranged, hl.clocked.of_same hs ht hf⟩

/-- An operation on fields that have no range. -/
theorem of_same {fs : List StateField} {s t : State} (h : Same fs s t)
    (hf : ∀ f ∈ [StateField.timer, .faults, .berths, .chains, .mgmt, .zones], f ∉ fs) : LawStays s t :=
  of_calm (.of_same h (hf _ (by decide)) (hf _ (by decide)) (hf _ (by decide)) (hf _ (by decide))) h (hf _ (by decide))
    (hf _ (by decide))

/-- An operation on timer and fault monitor. -/
theorem of_clocked {fs : List StateField} {s t : State} (h : Same fs s t)
    (hf : ∀ f ∈ [StateField.berths, .chains, .mgmt, .zones], f ∉ fs) (hc : Clocked s → Clocked t) : LawStays s t :=
  fun hl => ⟨(Calm.of_same h (hf _ (by decide)) (hf _ (by decide)) (hf _ (by decide)) (hf _ (by decide))).ranged hl.ranged,
    hc hl.clocked⟩

/-! ### Time and cycle starts -/

theorem selfStart (s : State) (l : LineSample) : LawStays s (s.selfStart l) := fun hl => by
  refine ⟨?_, hl.clocked.selfStart l⟩
  unfold State.selfStart
  refine Ranged.startCycle ?_ _ _ _
  exact ((Calm.of_same (State.missMark_same s) (by decide) (by decide) (by decide) (by decide)).trans
    (.of_same (State.countPart_same _ _) (by decide) (by decide) (by decide) (by decide))).ranged hl.ranged

theorem markStarts (s : State) (n : Word16) (l : LineSample) : LawStays s (s.markStarts n l) := fun hl => by
  refine ⟨?_, hl.clocked.markStarts n l⟩
  unfold State.markStarts
  refine Ranged.startCycle ?_ _ _ _
  exact ((Calm.of_same (State.modTimer_same s _) (by decide) (by decide) (by decide) (by decide)).trans
    (.of_same (State.countPart_same _ _) (by decide) (by decide) (by decide) (by decide))).ranged hl.ranged

theorem takeMark (s : State) (n : Word16) (l : LineSample) : LawStays s (s.takeMark n l) :=
  ite (markStarts s n l) (of_same (State.countPart_same s _) (by decide))

theorem takeMarkParcel (s : State) (h : Header) (l : LineSample) (p : List Byte) : LawStays s (s.takeMarkParcel h l p) :=
  (of_same (State.receivedThrough_same s _) (by decide)).trans
    (ite (takeMark _ _ l) (of_same (State.countU_same _ _) (by decide)))

theorem takeDue (s : State) : LawStays s s.takeDue := fun hl => by
  refine ⟨?_, hl.clocked.takeDue⟩
  have fails : ∀ s : State, Calm s s.backboneFails := fun s =>
    .of_same (State.backboneFails_same s) (by decide) (by decide) (by decide) (by decide)
  have drawn : Lawful s.drawn := of_same (same_set_draws s _) (by decide) hl
  have failed : ∀ {s : State}, Lawful s → s.signalLimitReached = true → Lawful s.backboneFails := fun h h1 =>
    ⟨(fails _).ranged h.ranged, h.clocked.backboneFails (Clocked.signalLimitReached_isSome h1)⟩
  obtain ⟨-, -, e⟩ | ⟨-, -, e⟩ | ⟨-, -, e⟩ | ⟨h1, -, e | e⟩ := s.takeDue_cases <;> rw [e]
  · exact hl.ranged
  · exact (fails s).ranged hl.ranged
  · exact (selfStart s _ hl).ranged
  · exact (selfStart _ _ (failed drawn h1)).ranged
  · exact (fails _).ranged (selfStart _ _ drawn).ranged

theorem passTime (s : State) (d : Nat) : LawStays s (s.passTime d) := by
  have advance : ∀ (s : State) (d : Nat), Calm s (s.advanceTime d) := fun s d =>
    .of_same (State.advanceTime_same s d) (by decide) (by decide) (by decide) (by decide)
  induction s, d using State.passTime_induction with
  | stop s d hd =>
    exact fun hl => ⟨passTime_free hd ▸ (advance s d).ranged hl.ranged, hl.clocked.passTime d⟩
  | due s d hd ih =>
    intro hl
    rw [State.passTime_due hd]
    exact ih (takeDue _ ⟨(advance s _).ranged hl.ranged, hl.clocked.advanceTime hl.clocked.untilDue_in⟩)

theorem secondsTick (s : State) (v : Int) : LawStays s (s.secondsTick v) := by
  have h1 : LawStays s (s.wrapped v) :=
    of_clocked (fs := [.timer, .pins]) (by simp [Same, State.wrapped]) (by decide) fun h =>
      ⟨h.sinceStart, Nat.zero_lt_succ _, h.qa, h.qb, h.missedRun, h.signal, h.coldest, h.hottest, h.markLoss, h.overheat,
        h.down⟩
  have h2 := h1.trans (of_clocked (State.readTemperature_same _ v) (by decide) fun h => h.readTemperature v)
  exact h2.trans (of_calm (.idleTick _) (State.idleTick_same _) (by decide) (by decide))

/-- R9: an accepted level starts a new run. -/
theorem eighthSample_run {p : Sampler} (h : p.run ≤ 7) (x : Bool) : (eighthSample p x).run ≤ 7 := by
  unfold eighthSample
  split
  · exact Nat.zero_le _
  · exact h

theorem acceptQuiet (s : State) (qa qb : Bool) : LawStays s (s.acceptQuiet qa qb) := by
  have h1 : LawStays s (s.eighthTaken qa qb) :=
    of_clocked (fs := [.timer, .pins]) (by simp [Same, State.eighthTaken]) (by decide) fun h =>
      ⟨h.sinceStart, h.divider, eighthSample_run h.qa _, eighthSample_run h.qb _, h.missedRun, h.signal, h.coldest,
        h.hottest, h.markLoss, h.overheat, h.down⟩
  exact h1.trans (of_calm (.quietHandOver _ _ _) (State.quietHandOver_same _ _ _) (by decide) (by decide))

theorem signalLost (s : State) : LawStays s s.signalLost :=
  of_clocked (State.signalLost_same s) (by decide) fun h =>
    ⟨h.sinceStart, h.divider, h.qa, h.qb, h.missedRun, fun x hx => by
      change some (s.faults.noSignal.getD 0) = some x at hx
      cases hn : s.faults.noSignal with
      | none => rw [hn] at hx; cases hx; exact Nat.zero_le _
      | some y => rw [hn] at hx; cases hx; exact h.signal _ hn,
      h.coldest, h.hottest, h.markLoss, h.overheat, fun hb => ⟨(h.down hb).1, rfl⟩⟩

theorem signalGone (s : State) : LawStays s s.signalGone := by
  unfold State.signalGone
  split
  · exact refl s
  · exact refl s
  · next x hn hb =>
    intro hl
    have hp := passTime s (signalLimit - x) hl
    refine of_clocked (State.backboneFails_same _) (by decide) (fun h => h.backboneFails ?_) hp
    rw [State.passTime_noSignal, hn]
    rfl

theorem signalBack (s : State) : LawStays s s.signalBack := by
  have h1 : LawStays s (if s.signalLimitReached then s.backboneFails else s) := by
    split
    · next h1 =>
      exact of_clocked (State.backboneFails_same _) (by decide) fun h =>
        h.backboneFails (Clocked.signalLimitReached_isSome h1)
    · exact refl s
  unfold State.signalBack
  refine h1.trans (of_clocked (fs := [.pins, .faults])
    (((State.setUpstreamLine_same _ true).widen (by decide)).trans ((State.modFaults_same _ _).widen (by decide)))
    (by decide) fun h => ?_)
  exact ⟨h.sinceStart, h.divider, h.qa, h.qb, h.missedRun, fun x hx => (by cases hx), h.coldest, h.hottest,
    h.markLoss, h.overheat, fun hb => (by cases hb)⟩

/-! ### Management -/

/-- An operation on the settings of the part, within their range. -/
theorem settings (s : State) {f : Management → Management}
    (h : ∀ m, 60 ≤ m.settings.threshold ∧ m.settings.threshold ≤ 125 →
      60 ≤ (f m).settings.threshold ∧ (f m).settings.threshold ≤ 125) : LawStays s (s.modMgmt f) :=
  fun hl => ⟨⟨hl.ranged.berths, hl.ranged.chains, h _ hl.ranged.settings, hl.ranged.zone⟩, hl.clocked⟩

theorem clampThreshold_range (n : Nat) : 60 ≤ clampThreshold n ∧ clampThreshold n ≤ 125 := by
  unfold clampThreshold
  omega

theorem loadSettings (s : State) (bs : List Byte) : LawStays s (s.loadSettings (partSettingsOf bs)) := by
  have h1 : LawStays s (s.modMgmt fun m => { m with settings := partSettingsOf bs }) :=
    settings s fun _ _ => clampThreshold_range _
  have judge : ∀ s : State, LawStays s s.judgeOverheat := fun s =>
    of_clocked (State.judgeOverheat_same s) (by decide) fun h => h.judgeOverheat
  have level : ∀ (s : State) (qa qb : Bool), LawStays s (s.countLevelChanges qa qb) := fun s _ _ =>
    of_same (State.countPart_same s _) (by decide)
  have all : ∀ s : State, LawStays s s.evaluateAll := fun s =>
    of_calm (.evaluateAll s) (State.evaluateAll_same s) (by decide) (by decide)
  unfold State.loadSettings
  dsimp only
  split
  · exact h1.trans (judge _)
  · exact ((h1.trans (level _ _ _)).trans (all _)).trans (judge _)

theorem loadChain (s : State) (c : ChainIx) (e : Bool) (x y : Nat) : LawStays s (s.loadChain c e x y) := by
  have h1 : LawStays s (s.modChain c fun ch =>
      { ch with enabled := e, budget := clampBudget x, ratio := clampRatio y }) := fun hl => by
    refine ⟨⟨hl.ranged.berths, fun c' => ?_, hl.ranged.settings, hl.ranged.zone⟩, hl.clocked⟩
    rw [State.modChain_get]
    split
    · refine ⟨min_le_left _ _, le_max_left _ _, ?_, (hl.ranged.chains c).2.2.2⟩
      show max 1 (min 15 y) ≤ 15
      omega
    · exact hl.ranged.chains c'
  exact ite (h1.trans (of_calm (.chainStops _ c) (State.chainStops_same _ c) (by decide) (by decide))) h1

/-- R159: an entry written, zone 0 excepted (R71). -/
theorem loadEntry (s : State) (t : Table) {i : Nat} (hz : ¬ (t = .zone ∧ i = 0)) (bs : List Byte) :
    LawStays s (s.loadEntry t i bs) := by
  unfold State.loadEntry
  cases t with
  | berth =>
    dsimp only
    split
    · exact of_calm (.loadBerth s _ _) (State.loadBerth_same s _ _) (by decide) (by decide)
    · exact refl s
  | zone =>
    dsimp only
    split
    · intro hl
      refine ⟨⟨hl.ranged.berths, hl.ranged.chains, hl.ranged.settings, ?_⟩, hl.clocked⟩
      show (s.zones.set i _)[0] = _
      rw [Vector.getElem_set_ne _ _ (by simpa using hz)]
      exact hl.ranged.zone
    · exact refl s
  | profile =>
    dsimp only
    split
    · exact (of_same (same_set_profiles s _) (by decide)).trans
        (of_calm (.copyProfile _ _) (State.copyProfile_same _ _) (by decide) (by decide))
    · exact refl s
  | cls =>
    dsimp only
    split
    · exact of_calm (.loadClass s _ _) (State.loadClass_same s _ _) (by decide) (by decide)
    · exact refl s
  | chain =>
    dsimp only
    split
    · exact loadChain s _ _ _ _
    · exact refl s
  | settings => exact loadSettings s bs
  | stream => exact refl s
  | channel => exact refl s

theorem loadAll (s : State) (t : Table) {first : Nat} (hz : ¬ (t = .zone ∧ first = 0)) (entries : List Byte)
    (count : Nat) : LawStays s (s.loadAll t first entries count) := by
  unfold State.loadAll
  induction List.range count generalizing s with
  | nil => exact refl s
  | cons j js ih => exact (loadEntry s t (fun h => hz ⟨h.1, by omega⟩) _).trans (ih _)

theorem clearGroup (s : State) (g : Group) : LawStays s (s.clearGroup g) := by
  cases g with
  | portU => exact of_same (State.countU_same s _) (by decide)
  | portT => exact of_same (State.countT_same s _) (by decide)
  | stream v => exact of_same (State.countStream_same s v _) (by decide)
  | channel a => exact of_same (State.countChannel_same s a _) (by decide)
  | chain c =>
    exact fun hl => ⟨hl.ranged.of_counts (fun _ => id) (clearGroup_frame s (.chain c)).2.2 rfl rfl, hl.clocked⟩
  | part => exact of_same (State.countPart_same s _) (by decide)

/-- R11: CLEAR FAULTS leaves a flag raised whose condition holds. -/
theorem clearFaults (s : State) : LawStays s s.clearFaults :=
  of_clocked (State.clearFaults_same s) (by decide) fun h =>
    ⟨h.sinceStart, h.divider, h.qa, h.qb, h.missedRun, h.signal, h.coldest, h.hottest,
      fun h50 => by simp [State.clearFaults, State.markLossHolds, h.markLoss h50, show 50 ≤ s.timer.missedRun from h50],
      fun ho => by simp [State.clearFaults, h.overheat ho, show s.faults.overheat = true from ho],
      fun hb => ⟨by simp [State.clearFaults, (h.down hb).1, show s.faults.backboneDown = true from hb], (h.down hb).2⟩⟩

theorem intoService (s : State) : LawStays s s.intoService := by
  have h1 := settings s (f := fun m => { m with mode := .service }) fun _ h => h
  have h2 := h1.trans (of_calm (.enterServiceSettings _) (State.enterServiceSettings_same _) (by decide) (by decide))
  exact h2.trans (of_calm (.joinAll _) (State.joinAll_same _) (by decide) (by decide))

theorem intoConfiguration (s : State) : LawStays s s.intoConfiguration := by
  have idle : ∀ (s : State) (a : ChannelIx), LawStays s (s.idleChannel a) := fun s a =>
    of_calm (.idleChannel s a) (State.idleChannel_same s a) (by decide) (by decide)
  have h1 := ((settings s (f := fun m => { m with mode := .configuration }) fun _ h => h).trans (idle _ 0)).trans (idle _ 1)
  exact (h1.trans (of_same (State.emptyRings_same _) (by decide))).trans
    (of_calm (.flushAll _) (State.flushAll_same _) (by decide) (by decide))

theorem modChain (s : State) (c : ChainIx) {f : Chain → Chain} (h : ∀ ch, Chain.Calm ch (f ch)) :
    LawStays s (s.modChain c f) :=
  of_calm (.modChain s c h) (State.modChain_same s c f) (by decide) (by decide)

theorem modBerth (s : State) (b : BerthIx) {f : Berth → Berth} (h : ∀ r, Berth.InRange r → (f r).InRange) :
    LawStays s (s.modBerth b f) :=
  of_calm (.modBerth s b h) (State.modBerth_same s b f) (by decide) (by decide)

/-- Management keeps the ranges. -/
theorem of_manages {s t : State} {c : Command} (h : Manages s c t) : LawStays s t := by
  have start : ∀ (s : State) (c : ChainIx), LawStays s (s.startQueries c) := fun s c =>
    of_calm (.startQueries s c) (State.startQueries_same s c) (by decide) (by decide)
  cases h with
  | stays => exact refl s
  | loads _ _ _ _ hz => exact loadAll s _ hz _ _
  | opensVideo => exact of_same (State.openVideo_same _ _ _) (by decide)
  | opensAudio => exact of_same (State.openAudio_same _ _ _) (by decide)
  | closes => exact of_calm (.closeStream s _) (State.closeStream_same s _) (by decide) (by decide)
  | joins => exact modBerth s _ fun _ => Calm.joined s
  | overlays => exact modBerth s _ fun _ h => h
  | clearsGroup => exact clearGroup s _
  | clearsAttention => exact settings s fun _ h => h
  | acknowledges => exact of_same (State.acknowledge_same _ _) (by decide)
  | clearsFaults => exact clearFaults s
  | entersService => exact intoService s
  | entersConfiguration => exact intoConfiguration s
  | asks =>
    refine (modChain s _ ?_).trans (start _ _)
    exact fun _ => ⟨rfl, rfl, id, rfl⟩
  | fetches =>
    refine (modChain s _ ?_).trans (start _ _)
    exact fun _ => ⟨rfl, rfl, id, rfl⟩
  | aborts => exact of_calm (.discardQueries s _) (State.discardQueries_same s _) (by decide) (by decide)

/-- R7, R19, R44, R71, R93, R127, R157: the values of a reset lie within the ranges. -/
theorem afterReset (pins : Pins) : Lawful (State.afterReset pins) := by
  refine ⟨⟨fun b => ?_, fun c => ?_, (by decide : 60 ≤ 95 ∧ 95 ≤ 125), rfl⟩, ⟨Nat.zero_le _, (by decide : 0 < 1000), Nat.zero_le _, Nat.zero_le _, Nat.zero_le _,
    fun x hx => ?_, ?_, ?_, fun h => ?_, id, fun hb => by cases hb⟩⟩
  · rw [show (State.afterReset pins).berths[b] = Berth.initial from get_replicate_fin _ b]
    exact ⟨Nat.zero_le _, Nat.zero_le _, le_refl _⟩
  · rw [show (State.afterReset pins).chains[c] = Chain.initial pins.chainLines[c] from get_ofFn_fin _ c]
    exact ⟨(by decide : 8192 ≤ 10752), (by decide : 1 ≤ 4), (by decide : 4 ≤ 15), Nat.zero_le _⟩
  · change (if pins.upstreamLine then none else some 0) = some x at hx
    split at hx
    · cases hx
    · cases hx
      exact Nat.zero_le _
  · exact (Clocked.clampReading_range pins.sensor).1
  · exact (Clocked.clampReading_range pins.sensor).2
  · exact absurd (show 50 ≤ 0 from h) (by decide)

/-- A reset leaves the values of a reset, whatever holds the part and waits (R166). -/
theorem of_reset {s t : State} (pins : Pins) (h : Same [.held, .draws, .pending] (State.afterReset pins) t) :
    LawStays s t :=
  fun _ => of_same h (by decide) (afterReset pins)

theorem resetNow (s : State) : LawStays s s.resetNow := of_reset s.pins (by simp [Same, State.resetNow])

/-! ### Commands and media -/

/-- A COMMAND parcel keeps the ranges where management does. -/
theorem of_taken {s t : State} {m : State → Managed} (h : Taken s m t) (hm : ∀ s, LawStays s (m s).1) : LawStays s t := by
  cases h with
  | forwarded _ h => exact of_same h (by decide)
  | executed s1 _ h _ ht => exact ((of_same h (by decide)).trans (hm s1)).trans (of_same ht (by decide))
  | resetPending s1 _ h _ ht =>
    exact (((of_same h (by decide)).trans (hm s1)).trans (of_same ht (by decide))).trans (settings _ fun _ h => h)
  | reset s1 _ h _ ht => exact fun hl => resetNow _ (((of_same h (by decide)).trans (hm s1)).trans (of_same ht (by decide)) hl)

/-- What management makes of a COMMAND payload keeps the ranges. -/
theorem managePayload (payload : List Byte) (s : State) : LawStays s (Machine.managePayload payload s).1 := by
  unfold Machine.managePayload
  split
  · exact refl s
  · split
    · exact refl s
    · exact of_manages (manageCommand_yields _ _ s).1

theorem command (s : State) (h : Header) (c : Command) (body : List Byte) : LawStays s (s.command h c body) :=
  of_taken (takeCommand_taken _ _ _ _) fun s => of_manages (manageCommand_yields c body s).1

theorem media {s : State} {p : Parcel} {take : State → State} (h : ∀ s, LawStays s (take s)) :
    LawStays s (s.takeMedia p take) :=
  (of_same (State.receivedThrough_same s p) (by decide)).trans (ite (h _) (of_same (State.countU_same _ _) (by decide)))

theorem upstreamSent (s : State) : LawStays s s.upstreamSent :=
  ite (resetNow s) (of_same (State.modUp_same s _) (by decide))

end LawStays

/-- Every row keeps the ranges. -/
theorem effect_lawStays (i : Instr) (s : State) : LawStays s (effect i s) := by
  cases i with
  | cycleMark hd elapsed lines payload => exact (LawStays.passTime s elapsed).trans (.takeMarkParcel _ _ _ _)
  | selfStart lines => exact (LawStays.passTime s _).trans (.selfStart _ _)
  | secondsTick sensor => exact .ite (.secondsTick _ _) (.refl _)
  | quietLineAccepted qa qb => exact .acceptQuiet s qa qb
  | markLoss =>
    exact .ite (.of_clocked (State.missMark_same s) (by decide) fun h => h.missMark) (.refl _)
  | backboneSignalLost => exact .signalLost _
  | backboneDown => exact .signalGone _
  | backboneSignalReturn => exact .signalBack _
  | programAudio hd payload => exact .media fun s => .of_same (State.takeProgramAudio_same s _) (by decide)
  | videoSegment hd payload =>
    exact .media fun s => .of_calm (.takeVideoSegment s _) (State.takeVideoSegment_same s _) (by decide) (by decide)
  | startCue hd cue =>
    exact .media fun s => .of_calm (.startCueTaken cue s) (State.startCueTaken_same cue s) (by decide) (by decide)
  | endCue hd cue =>
    exact .media fun s => .of_calm (.endCueTaken cue s) (State.endCueTaken_same cue s) (by decide) (by decide)
  | cancelCue hd cue =>
    exact .media fun s => .of_calm (.cancelCueTaken cue s) (State.cancelCueTaken_same cue s) (by decide) (by decide)
  | leadExpiry a => exact .ite (.of_calm (.countLead s a) (State.countLead_same s a) (by decide) (by decide)) (.refl _)
  | announceStall a =>
    exact .ite (.of_calm (.presentGap s a) (State.presentGap_same s a) (by decide) (by decide)) (.refl _)
  | announceAudio hd payload => exact .media fun s => .of_same (State.takeAnnounceAudio_same s _) (by decide)
  | chainFrameComplete r => exact .of_calm (.frameDone s r) (State.frameDone_same s r) (by decide) (by decide)
  | returnWindowClose c slots =>
    exact .of_calm (.returnWindow s c slots) (State.returnWindow_same s c slots) (by decide) (by decide)
  | berthPresent b =>
    exact .ite (.of_calm (.becomePresent s b) (State.becomePresent_same s b) (by decide) (by decide)) (.refl _)
  | berthAbsent b =>
    exact .ite (.of_calm (.enterAbsent s b) (State.enterAbsent_same s b) (by decide) (by decide)) (.refl _)
  | idleDim b => exact .ite (.modBerth s b fun _ => Calm.ticked) (.refl _)
  | idleSleep b => exact .ite (.modBerth s b fun _ => Calm.ticked) (.refl _)
  | noAnswer c =>
    exact .ite (.of_calm (.queryUnanswered s c) (State.queryUnanswered_same s c) (by decide) (by decide)) (.refl _)
  | chainLinkDown c => exact .of_calm (.chainLineLost s c) (State.chainLineLost_same s c) (by decide) (by decide)
  | chainLinkUp c => exact .of_calm (.chainLineBack s c) (State.chainLineBack_same s c) (by decide) (by decide)
  | receiveCheckFailure port clean bytes => exact .of_same (State.dropFailed_same s _ _ _) (by decide)
  | wrongDirection hd payload => exact .of_same (State.replyArrives_same s) (by decide)
  | forwardCommand hd payload => exact .of_taken (takeCommand_taken _ _ _ _) (.managePayload payload)
  | throughArrival p => exact .of_same (State.takeThrough_same s p) (by decide)
  | throughLinkDown =>
    exact (LawStays.of_same (State.setThroughLine_same s false) (by decide)).trans
      (.of_same (State.modThru_same _ _) (by decide))
  | throughLinkUp =>
    exact (LawStays.of_same (State.setThroughLine_same s true) (by decide)).trans
      (.of_same (State.modThru_same _ _) (by decide))
  | throughSendComplete => exact .of_same (State.modThru_same s _) (by decide)
  | upstreamSendComplete => exact .upstreamSent s
  | unknownCommand hd payload => exact .of_taken (takeCommand_taken _ _ _ _) (.managePayload payload)
  | identify hd body => exact .command _ _ _ _
  | loadEntries hd body => exact .command _ _ _ _
  | readEntries hd body => exact .command _ _ _ _
  | openStream hd body => exact .command _ _ _ _
  | closeStream hd body => exact .command _ _ _ _
  | resetBerth hd body => exact .command _ _ _ _
  | setBerthActive hd body => exact .command _ _ _ _
  | readCounters hd body => exact .command _ _ _ _
  | clearCounters hd body => exact .command _ _ _ _
  | readAttention hd body => exact .command _ _ _ _
  | clearAttention hd body => exact .command _ _ _ _
  | readCalls hd body => exact .command _ _ _ _
  | acknowledgeCalls hd body => exact .command _ _ _ _
  | clearFaults hd body => exact .command _ _ _ _
  | enterService hd body => exact .command _ _ _ _
  | enterConfiguration hd body => exact .command _ _ _ _
  | berthQuery hd body => exact .command _ _ _ _
  | fetchQueryResults hd body => exact .command _ _ _ _
  | abortQueries hd body => exact .command _ _ _ _
  | restart hd body => exact .command _ _ _ _
  | powerOnReset => exact .of_reset s.pins (by simp [Same, effect, State.resetNow])
  | resetPin => exact .of_reset s.pins (by simp [Same, effect, State.resetNow])
  | endOfReset pins => exact .of_reset pins (by simp [Same, effect])
  | cueBadPayload hd payload => exact .media fun s => .of_same (State.countU_same s _) (by decide)

/-- Every step keeps the ranges: the idle step and every row. -/
theorem step_lawStays {s t : State} (h : step s = .next t) : LawStays s t := by
  unfold step at h
  split at h
  · obtain rfl := Host.Outcome.next.inj h
    exact .ite ((LawStays.passTime s _).trans (.takeDue _)) (.refl s)
  · next i rest _ =>
    rw [exec_eq] at h
    obtain rfl := Host.Outcome.next.inj h
    have h1 : LawStays s { s with pending := rest } := .of_same (fs := [.pending]) (by simp [Same]) (by decide)
    exact h1.trans (.ite (effect_lawStays i _) (.refl _))

end Sys2Proof.Machine

/-- Settles O59: the ranges hold of a part as one predicate (`lawful_iff`), and every step keeps it (`step_lawStays`). -/
theorem rangeLawKept : Obligations.RangeLawKept := by
  intro s t hr hf hg h
  exact (lawful_iff t).1 (step_lawStays h ((lawful_iff s).2 ⟨hr, hf, hg⟩))
end

section
/-! PROOF. The blocks of a cycle start read nothing of a berth's awake state, idle seconds and regime, and of its settings
the mixer alone. So the idle timers and the hand-over of quiet levels, which write only these, commute with them, wherever
the spec leaves the order open (R34, R41, R51; log 3). -/

namespace Sys2Proof.Machine

/-! ### The look of a berth -/

/-- What idle timer and quiet regime write of a berth. -/
structure Look where
  awake : Awake
  idle : Nat
  regime : Regime
  settings : Settings

/-- The look of a berth. -/
def Berth.look (r : Berth) : Look :=
  { awake := r.awake, idle := r.idle, regime := r.regime, settings := r.settings }

/-- A berth with another look. -/
def Berth.wear (r : Berth) (l : Look) : Berth :=
  { r with awake := l.awake, idle := l.idle, regime := l.regime, settings := l.settings }

@[simp] theorem Berth.wear_look (r : Berth) : r.wear r.look = r := rfl

@[simp] theorem Berth.look_wear (r : Berth) (l : Look) : (r.wear l).look = l := rfl

@[simp] theorem Berth.wear_wear (r : Berth) (l m : Look) : (r.wear l).wear m = r.wear m := rfl

/-- The berths with every look changed by `f`. -/
@[irreducible] def dressed (v : Vector Berth 48) (f : BerthIx → Look → Look) : Vector Berth 48 :=
  Vector.ofFn fun b => v[b].wear (f b v[b].look)

theorem dressed_get (v : Vector Berth 48) (f : BerthIx → Look → Look) (b : BerthIx) :
    (dressed v f)[b] = v[b].wear (f b v[b].look) := by
  unfold dressed
  exact get_ofFn_fin _ b

/-- Two vectors of berths are equal when they are at every berth. -/
theorem berths_ext {x y : Vector Berth 48} (h : ∀ b : BerthIx, x[b] = y[b]) : x = y :=
  Vector.ext fun i hi => h ⟨i, hi⟩

theorem dressed_dressed (v : Vector Berth 48) (f g : BerthIx → Look → Look) :
    dressed (dressed v f) g = dressed v fun b l => g b (f b l) :=
  berths_ext fun b => by rw [dressed_get, dressed_get, dressed_get, Berth.look_wear, Berth.wear_wear]

/-- The state with every berth's look changed by `f`, and with the counts, the draws and the ports of another. -/
def State.guise (s : State) (f : BerthIx → Look → Look) (o : State) : State :=
  { s with berths := dressed s.berths f, counts := o.counts, draws := o.draws, up := o.up, thru := o.thru }

theorem State.guise_get (s : State) (f : BerthIx → Look → Look) (o : State) (b : BerthIx) :
    (s.guise f o).berths[b] = s.berths[b].wear (f b s.berths[b].look) :=
  dressed_get _ _ _

theorem State.guise_guise (s : State) (f g : BerthIx → Look → Look) (o p : State) :
    (s.guise f o).guise g p = s.guise (fun b l => g b (f b l)) p :=
  congrArg (fun v => { s with berths := v, counts := p.counts, draws := p.draws, up := p.up, thru := p.thru })
    (dressed_dressed s.berths f g)

/-- Two states are equal when their berths are, and all else is. -/
theorem State.ext_berths {s t : State} (hb : ∀ b : BerthIx, s.berths[b] = t.berths[b])
    (h : { s with berths := t.berths } = t) : s = t := by
  rw [← h, ← berths_ext hb]

/-- A state is a guise of another when its berths are those of the other in another look, and it differs elsewhere in
counts, draws and ports alone. -/
theorem State.eq_guise {s t : State} {f : BerthIx → Look → Look} (h : Same [.berths, .counts, .draws, .up, .thru] s t)
    (hb : ∀ b : BerthIx, t.berths[b] = s.berths[b].wear (f b s.berths[b].look)) : t = s.guise f t := by
  refine State.ext_berths (fun b => by rw [hb, State.guise_get]) ?_
  obtain ⟨h1, h2, h3, h4, h5, -, -, h8, h9, h10, h11, h12, h13, h14, h15, h16, h17, h18, -, -, -, h22⟩ := h
  unfold State.guise
  cases s
  cases t
  simp_all

section
variable (s : State) (f : BerthIx → Look → Look) (o : State)

/-! ### Channels -/

theorem State.guise_mapBerths {g g' : BerthIx → Berth → Berth}
    (h : ∀ b r, g' b (r.wear (f b r.look)) = (g b r).wear (f b (g b r).look)) :
    (s.guise f o).mapBerths g' = (s.mapBerths g).guise f o := by
  refine State.ext_berths (fun b => ?_) rfl
  rw [State.mapBerths_get, State.guise_get, State.guise_get, State.mapBerths_get]
  exact h b _

theorem State.guise_recomputeGoverning :
    (s.guise f o).recomputeGoverning = s.recomputeGoverning.guise f o := by
  refine State.guise_mapBerths s f o fun b r => ?_
  unfold State.regoverned
  by_cases h : r.presence = .present
  · rw [if_pos h]
    exact if_pos h
  · rw [if_neg h]
    exact if_neg h

theorem State.guise_modChannel (a : ChannelIx) (g : Channel → Channel) :
    (s.guise f o).modChannel a g = (s.modChannel a g).guise f o := rfl

theorem State.guise_latchStall (a : ChannelIx) : (s.guise f o).latchStall a = (s.latchStall a).guise f o := rfl

theorem State.guise_enterPlaying (a : ChannelIx) : (s.guise f o).enterPlaying a = (s.enterPlaying a).guise f o := by
  unfold State.enterPlaying
  rw [State.guise_modChannel, State.guise_recomputeGoverning]

theorem State.guise_enterLead (a : ChannelIx) : (s.guise f o).enterLead a = (s.enterLead a).guise f o := by
  have hl : (s.guise f o).leadOf a = s.leadOf a := rfl
  unfold State.enterLead
  rw [hl, State.guise_enterPlaying, State.guise_modChannel, State.guise_recomputeGoverning]
  split <;> rfl

theorem State.guise_releaseHolds (a : ChannelIx) : (s.guise f o).releaseHolds a = s.releaseHolds a := by
  unfold State.releaseHolds State.present
  simp only [State.guise_get]
  rfl

theorem State.guise_evaluateRelease (a : ChannelIx) :
    (s.guise f o).evaluateRelease a = (s.evaluateRelease a).guise f o := by
  have hc : (s.guise f o).channels = s.channels := rfl
  unfold State.evaluateRelease
  rw [hc, State.guise_releaseHolds, State.guise_enterLead]
  split <;> rfl

theorem State.guise_evaluateReleases : (s.guise f o).evaluateReleases = s.evaluateReleases.guise f o := by
  unfold State.evaluateReleases
  rw [State.guise_evaluateRelease, State.guise_evaluateRelease]

theorem State.guise_enterIdle (a : ChannelIx) : (s.guise f o).enterIdle a = (s.enterIdle a).guise f o := by
  unfold State.enterIdle
  rw [State.guise_modChannel, State.guise_recomputeGoverning, State.guise_evaluateRelease]

theorem State.guise_stallOut (a : ChannelIx) : (s.guise f o).stallOut a = (s.stallOut a).guise f o := by
  unfold State.stallOut
  rw [State.guise_latchStall, State.guise_enterIdle]

theorem State.guise_presentGap (a : ChannelIx) : (s.guise f o).presentGap a = (s.presentGap a).guise f o := by
  have hc : ∀ t : State, (t.guise f o).channels = t.channels := fun _ => rfl
  unfold State.presentGap
  dsimp only
  rw [State.guise_modChannel, hc, State.guise_stallOut]
  split <;> rfl

theorem State.guise_presentSpeech (a : ChannelIx) :
    (s.guise f o).presentSpeech a = (s.presentSpeech a).guise f o := by
  have hc : (s.guise f o).channels = s.channels := rfl
  unfold State.presentSpeech
  dsimp only
  rw [hc]
  rw [State.guise_enterIdle, State.guise_presentGap]
  split
  · rfl
  · split
    · rfl
    · rfl

theorem State.guise_countLead (a : ChannelIx) : (s.guise f o).countLead a = (s.countLead a).guise f o := by
  have hc : (s.guise f o).channels = s.channels := rfl
  unfold State.countLead
  rw [hc, State.guise_enterPlaying, State.guise_modChannel]
  split <;> rfl

theorem State.guise_channelCycle (a : ChannelIx) (st : ChannelState) :
    (s.guise f o).channelCycle a st = (s.channelCycle a st).guise f o := by
  cases st with
  | lead => exact State.guise_countLead s f o a
  | playing => exact State.guise_presentSpeech s f o a
  | idle => rfl
  | ducking => rfl

theorem State.guise_channelsCycle : (s.guise f o).channelsCycle = s.channelsCycle.guise f o := by
  have hc : (s.guise f o).channels = s.channels := rfl
  have hs : (s.guise f o).serving = s.serving := rfl
  unfold State.channelsCycle
  rw [hs, hc, State.guise_channelCycle, State.guise_channelCycle]
  split <;> rfl

/-! ### Rings and mixer -/

theorem State.guise_listenedTo (v : StreamIx) : (s.guise f o).listenedTo v = s.listenedTo v := by
  unfold State.listenedTo State.present
  simp only [State.guise_get]
  rfl

theorem State.guise_presentRings (n : Word16) : (s.guise f o).presentRings n = (s.presentRings n).guise f o := by
  have he : ∀ v, (s.guise f o).presentedEntry n v = s.presentedEntry n v := by
    intro v
    unfold State.presentedEntry
    rw [State.guise_listenedTo]
    rfl
  unfold State.presentRings
  rw [funext he]
  rfl

/-- R99 to R106: the mixer reads of a berth's look the settings alone. -/
theorem State.guise_mixed (r : Berth) {l : Look} (h : l.settings = r.settings) :
    (s.guise f o).mixedBerth (r.wear l) = (s.mixedBerth r).wear l ∧
    (s.guise f o).mixedSlot (r.wear l) = s.mixedSlot r ∧ (s.guise f o).mixClips (r.wear l) = s.mixClips r := by
  obtain ⟨a, i, g, x⟩ := l
  obtain rfl : x = r.settings := h
  exact ⟨rfl, rfl, rfl⟩

theorem State.guise_mix (h : ∀ b l, (f b l).settings = l.settings) : (s.guise f o).mix = s.mix.guise f o := by
  have mixed : ∀ b : BerthIx, _ := fun b => State.guise_mixed s f o s.berths[b] (h b s.berths[b].look)
  have hp : ∀ b, (s.guise f o).present b = s.present b := by
    intro b
    unfold State.present
    rw [State.guise_get]
    rfl
  have hsv : (s.guise f o).serving = s.serving := rfl
  unfold State.mix
  rw [hsv]
  split
  · simp only [State.guise_get, hp, mixed]
    refine State.ext_berths (fun b => ?_) rfl
    rw [State.guise_get, get_ofFn_fin, get_ofFn_fin]
    split
    · rfl
    · rfl
  · rfl

theorem State.guise_mixAndRelease (h : ∀ b l, (f b l).settings = l.settings) :
    (s.guise f o).mixAndRelease = s.mixAndRelease.guise f o := by
  have hs : (s.mix.guise f o).serving = s.mix.serving := rfl
  unfold State.mixAndRelease
  dsimp only
  rw [State.guise_mix s f o h, hs, State.guise_evaluateReleases]
  split <;> rfl

end

end Sys2Proof.Machine
end

section
/-! PROOF. What each block of a cycle start writes of the berths: the blocks governing, ducked mark and gains, the idle
timers awake state and idle seconds, the quiet regime regime and settings; and what governs a berth meanwhile (R34, R41,
R79, R97). -/

namespace Sys2Proof.Machine

/-! ### Governing, ducked mark and gains -/

/-- Of each berth, `t` differs from `s` at most in governing, ducked mark and gains. -/
def Steered (s t : State) : Prop := ∀ b : BerthIx, t.berths[b] = { s.berths[b] with
  governing := t.berths[b].governing, ducked := t.berths[b].ducked, ap := t.berths[b].ap, ad := t.berths[b].ad }

/-- R97: one berth after the mix. -/
theorem State.mix_get (s : State) (b : BerthIx) : s.mix.berths[b] =
    if s.serving = true ∧ s.present b = true then s.mixedBerth s.berths[b] else s.berths[b] := by
  unfold State.mix
  by_cases hs : s.serving = true
  · rw [if_pos hs]
    refine (get_ofFn_fin _ b).trans ?_
    simp only [hs, true_and]
  · rw [if_neg hs, if_neg fun h => hs h.1]

namespace Steered

theorem refl (s : State) : Steered s s := fun _ => rfl

theorem trans {s t u : State} (h : Steered s t) (k : Steered t u) : Steered s u := fun b => by
  rw [k b, h b]

theorem ite {s t u : State} {c : Prop} [Decidable c] (h : Steered s t) (k : Steered s u) :
    Steered s (if c then t else u) := by
  split
  · exact h
  · exact k

theorem of_same {fs : List StateField} {s t : State} (h : Same fs s t) (hf : StateField.berths ∉ fs) : Steered s t := by
  unfold Steered
  rw [h.berths hf]
  exact refl s

theorem of_governed {s t : State} (h : ∀ b : BerthIx, t.berths[b] =
    { s.berths[b] with governing := t.berths[b].governing, ducked := t.berths[b].ducked }) : Steered s t := fun b => by
  rw [h b]

theorem enterIdle (s : State) (a : ChannelIx) : Steered s (s.enterIdle a) := of_governed (enterIdle_spec s a).1

theorem enterPlaying (s : State) (a : ChannelIx) : Steered s (s.enterPlaying a) := of_governed (enterPlaying_spec s a).1

theorem modChannel (s : State) (a : ChannelIx) (f : Channel → Channel) : Steered s (s.modChannel a f) :=
  of_same (State.modChannel_same s a f) (by decide)

theorem presentGap (s : State) (a : ChannelIx) : Steered s (s.presentGap a) := by
  unfold State.presentGap
  refine (modChannel s a _).trans (ite ?_ (refl _))
  unfold State.stallOut
  exact (of_same (State.latchStall_same _ a) (by decide)).trans (enterIdle _ a)

theorem presentSpeech (s : State) (a : ChannelIx) : Steered s (s.presentSpeech a) := by
  refine ite (enterIdle s a) ?_
  split
  · exact modChannel s a _
  · exact presentGap s a

theorem countLead (s : State) (a : ChannelIx) : Steered s (s.countLead a) := ite (enterPlaying s a) (modChannel s a _)

theorem channelCycle (s : State) (a : ChannelIx) (st : ChannelState) : Steered s (s.channelCycle a st) := by
  cases st with
  | lead => exact countLead s a
  | playing => exact presentSpeech s a
  | idle => exact refl s
  | ducking => exact refl s

theorem channelsCycle (s : State) : Steered s s.channelsCycle :=
  ite ((channelCycle s 0 _).trans (channelCycle _ 1 _)) (refl s)

theorem mix (s : State) : Steered s s.mix := fun b => by
  rw [State.mix_get]
  split
  · rfl
  · rfl

theorem mixAndRelease (s : State) : Steered s s.mixAndRelease := by
  unfold State.mixAndRelease
  exact (mix s).trans (ite (of_governed (evaluateReleases_spec _).1) (refl _))

end Steered

/-! ### Regime and settings -/

/-- `t` has the regimes and settings, the effective levels, the profiles and the counts of `s`. -/
structure SameLevels (s t : State) : Prop where
  config : ∀ b : BerthIx, t.berths[b].config = s.berths[b].config
  regime : ∀ b : BerthIx, t.berths[b].regime = s.berths[b].regime
  settings : ∀ b : BerthIx, t.berths[b].settings = s.berths[b].settings
  counts : t.counts = s.counts
  profiles : t.profiles = s.profiles
  timer : t.timer = s.timer
  part : t.mgmt.settings = s.mgmt.settings

namespace SameLevels

theorem refl (s : State) : SameLevels s s := ⟨fun _ => rfl, fun _ => rfl, fun _ => rfl, rfl, rfl, rfl, rfl⟩

theorem trans {s t u : State} (h : SameLevels s t) (k : SameLevels t u) : SameLevels s u :=
  ⟨fun b => (k.config b).trans (h.config b), fun b => (k.regime b).trans (h.regime b),
    fun b => (k.settings b).trans (h.settings b), k.counts.trans h.counts, k.profiles.trans h.profiles,
    k.timer.trans h.timer, k.part.trans h.part⟩

theorem effective {s t : State} (h : SameLevels s t) : t.effectiveQA = s.effectiveQA ∧ t.effectiveQB = s.effectiveQB := by
  unfold State.effectiveQA State.effectiveQB
  rw [h.timer, h.part]
  exact ⟨rfl, rfl⟩

/-- What steers berths and writes no count keeps the levels. -/
theorem of_steered {fs : List StateField} {s t : State} (h : Steered s t) (hs : Same fs s t)
    (hf : ∀ f ∈ [StateField.counts, .profiles, .timer], f ∉ fs) (hp : t.mgmt.settings = s.mgmt.settings) :
    SameLevels s t :=
  ⟨fun b => by rw [h b], fun b => by rw [h b], fun b => by rw [h b], hs.counts (hf _ (by decide)),
    hs.profiles (hf _ (by decide)), hs.timer (hf _ (by decide)), hp⟩

theorem presentRings (s : State) (n : Word16) : SameLevels s (s.presentRings n) :=
  of_steered (.of_same (State.presentRings_same s n) (by decide)) (State.presentRings_same s n) (by decide) rfl

theorem channelsCycle (s : State) : SameLevels s s.channelsCycle :=
  of_steered (.channelsCycle s) (State.channelsCycle_same s) (by decide) (Calm.channelsCycle s).settings

theorem mixAndRelease (s : State) : SameLevels s s.mixAndRelease :=
  of_steered (.mixAndRelease s) (State.mixAndRelease_same s) (by decide)
    (congrArg Management.settings ((State.mixAndRelease_same s).mgmt (by decide)))

theorem chainsCycle (s : State) (n : Word16) : SameLevels s (s.chainsCycle n) :=
  of_steered (.of_same (State.chainsCycle_same s n) (by decide)) (State.chainsCycle_same s n) (by decide)
    (Calm.chainsCycle s n).settings

theorem idleTick (s : State) : SameLevels s s.idleTick := by
  have hs := State.idleTick_same s
  have hb : ∀ b : BerthIx, s.idleTick.berths[b] = s.berths[b].withIdle (s.idleTick.berths[b].awake, s.idleTick.berths[b].idle) := by
    intro b
    rw [State.idleTick_get]
    split
    · rfl
    · rfl
  exact ⟨fun b => by rw [hb]; rfl, fun b => by rw [hb]; rfl, fun b => by rw [hb]; rfl, hs.counts (by decide),
    hs.profiles (by decide), hs.timer (by decide), congrArg Management.settings (hs.mgmt (by decide))⟩

theorem tickAndChannels (s : State) (tick first : Bool) : SameLevels s (s.tickAndChannels tick first) := by
  unfold State.tickAndChannels
  split
  · split
    · exact (idleTick s).trans (channelsCycle _)
    · exact (channelsCycle s).trans (idleTick _)
  · exact channelsCycle s

end SameLevels

/-! ### Awake states and idle seconds -/

/-- `t` has the presences, the awake states, the idle seconds and the mode of `s`. -/
structure SameTimers (s t : State) : Prop where
  presence : ∀ b : BerthIx, t.berths[b].presence = s.berths[b].presence
  awake : ∀ b : BerthIx, t.berths[b].awake = s.berths[b].awake
  idle : ∀ b : BerthIx, t.berths[b].idle = s.berths[b].idle
  mode : t.mgmt.mode = s.mgmt.mode

namespace SameTimers

theorem refl (s : State) : SameTimers s s := ⟨fun _ => rfl, fun _ => rfl, fun _ => rfl, rfl⟩

theorem trans {s t u : State} (h : SameTimers s t) (k : SameTimers t u) : SameTimers s u :=
  ⟨fun b => (k.presence b).trans (h.presence b), fun b => (k.awake b).trans (h.awake b),
    fun b => (k.idle b).trans (h.idle b), k.mode.trans h.mode⟩

theorem ite {s t u : State} {c : Prop} [Decidable c] (h : SameTimers s t) (k : SameTimers s u) :
    SameTimers s (if c then t else u) := by
  split
  · exact h
  · exact k

theorem of_steered {s t : State} (h : Steered s t) (hm : t.mgmt.mode = s.mgmt.mode) : SameTimers s t :=
  ⟨fun b => by rw [h b], fun b => by rw [h b], fun b => by rw [h b], hm⟩

theorem presentRings (s : State) (n : Word16) : SameTimers s (s.presentRings n) :=
  of_steered (.of_same (State.presentRings_same s n) (by decide)) rfl

theorem channelsCycle (s : State) : SameTimers s s.channelsCycle :=
  of_steered (.channelsCycle s) (Calm.channelsCycle s).mode

theorem mixAndRelease (s : State) : SameTimers s s.mixAndRelease :=
  of_steered (.mixAndRelease s) (congrArg Management.mode ((State.mixAndRelease_same s).mgmt (by decide)))

theorem chainsCycle (s : State) (n : Word16) : SameTimers s (s.chainsCycle n) :=
  of_steered (.of_same (State.chainsCycle_same s n) (by decide)) (Calm.chainsCycle s n).mode

theorem quietHandOver (s : State) (qa qb : Bool) : SameTimers s (s.quietHandOver qa qb) := by
  have hb : ∀ b : BerthIx, (s.quietHandOver qa qb).berths[b] = { s.berths[b] with
      regime := (s.quietHandOver qa qb).berths[b].regime
      settings := (s.quietHandOver qa qb).berths[b].settings } := by
    intro b
    rw [State.quietHandOver_get, State.evaluated_eq]
    split
    · rfl
    · rfl
  exact ⟨fun b => by rw [hb], fun b => by rw [hb], fun b => by rw [hb], (Calm.quietHandOver s qa qb).mode⟩

end SameTimers

/-! ### What governs a berth -/

/-- Every PRESENT berth is governed as R79 says. -/
def Governed (s : State) : Prop :=
  ∀ b : BerthIx, s.berths[b].presence = .present → s.berths[b].governing = s.chooseGoverning b

/-- R79: one channel governs a berth, or none. -/
theorem governs_unique {s : State} {b : BerthIx} {g g' : Option ChannelIx} (h : Governs s b g) (h' : Governs s b g') :
    g = g' := by
  cases g with
  | none =>
    cases g' with
    | none => rfl
    | some a' =>
      obtain ⟨c, hc, -⟩ := h'
      exact absurd hc (h a' c)
  | some a =>
    obtain ⟨c, hc, hmin⟩ := h
    cases g' with
    | none => exact absurd hc (h' a c)
    | some a' =>
      obtain ⟨c', hc', hmin'⟩ := h'
      obtain h1 | ⟨e1, h1⟩ := hmin a' c' hc' <;> obtain h2 | ⟨e2, h2⟩ := hmin' a c hc
      · exact absurd h1 (lt_asymm h2)
      · exact absurd h1 (by rw [e2]; exact lt_irrefl _)
      · exact absurd h2 (by rw [e1]; exact lt_irrefl _)
      · exact congrArg some (le_antisymm h1 h2)

theorem governed_of_law {s : State} (h : GoverningLaw s) : Governed s := fun b hp =>
  governs_unique ((h.2 b).1 hp) (chooseGoverning_governs s b)

/-- Two states of which the channels make the same claims are governed alike. -/
theorem chooseGoverning_congr {s t : State} (h : ∀ (a : ChannelIx) (b : BerthIx), t.channels[a].claim b = s.channels[a].claim b)
    (b : BerthIx) : t.chooseGoverning b = s.chooseGoverning b := by
  have h0 : t.channels[0].claim b = s.channels[0].claim b := h 0 b
  have h1 : t.channels[1].claim b = s.channels[1].claim b := h 1 b
  unfold State.chooseGoverning
  rw [h0, h1]

/-- `t` has the presences of `s`, the same channel governs each PRESENT berth, and the channels have the same classes. -/
structure SameCalls (s t : State) : Prop where
  presence : ∀ b : BerthIx, t.berths[b].presence = s.berths[b].presence
  governing : ∀ b : BerthIx, s.berths[b].presence = .present → t.berths[b].governing = s.berths[b].governing
  cls : ∀ a : ChannelIx, t.channels[a].cls = s.channels[a].cls

namespace SameCalls

theorem refl (s : State) : SameCalls s s := ⟨fun _ => rfl, fun _ _ => rfl, fun _ => rfl⟩

theorem trans {s t u : State} (h : SameCalls s t) (k : SameCalls t u) : SameCalls s u :=
  ⟨fun b => (k.presence b).trans (h.presence b),
    fun b hp => (k.governing b ((h.presence b).trans hp)).trans (h.governing b hp), fun a => (k.cls a).trans (h.cls a)⟩

theorem emergency {s t : State} (h : SameCalls s t) {b : BerthIx} (hp : s.berths[b].presence = .present) :
    UnderEmergency t b ↔ UnderEmergency s b := by
  unfold UnderEmergency
  rw [h.governing b hp]
  simp only [h.cls]

theorem of_same {fs : List StateField} {s t : State} (h : Same fs s t) (hc : StateField.channels ∉ fs)
    (hb : ∀ b : BerthIx, t.berths[b].presence = s.berths[b].presence ∧ t.berths[b].governing = s.berths[b].governing) :
    SameCalls s t :=
  ⟨fun b => (hb b).1, fun b _ => (hb b).2, fun a => by rw [h.channels hc]⟩

theorem presentRings (s : State) (n : Word16) : SameCalls s (s.presentRings n) :=
  of_same (State.presentRings_same s n) (by decide) fun b => by
    rw [(State.presentRings_same s n).berths (by decide)]
    exact ⟨rfl, rfl⟩

theorem quietHandOver (s : State) (qa qb : Bool) : SameCalls s (s.quietHandOver qa qb) :=
  of_same (State.quietHandOver_same s qa qb) (by decide) fun b => by
    rw [State.quietHandOver_get, State.evaluated_eq]
    split
    · exact ⟨rfl, rfl⟩
    · exact ⟨rfl, rfl⟩

theorem idleTick (s : State) : SameCalls s s.idleTick :=
  of_same (State.idleTick_same s) (by decide) fun b => by
    rw [State.idleTick_get]
    split
    · exact ⟨rfl, rfl⟩
    · exact ⟨rfl, rfl⟩

theorem mix (s : State) : SameCalls s s.mix :=
  of_same (State.mix_same s) (by decide) fun b => by
    rw [State.mix_get]
    split
    · exact ⟨rfl, rfl⟩
    · exact ⟨rfl, rfl⟩

theorem chainsCycle (s : State) (n : Word16) : SameCalls s (s.chainsCycle n) :=
  of_same (State.chainsCycle_same s n) (by decide) fun b => by
    rw [(State.chainsCycle_same s n).berths (by decide)]
    exact ⟨rfl, rfl⟩

/-- What changes no channel keeps the governing as R79 says. -/
theorem governed {s t : State} (h : SameCalls s t) (hc : t.channels = s.channels) (hg : Governed s) : Governed t :=
  fun b hp => by
    have hp' : s.berths[b].presence = .present := (h.presence b).symm.trans hp
    rw [h.governing b hp', hg b hp']
    exact (chooseGoverning_congr (fun a b => by rw [hc]) b).symm

/-- R79: governing recomputed under the same claims is the same, where it was as R79 says. -/
theorem recomputed {s t : State} (hg : Governed s) (hb : t.berths = s.berths)
    (hclaim : ∀ (a : ChannelIx) (b : BerthIx), t.channels[a].claim b = s.channels[a].claim b)
    (hcls : ∀ a : ChannelIx, t.channels[a].cls = s.channels[a].cls) :
    SameCalls s t.recomputeGoverning ∧ Governed t.recomputeGoverning := by
  have hch : t.recomputeGoverning.channels = t.channels := (State.recomputeGoverning_same t).channels (by decide)
  have hget : ∀ b : BerthIx, t.recomputeGoverning.berths[b] = t.regoverned b s.berths[b] := by
    intro b
    rw [recomputeGoverning_get, hb]
  have hpres : ∀ b : BerthIx, t.recomputeGoverning.berths[b].presence = s.berths[b].presence := by
    intro b
    rw [hget, regoverned_only]
  have hgov : ∀ b : BerthIx, s.berths[b].presence = .present →
      t.recomputeGoverning.berths[b].governing = s.berths[b].governing := by
    intro b hp
    rw [hget, State.regoverned, if_pos hp, hg b hp]
    exact chooseGoverning_congr hclaim b
  refine ⟨⟨hpres, hgov, fun a => by rw [hch]; exact hcls a⟩, fun b hp => ?_⟩
  have hp' : s.berths[b].presence = .present := (hpres b).symm.trans hp
  rw [hgov b hp', hg b hp']
  refine (chooseGoverning_congr (fun a b => ?_) b).symm
  rw [hch]
  exact hclaim a b

end SameCalls

/-- R79: governing is as it says after every recomputation. -/
theorem governed_recompute (s : State) : Governed s.recomputeGoverning := fun b hp => by
  have hch : s.recomputeGoverning.channels = s.channels := (State.recomputeGoverning_same s).channels (by decide)
  have hp' : s.berths[b].presence = .present := by
    rw [recomputeGoverning_get, regoverned_only] at hp
    exact hp
  rw [recomputeGoverning_get, State.regoverned, if_pos hp']
  exact (chooseGoverning_congr (fun a b => by rw [hch]) b).symm

/-- A change of one channel that changes neither its claims nor its class. -/
theorem modChannel_claims {s : State} {a : ChannelIx} {f : Channel → Channel}
    (hc : ∀ b, (f s.channels[a]).claim b = s.channels[a].claim b) (hl : (f s.channels[a]).cls = s.channels[a].cls) :
    (∀ (a' : ChannelIx) (b : BerthIx), (s.modChannel a f).channels[a'].claim b = s.channels[a'].claim b) ∧
    ∀ a' : ChannelIx, (s.modChannel a f).channels[a'].cls = s.channels[a'].cls := by
  refine ⟨fun a' b => ?_, fun a' => ?_⟩
  · rw [State.modChannel_get]
    split
    · next h => rw [h]; exact hc b
    · rfl
  · rw [State.modChannel_get]
    split
    · next h => rw [h]; exact hl
    · rfl

/-- R81: a release leaves what governs, where it is as R79 says. -/
theorem evaluateRelease_calls {s : State} (hg : Governed s) (a : ChannelIx) :
    SameCalls s (s.evaluateRelease a) ∧ Governed (s.evaluateRelease a) := by
  unfold State.evaluateRelease
  split
  · next h =>
    have busy : ∀ (x : ChannelState) (m n : Nat) (p : Presented SpeechBlock), x ≠ .idle → ∀ b,
        ({ s.channels[a] with state := x, lead := m, stall := n, presented := p } : Channel).claim b =
          s.channels[a].claim b := by
      intro x m n p hx b
      unfold Channel.claim Channel.busy
      rw [h.1]
      cases x with
      | idle => exact absurd rfl hx
      | ducking => rfl
      | lead => rfl
      | playing => rfl
    unfold State.enterLead
    split
    · obtain ⟨k1, k2⟩ := modChannel_claims (s := s) (a := a)
        (f := fun ch => { ch with state := .playing, lead := 0, stall := 0, presented := .silence })
        (busy .playing _ _ _ (by decide)) rfl
      exact SameCalls.recomputed hg rfl k1 k2
    · obtain ⟨k1, k2⟩ := modChannel_claims (s := s) (a := a) (f := fun ch => { ch with state := .lead, lead := s.leadOf a })
        (busy .lead _ _ _ (by decide)) rfl
      exact SameCalls.recomputed hg rfl k1 k2
  · exact ⟨.refl s, hg⟩

theorem evaluateReleases_calls {s : State} (hg : Governed s) :
    SameCalls s s.evaluateReleases ∧ Governed s.evaluateReleases := by
  obtain ⟨h1, g1⟩ := evaluateRelease_calls hg 0
  obtain ⟨h2, g2⟩ := evaluateRelease_calls g1 1
  exact ⟨h1.trans h2, g2⟩

theorem governed_enterIdle (s : State) (a : ChannelIx) : Governed (s.enterIdle a) :=
  (evaluateRelease_calls (governed_recompute _) _).2

/-- A change of one channel that changes no claim keeps the governing as R79 says. -/
theorem governed_modChannel {s : State} (hg : Governed s) (a : ChannelIx) {f : Channel → Channel}
    (hc : ∀ b, (f s.channels[a]).claim b = s.channels[a].claim b) (hl : (f s.channels[a]).cls = s.channels[a].cls) :
    Governed (s.modChannel a f) := fun b hp =>
  (hg b hp).trans (chooseGoverning_congr (modChannel_claims hc hl).1 b).symm

theorem governed_presentGap {s : State} (hg : Governed s) (a : ChannelIx) : Governed (s.presentGap a) := by
  unfold State.presentGap
  dsimp only
  split
  · exact governed_enterIdle _ a
  · exact governed_modChannel hg a (fun _ => rfl) rfl

theorem governed_channelCycle {s : State} (hg : Governed s) (a : ChannelIx) (st : ChannelState) :
    Governed (s.channelCycle a st) := by
  cases st with
  | lead =>
    show Governed (s.countLead a)
    unfold State.countLead
    split
    · exact governed_recompute _
    · exact governed_modChannel hg a (fun _ => rfl) rfl
  | playing =>
    show Governed (s.presentSpeech a)
    unfold State.presentSpeech
    dsimp only
    split
    · exact governed_enterIdle s a
    · split
      · exact governed_modChannel hg a (fun _ => rfl) rfl
      · exact governed_presentGap hg a
  | idle => exact hg
  | ducking => exact hg

theorem governed_channelsCycle {s : State} (hg : Governed s) : Governed s.channelsCycle := by
  unfold State.channelsCycle
  split
  · exact governed_channelCycle (governed_channelCycle hg 0 _) 1 _
  · exact hg

/-- R97, R103: the mixer and the releases leave what governs. -/
theorem mixAndRelease_calls {s : State} (hg : Governed s) : SameCalls s s.mixAndRelease := by
  have hm : Governed s.mix := (SameCalls.mix s).governed ((State.mix_same s).channels (by decide)) hg
  unfold State.mixAndRelease
  dsimp only
  split
  · exact (SameCalls.mix s).trans (evaluateReleases_calls hm).1
  · exact SameCalls.mix s

end Sys2Proof.Machine
end

section
/-! PROOF. A cycle start as its blocks make it, in whichever order: `CycleBlocks` of every hand-over place (R34, R41, R51,
R64, R84, R97, R103; log 3). -/

namespace Sys2Proof.Machine

/-! ### Idle timers and quiet regime as changes of look -/

/-- The awake states and idle seconds of `t`. -/
def withTimers (t : State) : BerthIx → Look → Look := fun b l =>
  { l with awake := t.berths[b].awake, idle := t.berths[b].idle }

/-- The regimes and settings of `t`. -/
def withLevels (t : State) : BerthIx → Look → Look := fun b l =>
  { l with regime := t.berths[b].regime, settings := t.berths[b].settings }

/-- No change of look. -/
def sameLook : BerthIx → Look → Look := fun _ l => l

theorem withTimers_settings (t : State) : ∀ b l, (withTimers t b l).settings = l.settings := fun _ _ => rfl

theorem sameLook_settings : ∀ b l, (sameLook b l).settings = l.settings := fun _ _ => rfl

theorem withLevels_congr {s t : State} (h : SameLevels s t) : withLevels s = withLevels t := by
  funext b l
  unfold withLevels
  rw [h.regime, h.settings]

theorem State.eq_guise_sameLook (s : State) : s = s.guise sameLook s :=
  State.eq_guise (.refl _ s) fun _ => rfl

theorem State.idleTick_guise (s : State) : s.idleTick = s.guise (withTimers s.idleTick) s.idleTick := by
  refine State.eq_guise ((State.idleTick_same s).widen (by decide)) fun b => ?_
  unfold withTimers
  rw [State.idleTick_get]
  split
  · rfl
  · rfl

theorem State.quietHandOver_guise (s : State) (qa qb : Bool) :
    s.quietHandOver qa qb = s.guise (withLevels (s.quietHandOver qa qb)) (s.quietHandOver qa qb) := by
  refine State.eq_guise ((State.quietHandOver_same s qa qb).widen (by decide)) fun b => ?_
  unfold withLevels
  rw [State.quietHandOver_get, State.evaluated_eq]
  split
  · rfl
  · rfl

/-- R34, R84: wherever the tick comes, it changes the timers of what the channels leave. -/
theorem State.tickAndChannels_guise (s : State) (tick first : Bool) :
    ∃ x, s.tickAndChannels tick first = s.channelsCycle.guise (withTimers x) x := by
  unfold State.tickAndChannels
  split
  · split
    · refine ⟨s.idleTick, ?_⟩
      rw [← State.guise_channelsCycle, ← State.idleTick_guise]
    · exact ⟨_, State.idleTick_guise _⟩
  · refine ⟨s.channelsCycle, ?_⟩
    exact State.eq_guise (.refl _ _) fun _ => rfl

/-! ### The blocks in their order -/

/-- What rings, channels, mixer and releases make of an opened cycle start (R64, R84, R97, R103). -/
def State.blocks (s : State) (n : Word16) : State := ((s.presentRings n).channelsCycle).mixAndRelease

/-- The blocks of the model are those of the statements. -/
theorem blocksDone_blocks (u : State) (n : Word16) : BlocksDone u (u.blocks n) n := by
  have hm : (u.presentRings n).channelsCycle.mix.serving = u.serving := by
    unfold State.serving
    rw [(State.mix_same _).mgmt (by decide), (Calm.channelsCycle _).mode]
    rfl
  have hch : (u.presentRings n).channelsCycle = if u.mgmt.mode = .service then
      ((u.presentRings n).channelCycle 0 (u.presentRings n).channels[0].state).channelCycle 1
        (u.presentRings n).channels[1].state else u.presentRings n := by
    unfold State.channelsCycle
    exact if_congr (State.serving_iff _) rfl rfl
  unfold BlocksDone State.blocks State.mixAndRelease
  dsimp only
  rw [hm, ← hch]
  exact if_congr (State.serving_iff u) rfl rfl

theorem State.guise_blocks (s : State) (f : BerthIx → Look → Look) (o : State) (n : Word16)
    (h : ∀ b l, (f b l).settings = l.settings) : (s.guise f o).blocks n = (s.blocks n).guise f o := by
  unfold State.blocks
  rw [State.guise_presentRings, State.guise_channelsCycle, State.guise_mixAndRelease _ f o h]

/-- The work of a cycle start with the hand-over before all readers of the settings. -/
theorem cycleWork_zero (z : State) (n : Word16) (tick qa qb first : Bool) : z.cycleWork n tick qa qb 0 first =
    ((((z.quietHandOver qa qb).presentRings n).tickAndChannels tick first).mixAndRelease).chainsCycle n := by
  simp [State.cycleWork]

/-- … with the hand-over after the tick and before the mixer. -/
theorem cycleWork_one (z : State) (n : Word16) (tick qa qb first : Bool) : z.cycleWork n tick qa qb 1 first =
    ((((z.presentRings n).tickAndChannels tick first).quietHandOver qa qb).mixAndRelease).chainsCycle n := by
  simp [State.cycleWork]

/-- … with the hand-over after the mixer and before the tick. -/
theorem cycleWork_two (z : State) (n : Word16) (tick qa qb first : Bool) : z.cycleWork n tick qa qb 2 first =
    (if tick then ((z.blocks n).quietHandOver qa qb).idleTick else (z.blocks n).quietHandOver qa qb).chainsCycle n := by
  simp [State.cycleWork, State.tickAndChannels, State.blocks]

/-- … with the hand-over after both and before the frames. -/
theorem cycleWork_three (z : State) (n : Word16) (tick qa qb first : Bool) : z.cycleWork n tick qa qb 3 first =
    ((((z.presentRings n).tickAndChannels tick first).mixAndRelease).quietHandOver qa qb).chainsCycle n := by
  simp [State.cycleWork]

/-- … with the hand-over after the frames. -/
theorem cycleWork_four (z : State) (n : Word16) (tick qa qb first : Bool) : z.cycleWork n tick qa qb 4 first =
    ((((z.presentRings n).tickAndChannels tick first).mixAndRelease).chainsCycle n).quietHandOver qa qb := by
  simp [State.cycleWork]

/-- The look that the blocks find when the hand-over is at `place` and the cycle start ends in `t` (R51). -/
def levelsAt (t : State) (place : Fin 5) : BerthIx → Look → Look := if place < 2 then withLevels t else sameLook

/-- A state in another look, with other counts, draws and ports. -/
def Guised (s y : State) : Prop := ∃ g p, y = s.guise g p

theorem Guised.trans {x y z : State} (h : Guised x y) (k : Guised y z) : Guised x z := by
  obtain ⟨f, o, rfl⟩ := h
  obtain ⟨g, p, rfl⟩ := k
  exact ⟨_, p, State.guise_guise _ _ _ _ _⟩

theorem Guised.quietHandOver (s : State) (qa qb : Bool) : Guised s (s.quietHandOver qa qb) :=
  ⟨_, _, State.quietHandOver_guise s qa qb⟩

theorem Guised.idleTick (s : State) : Guised s s.idleTick := ⟨_, _, State.idleTick_guise s⟩

/-- A cycle start `t` is what the blocks leave, in another look, with other counts, draws and ports, and with the frames
sent. -/
def MadeBy (v t : State) : Prop :=
  ∃ y, Guised v y ∧ Same [.store, .chains, .berths, .counts] y t ∧
    (∀ c : ChainIx, Chain.Calm y.chains[c] t.chains[c]) ∧ ∀ b : BerthIx, t.berths[b] = y.berths[b].wear t.berths[b].look

/-- The frames are sent after the blocks. -/
theorem madeBy_frames {v y : State} (h : Guised v y) (n : Word16) : MadeBy v (y.chainsCycle n) := by
  refine ⟨y, h, (State.chainsCycle_same y n).widen (by decide), (Calm.chainsCycle y n).chains, fun b => ?_⟩
  rw [(State.chainsCycle_same y n).berths (by decide)]
  rfl

/-- The hand-over may come after the frames. -/
theorem madeBy_quietHandOver {v t : State} (h : MadeBy v t) (qa qb : Bool) : MadeBy v (t.quietHandOver qa qb) := by
  obtain ⟨y, hy, hs, hc, hb⟩ := h
  have hq := State.quietHandOver_same t qa qb
  refine ⟨y, hy, hs.trans (hq.widen (by decide)), fun c => ?_, fun b => ?_⟩
  · rw [hq.chains (by decide)]
    exact hc c
  · rw [State.quietHandOver_get, State.evaluated_eq, hb b]
    split
    · rfl
    · rfl

/-- The blocks on a state in another look are the blocks on that state, in another look, where the settings are the
same. -/
theorem guised_blocks {s u : State} {g : BerthIx → Look → Look} {p : State} (h : u = s.guise g p)
    (hg : ∀ b l, (g b l).settings = l.settings) (n : Word16) : Guised (s.blocks n) (u.blocks n) :=
  ⟨g, p, by rw [h, State.guise_blocks _ _ _ _ hg]⟩

/-- Tick and mixer, the tick before the mixer. -/
theorem guised_tick (s : State) (n : Word16) (tick first : Bool) :
    Guised (s.blocks n) (((s.presentRings n).tickAndChannels tick first).mixAndRelease) := by
  obtain ⟨x, hx⟩ := (s.presentRings n).tickAndChannels_guise tick first
  refine ⟨withTimers x, x, ?_⟩
  rw [hx, State.guise_mixAndRelease _ _ _ (withTimers_settings x)]
  rfl

/-- A hand-over after a tick is a tick after the hand-over. -/
theorem quietHandOver_withTimers {c x y : State} (h : y = c.guise (withTimers x) x) (qa qb : Bool) :
    y.quietHandOver qa qb =
      (c.guise (withLevels (y.quietHandOver qa qb)) x).guise (withTimers x) (y.quietHandOver qa qb) :=
  calc y.quietHandOver qa qb = y.guise (withLevels (y.quietHandOver qa qb)) (y.quietHandOver qa qb) :=
        State.quietHandOver_guise y qa qb
    _ = (c.guise (withTimers x) x).guise (withLevels (y.quietHandOver qa qb)) (y.quietHandOver qa qb) := by rw [← h]
    _ = c.guise (fun b l => withTimers x b (withLevels (y.quietHandOver qa qb) b l)) (y.quietHandOver qa qb) :=
        State.guise_guise _ _ _ _ _
    _ = _ := (State.guise_guise _ _ _ _ _).symm

/-- The levels that a hand-over before the mixer brings. -/
theorem madeBy_early {z y t : State} {p : State} (o : State) (n : Word16)
    (h : Guised ((z.guise (withLevels t) p).blocks n) y) (ht : t = y.chainsCycle n) :
    MadeBy ((z.guise (withLevels t) o).blocks n) t := by
  have e : z.guise (withLevels t) p = (z.guise (withLevels t) o).guise sameLook p :=
    (State.guise_guise z (withLevels t) sameLook o p).symm
  have hm := madeBy_frames ((guised_blocks e sameLook_settings n).trans h) n
  rwa [← ht] at hm

theorem cycleWork_madeBy_zero (z : State) (n : Word16) (tick qa qb first : Bool) (o : State) :
    MadeBy ((z.guise (withLevels (z.cycleWork n tick qa qb 0 first)) o).blocks n) (z.cycleWork n tick qa qb 0 first) := by
  have hl : SameLevels (z.quietHandOver qa qb) (z.cycleWork n tick qa qb 0 first) := by
    rw [cycleWork_zero]
    exact (((SameLevels.presentRings _ n).trans (.tickAndChannels _ tick first)).trans (.mixAndRelease _)).trans
      (.chainsCycle _ n)
  refine madeBy_early (p := z.quietHandOver qa qb) o n ?_ (cycleWork_zero z n tick qa qb first)
  rw [← withLevels_congr hl, ← State.quietHandOver_guise]
  exact guised_tick _ n tick first

theorem cycleWork_madeBy_one (z : State) (n : Word16) (tick qa qb first : Bool) (o : State) :
    MadeBy ((z.guise (withLevels (z.cycleWork n tick qa qb 1 first)) o).blocks n) (z.cycleWork n tick qa qb 1 first) := by
  obtain ⟨x, hx⟩ := (z.presentRings n).tickAndChannels_guise tick first
  have hl : SameLevels (((z.presentRings n).tickAndChannels tick first).quietHandOver qa qb)
      (z.cycleWork n tick qa qb 1 first) := by
    rw [cycleWork_one]
    exact (SameLevels.mixAndRelease _).trans (.chainsCycle _ n)
  refine madeBy_early (p := x) o n ⟨withTimers x, ((z.presentRings n).tickAndChannels tick first).quietHandOver qa qb, ?_⟩
    (cycleWork_one z n tick qa qb first)
  rw [← withLevels_congr hl]
  unfold State.blocks
  rw [State.guise_presentRings, State.guise_channelsCycle, ← State.guise_mixAndRelease _ _ _ (withTimers_settings x),
    ← quietHandOver_withTimers hx]

/-- R41, R64, R84, R97, R103: wherever the hand-over comes, the cycle start ends in what the blocks make of the levels that
they find. -/
theorem cycleWork_madeBy (z : State) (n : Word16) (tick qa qb first : Bool) (place : Fin 5) (o : State) :
    MadeBy ((z.guise (levelsAt (z.cycleWork n tick qa qb place first) place) o).blocks n)
      (z.cycleWork n tick qa qb place first) := by
  have places : ∀ p : Fin 5, p = 0 ∨ p = 1 ∨ p = 2 ∨ p = 3 ∨ p = 4 := by decide
  have late : Guised ((z.guise sameLook o).blocks n) (z.blocks n) :=
    guised_blocks (g := sameLook) (p := z) (by rw [State.guise_guise]; exact z.eq_guise_sameLook) sameLook_settings n
  obtain rfl | rfl | rfl | rfl | rfl := places place
  · exact cycleWork_madeBy_zero z n tick qa qb first o
  · exact cycleWork_madeBy_one z n tick qa qb first o
  · rw [cycleWork_two]
    have hq := late.trans (.quietHandOver _ qa qb)
    split
    · exact madeBy_frames (hq.trans (.idleTick _)) n
    · exact madeBy_frames hq n
  · rw [cycleWork_three]
    exact madeBy_frames ((late.trans (guised_tick z n tick first)).trans (.quietHandOver _ qa qb)) n
  · rw [cycleWork_four]
    exact madeBy_quietHandOver (madeBy_frames (late.trans (guised_tick z n tick first)) n) qa qb

end Sys2Proof.Machine
end

section
/-! PROOF. Levels, idle timers and sensor at a cycle start, whatever the order of the blocks, and `CycleBlocks` of every
cycle start (R8, R10, R13, R34, R40 to R45, R51, R53; log 3). -/

namespace Sys2Proof.Machine

/-! ### The hand-over of quiet levels -/

/-- R41: a cycle start hands quiet levels over once, and keeps regimes and settings elsewhere. -/
theorem cycleWork_handOver (z : State) (n : Word16) (tick qa qb first : Bool) (place : Fin 5) :
    ∃ x, SameLevels z x ∧ SameLevels (x.quietHandOver qa qb) (z.cycleWork n tick qa qb place first) := by
  have places : ∀ p : Fin 5, p = 0 ∨ p = 1 ∨ p = 2 ∨ p = 3 ∨ p = 4 := by decide
  have ticked : SameLevels z ((z.presentRings n).tickAndChannels tick first) :=
    (SameLevels.presentRings z n).trans (.tickAndChannels _ tick first)
  have mixed := ticked.trans (.mixAndRelease _)
  obtain rfl | rfl | rfl | rfl | rfl := places place
  · rw [cycleWork_zero]
    exact ⟨z, .refl z, (((SameLevels.presentRings _ n).trans (.tickAndChannels _ tick first)).trans
      (.mixAndRelease _)).trans (.chainsCycle _ n)⟩
  · rw [cycleWork_one]
    exact ⟨_, ticked, (SameLevels.mixAndRelease _).trans (.chainsCycle _ n)⟩
  · rw [cycleWork_two]
    refine ⟨z.blocks n, ((SameLevels.presentRings z n).trans (.channelsCycle _)).trans (.mixAndRelease _), ?_⟩
    split
    · exact (SameLevels.idleTick _).trans (.chainsCycle _ n)
    · exact .chainsCycle _ n
  · rw [cycleWork_three]
    exact ⟨_, mixed, .chainsCycle _ n⟩
  · rw [cycleWork_four]
    exact ⟨_, mixed.trans (.chainsCycle _ n), .refl _⟩

/-- R41, R43, R45, R53: what a hand-over leaves, over the levels that stood before. -/
theorem levelsTaken_of {s x t : State} (hc : ∀ b : BerthIx, x.berths[b].config = s.berths[b].config)
    (hr : ∀ b : BerthIx, x.berths[b].regime = s.berths[b].regime)
    (hset : ∀ b : BerthIx, x.berths[b].settings = s.berths[b].settings) (hp : x.profiles = s.profiles)
    (h1 : x.counts.qaChanges = s.counts.qaChanges) (h2 : x.counts.qbChanges = s.counts.qbChanges)
    (h3 : x.counts.regimeChanges = s.counts.regimeChanges)
    (ht : SameLevels (x.quietHandOver s.effectiveQA s.effectiveQB) t) : LevelsTaken s t := by
  obtain ⟨eqa, eqb⟩ := State.quietHandOver_levels x s.effectiveQA s.effectiveQB
  have hqa : t.effectiveQA = x.effectiveQA := ht.effective.1.trans eqa
  have hqb : t.effectiveQB = x.effectiveQB := ht.effective.2.trans eqb
  have hget := State.quietHandOver_get x s.effectiveQA s.effectiveQB
  have hcounts := State.quietHandOver_counts x s.effectiveQA s.effectiveQB
  refine ⟨fun ⟨k1, k2⟩ b => ?_, fun hne b => ?_, ?_, ?_, ?_⟩
  · rw [hqa] at k1
    rw [hqb] at k2
    rw [ht.regime, ht.settings, hget, if_pos ⟨k1, k2⟩]
    exact ⟨hr b, hset b⟩
  · rw [hqa, hqb] at hne ⊢
    have e : (x.quietHandOver s.effectiveQA s.effectiveQB).berths[b] = x.evaluated x.berths[b] :=
      (hget b).trans (if_neg fun ⟨k1, k2⟩ => hne.elim (fun k => k k1) fun k => k k2)
    have hform : t.berths[b].regime = x.formedRegime x.berths[b] := by
      rw [ht.regime, e, State.evaluated_regime]
    refine ⟨?_, ?_⟩
    · rw [hform, ← hc b]
      exact formRegime_night _ _ _
    · rw [ht.settings, e, hform, State.evaluated_eq]
      simp only [hc, hr, hset, hp]
  · rw [ht.counts, hcounts]
    unfold regimesCounted
    dsimp only
    rw [hqa, h1]
  · rw [ht.counts, hcounts]
    unfold regimesCounted
    dsimp only
    rw [hqb, h2]
  · rw [ht.counts, hcounts]
    unfold regimesCounted
    simp only [ht.regime, hr, h3]

/-! ### The tick of the idle timers -/

/-- The idle timers act once from `s` to `t`, where `tick` is set, and find the timers in `x`; what governs a berth there
is, where they act before the channels, as in `s`, and else as in `t`. -/
structure TickAt (s t : State) (tick before : Bool) (x : State) : Prop where
  timers : SameTimers s x
  after : SameTimers (if tick then x.idleTick else x) t
  early : before = true → SameCalls s x
  late : before = false → Governed s → SameCalls x t

/-- What comes before the tick. -/
theorem TickAt.prepend {r s t x : State} {tick before : Bool} (h : TickAt s t tick before x) (ht : SameTimers r s)
    (hc : SameCalls r s) (hch : s.channels = r.channels) : TickAt r t tick before x :=
  ⟨ht.trans h.timers, h.after, fun hb => hc.trans (h.early hb), fun hb hg => h.late hb (hc.governed hch hg)⟩

/-- What comes after the tick. -/
theorem TickAt.append {s t u x : State} {tick before : Bool} (h : TickAt s t tick before x) (ht : SameTimers t u)
    (hc : Governed s → SameCalls t u) : TickAt s u tick before x :=
  ⟨h.timers, h.after.trans ht, h.early, fun hb hg => (h.late hb hg).trans (hc hg)⟩

theorem SameCalls.tick (s : State) (tick : Bool) : SameCalls s (if tick then s.idleTick else s) := by
  split
  · exact .idleTick s
  · exact .refl s

theorem governed_tick {s : State} (hg : Governed s) (tick : Bool) : Governed (if tick then s.idleTick else s) := by
  split
  · exact (SameCalls.idleTick s).governed ((State.idleTick_same s).channels (by decide)) hg
  · exact hg

/-- R34, R84: tick and channels, in either order. -/
theorem tickAndChannels_tickAt (s : State) (tick first : Bool) :
    ∃ x before, TickAt s (s.tickAndChannels tick first) tick before x ∧ SameLevels s x := by
  cases first with
  | true =>
    have e : s.tickAndChannels tick true = (if tick then s.idleTick else s).channelsCycle := by
      cases tick <;> rfl
    rw [e]
    exact ⟨s, true, ⟨.refl s, .channelsCycle _, fun _ => .refl s, fun h => (by cases h)⟩, .refl s⟩
  | false =>
    have e : s.tickAndChannels tick false = if tick then s.channelsCycle.idleTick else s.channelsCycle := by
      cases tick <;> rfl
    rw [e]
    exact ⟨s.channelsCycle, false, ⟨.channelsCycle s, .refl _, fun h => (by cases h), fun _ _ => .tick _ tick⟩,
      .channelsCycle s⟩

theorem governed_presentRings {s : State} (hg : Governed s) (n : Word16) : Governed (s.presentRings n) :=
  (SameCalls.presentRings s n).governed ((State.presentRings_same s n).channels (by decide)) hg

theorem governed_quietHandOver {s : State} (hg : Governed s) (qa qb : Bool) : Governed (s.quietHandOver qa qb) :=
  (SameCalls.quietHandOver s qa qb).governed ((State.quietHandOver_same s qa qb).channels (by decide)) hg

theorem governed_tickAndChannels {s : State} (hg : Governed s) (tick first : Bool) :
    Governed (s.tickAndChannels tick first) := by
  cases first with
  | true =>
    have e : s.tickAndChannels tick true = (if tick then s.idleTick else s).channelsCycle := by
      cases tick <;> rfl
    exact e ▸ governed_channelsCycle (governed_tick hg tick)
  | false =>
    have e : s.tickAndChannels tick false = if tick then s.channelsCycle.idleTick else s.channelsCycle := by
      cases tick <;> rfl
    exact e ▸ governed_tick (governed_channelsCycle hg) tick

/-- R34, R51: the tick of a cycle start, wherever the hand-over comes; it reads the settings from after a hand-over that
comes before it. -/
theorem cycleWork_tickAt (z : State) (n : Word16) (tick qa qb first : Bool) (place : Fin 5) :
    ∃ x before, TickAt z (z.cycleWork n tick qa qb place first) tick before x ∧ (place = 2 → before = false) ∧
      ∀ b : BerthIx, x.berths[b].settings =
        if place = 0 ∨ place = 2 then (z.cycleWork n tick qa qb place first).berths[b].settings
        else z.berths[b].settings := by
  have places : ∀ p : Fin 5, p = 0 ∨ p = 1 ∨ p = 2 ∨ p = 3 ∨ p = 4 := by decide
  have ring : ∀ s : State, (s.presentRings n).channels = s.channels := fun s =>
    (State.presentRings_same s n).channels (by decide)
  have quiet : ∀ s : State, (s.quietHandOver qa qb).channels = s.channels := fun s =>
    (State.quietHandOver_same s qa qb).channels (by decide)
  have gov : ∀ s : State, Governed s → Governed ((s.presentRings n).tickAndChannels tick first) := fun s hg =>
    governed_tickAndChannels (governed_presentRings hg n) tick first
  obtain rfl | rfl | rfl | rfl | rfl := places place
  · rw [cycleWork_zero]
    obtain ⟨x, before, h, hl⟩ := tickAndChannels_tickAt ((z.quietHandOver qa qb).presentRings n) tick first
    refine ⟨x, before, ((((h.prepend (.presentRings _ n) (.presentRings _ n) (ring _)).append (.mixAndRelease _)
      fun hg => mixAndRelease_calls (gov _ hg)).append (.chainsCycle _ n) fun _ => .chainsCycle _ n).prepend
      (.quietHandOver z qa qb) (.quietHandOver z qa qb) (quiet z)), fun h => absurd h (by decide), fun b => ?_⟩
    rw [if_pos (.inl rfl), hl.settings]
    exact (((SameLevels.tickAndChannels _ tick first).trans (.mixAndRelease _)).trans (.chainsCycle _ n)).settings b |>.symm
  · rw [cycleWork_one]
    obtain ⟨x, before, h, hl⟩ := tickAndChannels_tickAt (z.presentRings n) tick first
    refine ⟨x, before, ((((h.prepend (.presentRings z n) (.presentRings z n) (ring z)).append (.quietHandOver _ qa qb)
      fun _ => .quietHandOver _ qa qb).append (.mixAndRelease _) fun hg =>
        mixAndRelease_calls (governed_quietHandOver (gov z hg) qa qb)).append (.chainsCycle _ n) fun _ => .chainsCycle _ n),
      fun h => absurd h (by decide), fun b => ?_⟩
    rw [if_neg (by decide)]
    exact ((SameLevels.presentRings z n).trans hl).settings b
  · rw [cycleWork_two]
    have blocks : SameTimers z (z.blocks n) :=
      ((SameTimers.presentRings z n).trans (.channelsCycle _)).trans (.mixAndRelease _)
    refine ⟨(z.blocks n).quietHandOver qa qb, false, ⟨blocks.trans (.quietHandOver _ qa qb), .chainsCycle _ n,
      fun h => (by cases h), fun _ _ => (SameCalls.tick _ tick).trans (.chainsCycle _ n)⟩, fun _ => rfl, fun b => ?_⟩
    rw [if_pos (.inr rfl), (SameLevels.chainsCycle _ n).settings]
    split
    · exact ((SameLevels.idleTick _).settings b).symm
    · rfl
  · rw [cycleWork_three]
    obtain ⟨x, before, h, hl⟩ := tickAndChannels_tickAt (z.presentRings n) tick first
    refine ⟨x, before, ((((h.prepend (.presentRings z n) (.presentRings z n) (ring z)).append (.mixAndRelease _)
      fun hg => mixAndRelease_calls (gov z hg)).append (.quietHandOver _ qa qb) fun _ => .quietHandOver _ qa qb).append
      (.chainsCycle _ n) fun _ => .chainsCycle _ n), fun h => absurd h (by decide), fun b => ?_⟩
    rw [if_neg (by decide)]
    exact ((SameLevels.presentRings z n).trans hl).settings b
  · rw [cycleWork_four]
    obtain ⟨x, before, h, hl⟩ := tickAndChannels_tickAt (z.presentRings n) tick first
    refine ⟨x, before, ((((h.prepend (.presentRings z n) (.presentRings z n) (ring z)).append (.mixAndRelease _)
      fun hg => mixAndRelease_calls (gov z hg)).append (.chainsCycle _ n) fun _ => .chainsCycle _ n).append
      (.quietHandOver _ qa qb) fun _ => .quietHandOver _ qa qb), fun h => absurd h (by decide), fun b => ?_⟩
    rw [if_neg (by decide)]
    exact ((SameLevels.presentRings z n).trans hl).settings b

/-- R34: the next timers depend on the awake state and the idle seconds alone. -/
theorem idleNext_congr {r r' : Berth} (ha : r'.awake = r.awake) (hi : r'.idle = r.idle) (x : Settings) :
    idleNext r' x = idleNext r x := by
  unfold idleNext
  rw [ha, hi]

/-- R8, R34: the idle timers of a cycle start. -/
theorem idleTimers_of {s t x : State} {before : Bool} {place : Fin 5}
    (h : TickAt s t (tickDue s.timer.divider) before x) (h2 : place = 2 → before = false)
    (hset : ∀ b : BerthIx, x.berths[b].settings =
      if place = 0 ∨ place = 2 then t.berths[b].settings else s.berths[b].settings) : IdleTimers s t place := by
  refine ⟨fun hno b => ?_, fun hdue hm hlaw => ⟨before, h2, fun b => ?_⟩⟩
  · have stays : SameTimers x t := by
      refine SameTimers.trans ?_ h.after
      split
      · next ht =>
        have hx : x.mgmt.mode ≠ .service := by
          rw [h.timers.mode]
          refine hno.resolve_left fun hd => ?_
          unfold tickDue at ht
          rw [decide_eq_true_eq] at ht
          omega
        have e : x.idleTick = x := if_neg (mt (State.serving_iff x).1 hx)
        rw [e]
        exact .refl x
      · exact .refl x
    exact ⟨(stays.awake b).trans (h.timers.awake b), (stays.idle b).trans (h.timers.idle b)⟩
  · have ht : tickDue s.timer.divider = true := decide_eq_true hdue
    have hafter := h.after
    rw [ht, if_pos rfl] at hafter
    have hx : x.mgmt.mode = .service := h.timers.mode.trans hm
    have hp := h.timers.presence b
    have ha := h.timers.awake b
    have hi := h.timers.idle b
    have hcall : s.berths[b].presence = .present →
        (UnderEmergency x b ↔ UnderEmergency (if before then s else t) b) := by
      intro hpres
      cases hb : before with
      | true => exact (h.early hb).emergency hpres
      | false => exact ((h.late hb (governed_of_law hlaw)).emergency (hp.trans hpres)).symm
    have hruns : x.idleRuns x.berths[b] = true ↔ s.berths[b].presence = .present ∧ s.berths[b].awake ≠ .asleep ∧
        ¬ UnderEmergency (if before then s else t) b := by
      rw [State.idleRuns_iff, hp, ha]
      exact and_congr_right fun hpres => and_congr_right fun _ => not_congr (hcall hpres)
    have hget := State.idleTick_get x b
    refine ⟨fun hr => ?_, fun hr => ?_⟩
    · rw [if_pos ⟨hx, hruns.2 hr⟩] at hget
      rw [hafter.awake, hafter.idle, hget, hset b]
      exact idleNext_congr ha hi _
    · rw [if_neg fun k => hr (hruns.1 k.2)] at hget
      rw [hafter.awake, hafter.idle, hget]
      exact ⟨ha, hi⟩

end Sys2Proof.Machine
end

section
/-! PROOF. `CycleBlocks` of every cycle start (R8, R10, R13, R34, R40 to R45, R64, R84, R97, R103; log 3). -/

namespace Sys2Proof.Machine

/-! ### A cycle start opened -/

/-- The state `z` in which the blocks find the start of cycle `n` from `s`: the timer and the fault monitor have acted,
the pins show the lines and the sensor, and a number that is not the successor has emptied the rings. -/
structure Opens (s z : State) (lines : LineSample) (n : Word16) : Prop where
  same : Same [.timer, .pins, .faults, .counts, .rings, .draws, .up, .thru] s z
  pins : z.pins = { s.pins with qa := lines.qa, qb := lines.qb, sensor := lines.sensor }
  rings : z.rings = if n = s.timer.cycle + 1 then s.rings else Vector.replicate 16 .empty
  sensor : SensorRead s z lines.sensor
  levels : z.counts.qaChanges = s.counts.qaChanges ∧ z.counts.qbChanges = s.counts.qbChanges ∧
    z.counts.regimeChanges = s.counts.regimeChanges
  video : z.counts.noDemand = s.counts.noDemand ∧ z.counts.unplaced = s.counts.unplaced ∧
    z.counts.storeFull = s.counts.storeFull

/-- R10, R11, R13: what the fault monitor and the OVERHEAT count are is all that the sensor read speaks of. -/
theorem SensorRead.congr {s z t : State} {v : Int} (h : SensorRead s z v) (hf : t.faults = z.faults)
    (hc : t.counts.overheatRaises = z.counts.overheatRaises) : SensorRead s t v := by
  unfold SensorRead overheatCount at *
  rw [hf, hc]
  exact h

/-- The opened state of the statements is the model's, in the levels that the blocks find. -/
theorem opened_eq_guise {s z t : State} {lines : LineSample} {n : Word16} (h : Opens s z lines n) (place : Fin 5)
    (ht : t.timer = z.timer) (hp : t.pins = z.pins) (hf : t.faults = z.faults) :
    s.opened t n place = z.guise (levelsAt t place) { s with counts := t.counts } := by
  have hb : ∀ b : BerthIx, (s.opened t n place).berths[b] = s.berths[b].wear (levelsAt t place b s.berths[b].look) := by
    intro b
    unfold State.opened levelsAt
    dsimp only
    split
    · exact get_ofFn_fin _ b
    · rfl
  refine State.ext_berths (fun b => ?_) ?_
  · rw [hb, State.guise_get, h.same.berths (by decide)]
  · have hr := h.rings
    obtain ⟨-, h2, -, -, h5, -, h7, h8, h9, h10, h11, -, h13, h14, h15, h16, h17, h18, -, -, -, h22⟩ := h.same
    unfold State.opened State.guise
    cases s
    cases z
    simp_all

/-- R41, R53, R126: a cycle start's work counts what its one hand-over counts. -/
theorem cycleWork_counts (z : State) (n : Word16) (tick qa qb first : Bool) (place : Fin 5) :
    (z.cycleWork n tick qa qb place first).counts = { z.counts with
      qaChanges := (z.cycleWork n tick qa qb place first).counts.qaChanges
      qbChanges := (z.cycleWork n tick qa qb place first).counts.qbChanges
      regimeChanges := (z.cycleWork n tick qa qb place first).counts.regimeChanges } := by
  obtain ⟨x, hx, ht⟩ := cycleWork_handOver z n tick qa qb first place
  rw [ht.counts, State.quietHandOver_counts, hx.counts]

/-- R34, R41, R64, R84, R97, R103: the work of a cycle start, with the hand-over at any place and tick and channels in
either order. -/
theorem cycleBlocks_of_opens {s z : State} {lines : LineSample} {n : Word16} (h : Opens s z lines n) (place : Fin 5)
    (first : Bool) : CycleBlocks s
      (z.cycleWork n (tickDue s.timer.divider) s.effectiveQA s.effectiveQB place first) lines n place := by
  have hw := State.cycleWork_same z n (tickDue s.timer.divider) s.effectiveQA s.effectiveQB place first
  have hc := cycleWork_counts z n (tickDue s.timer.divider) s.effectiveQA s.effectiveQB first place
  obtain ⟨x, hx, hlev⟩ := cycleWork_handOver z n (tickDue s.timer.divider) s.effectiveQA s.effectiveQB first place
  obtain ⟨y, before, htick, h2, hset⟩ :=
    cycleWork_tickAt z n (tickDue s.timer.divider) s.effectiveQA s.effectiveQB first place
  have hmade := cycleWork_madeBy z n (tickDue s.timer.divider) s.effectiveQA s.effectiveQB first place
  generalize z.cycleWork n (tickDue s.timer.divider) s.effectiveQA s.effectiveQB place first = t at *
  have hzb : z.berths = s.berths := h.same.berths (by decide)
  have hcfg : ∀ b : BerthIx, z.berths[b] = s.berths[b] := fun b => by rw [hzb]
  obtain ⟨l1, l2, l3⟩ := h.levels
  obtain ⟨v1, v2, v3⟩ := h.video
  have hv := blocksDone_blocks (s.opened t n place) n
  rw [opened_eq_guise h place (hw.timer (by decide)) (hw.pins (by decide)) (hw.faults (by decide))] at hv
  obtain ⟨u, ⟨g, p, rfl⟩, hs, hch, hb⟩ := hmade { s with counts := t.counts }
  refine ⟨(hw.calls (by decide)).trans (h.same.calls (by decide)), (hw.pins (by decide)).trans h.pins,
    h.sensor.congr (hw.faults (by decide)) (by rw [hc]), ?_, ?_, by rw [hc]; exact v1, by rw [hc]; exact v2,
    by rw [hc]; exact v3, ?_⟩
  · exact levelsTaken_of (fun b => by rw [hx.config, hcfg]) (fun b => by rw [hx.regime, hcfg])
      (fun b => by rw [hx.settings, hcfg]) (hx.profiles.trans (h.same.profiles (by decide)))
      (by rw [hx.counts, l1]) (by rw [hx.counts, l2]) (by rw [hx.counts, l3]) hlev
  · have hmode : z.mgmt.mode = s.mgmt.mode := congrArg Management.mode (h.same.mgmt (by decide))
    have timers : SameTimers s z := .of_steered (.of_same h.same (by decide)) hmode
    have calls : SameCalls s z := .of_same h.same (by decide) fun b => by rw [hcfg]; exact ⟨rfl, rfl⟩
    exact idleTimers_of (htick.prepend timers calls (h.same.channels (by decide))) h2 fun b => by
      rw [hset, hcfg]
  · rw [opened_eq_guise h place (hw.timer (by decide)) (hw.pins (by decide)) (hw.faults (by decide))]
    refine ⟨_, hv, hs.streams (by decide), hs.rings (by decide), hs.slots (by decide), hs.channels (by decide),
      hs.mgmt (by decide), fun c => (hch c).mixClips, fun b => ?_⟩
    refine (hb b).trans ?_
    rw [State.guise_get]
    rfl

/-! ### Every cycle start -/

/-- What may come before a cycle start in the same event: time up to it, the missed mark or the mark that is taken, and
the ports' own work. Sampler, divider and cycle number, the OVERHEAT condition and what the blocks count are untouched. -/
structure Precedes (s w : State) : Prop where
  same : Same [.timer, .faults, .counts, .up, .thru] s w
  timer : w.timer.cycle = s.timer.cycle ∧ w.timer.divider = s.timer.divider ∧ w.timer.qa = s.timer.qa ∧
    w.timer.qb = s.timer.qb
  heat : w.faults.temperature = s.faults.temperature ∧ w.faults.overheat = s.faults.overheat ∧
    w.faults.flags.overheat = s.faults.flags.overheat ∧ w.counts.overheatRaises = s.counts.overheatRaises
  levels : w.counts.qaChanges = s.counts.qaChanges ∧ w.counts.qbChanges = s.counts.qbChanges ∧
    w.counts.regimeChanges = s.counts.regimeChanges
  video : w.counts.noDemand = s.counts.noDemand ∧ w.counts.unplaced = s.counts.unplaced ∧
    w.counts.storeFull = s.counts.storeFull

/-- R40: the effective levels before the cycle start. -/
theorem Precedes.effective {s w : State} (h : Precedes s w) :
    w.effectiveQA = s.effectiveQA ∧ w.effectiveQB = s.effectiveQB := by
  obtain ⟨-, -, hqa, hqb⟩ := h.timer
  unfold State.effectiveQA State.effectiveQB
  rw [h.same.mgmt (by decide), hqa, hqb]
  exact ⟨rfl, rfl⟩

/-- R10, R13: the sensor read depends on the divider, the OVERHEAT condition and the threshold alone. -/
theorem Precedes.sensor {s w z : State} (h : Precedes s w) {v : Int} (hz : SensorRead w z v) : SensorRead s z v := by
  obtain ⟨-, hd, -, -⟩ := h.timer
  obtain ⟨h1, h2, h3, h4⟩ := h.heat
  unfold SensorRead overheatCount at *
  rw [hd, h1, h2, h3, h4, h.same.mgmt (by decide)] at hz
  exact hz

/-- The cycle start of `w` as far as the blocks find it done: the model's own, up to its work (`runCycle_eq`). -/
def State.cycleOpened (w : State) (n : Word16) (broken : Bool) (lines : LineSample) : State :=
  let s1 := w.openCycle n lines
  let s2 := if w.acceptsLevel lines || tickDue w.timer.divider then { s1 with draws := s1.draws + 1 } else s1
  let s3 := if tickDue w.timer.divider then s2.readTemperature lines.sensor else s2
  if broken then s3.emptyRings else s3

theorem State.runCycle_eq (w : State) (n : Word16) (broken : Bool) (lines : LineSample) :
    w.runCycle n broken lines = (w.cycleOpened n broken lines).cycleWork n (tickDue w.timer.divider) w.effectiveQA
      w.effectiveQB (if w.acceptsLevel lines then Config.handoverPlace w.draws else 0)
      (if tickDue w.timer.divider then Config.tickBeforeChannels w.draws else true) := rfl

/-- An opened cycle start is the timer's and the pins' change, what a sensor read makes of the fault monitor, and the
emptied rings. -/
theorem State.cycleOpened_fields (w : State) (n : Word16) (broken : Bool) (lines : LineSample) :
    let z := w.cycleOpened n broken lines
    Same [.timer, .pins, .faults, .counts, .rings, .draws] w z ∧
    z.pins = { w.pins with qa := lines.qa, qb := lines.qb, sensor := lines.sensor } ∧
    z.rings = (if broken then Vector.replicate 16 Ring.empty else w.rings) ∧
    z.faults = (if tickDue w.timer.divider then (w.readTemperature lines.sensor).faults else w.faults) ∧
    z.counts = (if tickDue w.timer.divider then (w.readTemperature lines.sensor).counts else w.counts) := by
  unfold State.cycleOpened
  dsimp only
  generalize hs2 : (if (w.acceptsLevel lines || tickDue w.timer.divider) = true then
    { w.openCycle n lines with draws := (w.openCycle n lines).draws + 1 } else w.openCycle n lines) = s2
  obtain ⟨e1, e2, e3, e4, e5, e6⟩ : Same [.timer, .pins, .faults, .counts, .rings, .draws] w s2 ∧
      s2.pins = { w.pins with qa := lines.qa, qb := lines.qb, sensor := lines.sensor } ∧ s2.rings = w.rings ∧
      s2.faults = w.faults ∧ s2.counts = w.counts ∧ s2.mgmt = w.mgmt := by
    subst hs2
    have ho : Same [.timer, .pins, .faults, .counts, .rings, .draws] w (w.openCycle n lines) :=
      (State.openCycle_same w n lines).widen (by decide)
    split
    · exact ⟨ho.trans ((same_set_draws _ _).widen (by decide)), rfl, rfl, rfl, rfl, rfl⟩
    · exact ⟨ho, rfl, rfl, rfl, rfl, rfl⟩
  have hread := State.readTemperature_same s2 lines.sensor
  obtain ⟨hsame, hpins, hrings, hfaults, hcounts⟩ :
      let s3 := if tickDue w.timer.divider then s2.readTemperature lines.sensor else s2
      Same [.timer, .pins, .faults, .counts, .rings, .draws] w s3 ∧ s3.pins = s2.pins ∧ s3.rings = s2.rings ∧
      s3.faults = (if tickDue w.timer.divider then (w.readTemperature lines.sensor).faults else w.faults) ∧
      s3.counts = (if tickDue w.timer.divider then (w.readTemperature lines.sensor).counts else w.counts) := by
    dsimp only
    split
    · refine ⟨e1.trans (hread.widen (by decide)), hread.pins (by decide), hread.rings (by decide), ?_, ?_⟩
      · rw [State.readTemperature_faults, State.readTemperature_faults, State.hotAt, State.hotAt, e4, e6]
      · rw [State.readTemperature_counts, State.readTemperature_counts, State.hotAt, State.hotAt, e4, e5, e6]
    · exact ⟨e1, rfl, rfl, e4, e5⟩
  generalize (if tickDue w.timer.divider then s2.readTemperature lines.sensor else s2) = s3 at *
  cases broken with
  | true =>
    exact ⟨hsame.trans ((State.emptyRings_same s3).widen (by decide)), hpins.trans e2, rfl, hfaults, hcounts⟩
  | false => exact ⟨hsame, hpins.trans e2, hrings.trans e3, hfaults, hcounts⟩

/-- R11, R13: of the counts, the opening of a cycle can only raise that of OVERHEAT. -/
theorem State.cycleOpened_counts (w : State) (n : Word16) (broken : Bool) (lines : LineSample) :
    (w.cycleOpened n broken lines).counts =
      { w.counts with overheatRaises := (w.cycleOpened n broken lines).counts.overheatRaises } := by
  obtain ⟨-, -, -, -, hc⟩ := w.cycleOpened_fields n broken lines
  rw [hc]
  split
  · rw [readTemperature_overheatCount]
  · rfl

/-- R10, R13: a cycle start reads the sensor at a seconds tick. -/
theorem State.cycleOpened_sensor (w : State) (n : Word16) (broken : Bool) (lines : LineSample) :
    SensorRead w (w.cycleOpened n broken lines) lines.sensor := by
  obtain ⟨-, -, -, hf, hc⟩ := w.cycleOpened_fields n broken lines
  by_cases hd : 1000 ≤ w.timer.divider + 1
  · have ht : tickDue w.timer.divider = true := decide_eq_true hd
    rw [if_pos ht] at hf hc
    exact (readTemperature_sensorRead lines.sensor hd).congr hf (congrArg _ hc)
  · have ht : ¬ tickDue w.timer.divider = true := fun h => hd (of_decide_eq_true h)
    rw [if_neg ht] at hf hc
    exact ⟨fun _ => by rw [hf, hc]; exact ⟨rfl, rfl, rfl, rfl⟩, fun h => absurd h hd⟩

theorem Precedes.opens {s w : State} (h : Precedes s w) (n : Word16) (lines : LineSample) {broken : Bool}
    (hb : broken = true ↔ n ≠ s.timer.cycle + 1) : Opens s (w.cycleOpened n broken lines) lines n := by
  obtain ⟨hsame, hpins, hrings, -, -⟩ := w.cycleOpened_fields n broken lines
  have hk := w.cycleOpened_counts n broken lines
  refine ⟨(h.same.widen (by decide)).trans (hsame.widen (by decide)), ?_, ?_,
    h.sensor (w.cycleOpened_sensor n broken lines), by rw [hk]; exact h.levels, by rw [hk]; exact h.video⟩
  · rw [hpins, h.same.pins (by decide)]
  · rw [hrings, h.same.rings (by decide), if_congr hb rfl rfl]
    exact ite_not _ _ _

/-- R1, R34, R41, R64, R84, R97, R103: what every cycle start carries. -/
theorem Precedes.cycleBlocks {s w : State} (h : Precedes s w) (n : Word16) (lines : LineSample) {broken : Bool}
    (hb : broken = true ↔ n ≠ s.timer.cycle + 1) : ∃ place, CycleBlocks s (w.runCycle n broken lines) lines n place := by
  obtain ⟨hqa, hqb⟩ := h.effective
  obtain ⟨-, hd, -, -⟩ := h.timer
  rw [State.runCycle_eq, hqa, hqb, hd]
  exact ⟨_, cycleBlocks_of_opens (h.opens n lines hb) _ _⟩

end Sys2Proof.Machine
end

section
/-! PROOF. What every cycle start leaves alone, and the self-start (R4, R8, R9, R12, R14, R98). -/

open Sys2Proof
open Sys2Proof.Machine

namespace Sys2Proof.Machine

/-! ### What may come before a cycle start -/

namespace Precedes

theorem trans {s t u : State} (h : Precedes s t) (k : Precedes t u) : Precedes s u := by
  obtain ⟨h0, ⟨a1, a2, a3, a4⟩, ⟨b1, b2, b3, b4⟩, ⟨c1, c2, c3⟩, ⟨d1, d2, d3⟩⟩ := h
  obtain ⟨k0, ⟨e1, e2, e3, e4⟩, ⟨f1, f2, f3, f4⟩, ⟨g1, g2, g3⟩, ⟨i1, i2, i3⟩⟩ := k
  exact ⟨h0.trans k0, ⟨e1.trans a1, e2.trans a2, e3.trans a3, e4.trans a4⟩,
    ⟨f1.trans b1, f2.trans b2, f3.trans b3, f4.trans b4⟩, ⟨g1.trans c1, g2.trans c2, g3.trans c3⟩,
    ⟨i1.trans d1, i2.trans d2, i3.trans d3⟩⟩

/-- The ports' own work. -/
theorem of_ports {s t : State} (h : Same [.up, .thru] s t) : Precedes s t := by
  refine ⟨h.widen (by decide), ?_, ?_, ?_, ?_⟩
  · rw [h.timer (by decide)]; exact ⟨rfl, rfl, rfl, rfl⟩
  · rw [h.faults (by decide), h.counts (by decide)]; exact ⟨rfl, rfl, rfl, rfl⟩
  · rw [h.counts (by decide)]; exact ⟨rfl, rfl, rfl⟩
  · rw [h.counts (by decide)]; exact ⟨rfl, rfl, rfl⟩

theorem advanceTime (s : State) (d : Nat) : Precedes s (s.advanceTime d) :=
  ⟨(State.advanceTime_same s d).widen (by decide), ⟨rfl, rfl, rfl, rfl⟩, ⟨rfl, rfl, rfl, rfl⟩, ⟨rfl, rfl, rfl⟩,
    ⟨rfl, rfl, rfl⟩⟩

theorem backboneFails (s : State) : Precedes s s.backboneFails := by
  refine ⟨(State.backboneFails_same s).widen (by decide), ?_, ?_, ?_, ?_⟩
  · rw [(State.backboneFails_same s).timer (by decide)]; exact ⟨rfl, rfl, rfl, rfl⟩
  · rw [State.backboneFails_faults, State.backboneFails_counts]; exact ⟨rfl, rfl, rfl, rfl⟩
  · rw [State.backboneFails_counts]; exact ⟨rfl, rfl, rfl⟩
  · rw [State.backboneFails_counts]; exact ⟨rfl, rfl, rfl⟩

/-- Time up to the next self-start. -/
theorem passTime {s : State} {d : Nat} (hd : d ≤ selfStartTime - s.timer.sinceStart) : Precedes s (s.passTime d) := by
  obtain e | e := State.passTime_within hd
  · exact e ▸ advanceTime s d
  · exact e ▸ (advanceTime s d).trans (backboneFails _)

theorem missMark (s : State) : Precedes s s.missMark := by
  refine ⟨(State.missMark_same s).widen (by decide), ?_, ?_, ?_, ?_⟩
  · rw [State.missMark_timer]; exact ⟨rfl, rfl, rfl, rfl⟩
  · rw [State.missMark_faults, State.missMark_counts]; exact ⟨rfl, rfl, rfl, rfl⟩
  · rw [State.missMark_counts]; exact ⟨rfl, rfl, rfl⟩
  · rw [State.missMark_counts]; exact ⟨rfl, rfl, rfl⟩

end Precedes

/-! ### What every cycle start leaves alone -/

/-- The counts that a cycle start can move. -/
theorem State.startCycle_countsElse (w : State) (n : Word16) (broken : Bool) (lines : LineSample) :
    ∃ heat qa qb regimes, (w.startCycle n broken lines).counts =
      { w.counts with overheatRaises := heat, qaChanges := qa, qbChanges := qb, regimeChanges := regimes } := by
  rw [State.startCycle_counts, State.runCycle_eq, cycleWork_counts, State.cycleOpened_counts]
  exact ⟨_, _, _, _, rfl⟩

/-- R154, R168: the work of a cycle start keeps the mode and the settings of the part. -/
theorem cycleWork_management (z : State) (n : Word16) (tick qa qb first : Bool) (place : Fin 5) :
    (z.cycleWork n tick qa qb place first).mgmt.mode = z.mgmt.mode ∧
      (z.cycleWork n tick qa qb place first).mgmt.settings = z.mgmt.settings := by
  obtain ⟨x, hx, ht⟩ := cycleWork_handOver z n tick qa qb first place
  obtain ⟨y, before, hy, -, -⟩ := cycleWork_tickAt z n tick qa qb first place
  have hquiet := (State.quietHandOver_same x qa qb).mgmt (by decide)
  have hidle : (if tick then y.idleTick else y).mgmt.mode = y.mgmt.mode := by
    split
    · rw [(State.idleTick_same y).mgmt (by decide)]
    · rfl
  refine ⟨hy.after.mode.trans (hidle.trans hy.timers.mode), ht.part.trans ?_⟩
  rw [hquiet]
  exact hx.part

/-- R154, R168: a cycle start keeps the mode and the settings of the part. -/
theorem State.startCycle_management (w : State) (n : Word16) (broken : Bool) (lines : LineSample) :
    (w.startCycle n broken lines).mgmt.mode = w.mgmt.mode ∧
      (w.startCycle n broken lines).mgmt.settings = w.mgmt.settings := by
  obtain ⟨hsame, -⟩ := w.cycleOpened_fields n broken lines
  have hm : (w.cycleOpened n broken lines).mgmt = w.mgmt := hsame.mgmt (by decide)
  unfold State.startCycle
  rw [(Calm.closeAllSuperseded _ _).mode, (Calm.closeAllSuperseded _ _).settings, State.runCycle_eq,
    (cycleWork_management _ _ _ _ _ _ _).1, (cycleWork_management _ _ _ _ _ _ _).2, hm]
  exact ⟨rfl, rfl⟩

/-- The close of superseded windows changes no fault, no part count and no mix-clip count (R134). -/
theorem closeAllSuperseded_keeps {u t : State} {rs : List WindowReturn} (h : t = u.closeAllSuperseded rs) :
    t.counts = u.counts ∧ t.faults = u.faults ∧
      ∀ c : ChainIx, t.chains[c].counts.mixClips = u.chains[c].counts.mixClips := by
  have hsame : Same [.berths, .channels, .mgmt, .chains, .calls] u t := by
    rw [h]
    exact State.closeAllSuperseded_same u rs
  have hcalm : Calm u t := by
    rw [h]
    exact Calm.closeAllSuperseded u rs
  exact ⟨hsame.counts (by decide), hsame.faults (by decide), fun c => (hcalm.chains c).mixClips⟩

/-- R1, R108, R134: a cycle start carries what the blocks make of it, and the close of the superseded windows after it,
which changes no fault, no part count and no mix-clip count. -/
theorem Precedes.startCycle {s w t : State} (h : Precedes s w) {n : Word16} {lines : LineSample} {broken : Bool}
    (hb : broken = true ↔ n ≠ s.timer.cycle + 1) (ht : t = w.startCycle n broken lines) :
    ∃ u place, t = u.closeAllSuperseded lines.returns ∧ CycleBlocks s u lines n place ∧
      t.counts = u.counts ∧ t.faults = u.faults ∧
      ∀ c : ChainIx, t.chains[c].counts.mixClips = u.chains[c].counts.mixClips := by
  obtain ⟨place, hp⟩ := h.cycleBlocks n lines hb
  have closes : t = (w.runCycle n broken lines).closeAllSuperseded lines.returns := ht
  exact ⟨_, place, closes, hp, closeAllSuperseded_keeps closes⟩

/-! ### Silent slots and emptied rings -/

/-- R97, R98: the mixer leaves silence where it does not mix. -/
theorem State.mix_silent {s : State} {b : BerthIx} (h : s.mgmt.mode ≠ .service ∨ s.berths[b].presence ≠ .present) :
    s.mix.slots[b] = ProgramBlock.silent := by
  unfold State.mix
  split
  · next hs =>
    have hp : s.present b = false := by
      unfold State.present
      exact beq_eq_false_iff_ne.2 (h.resolve_left fun hm => hm ((State.serving_iff s).1 hs))
    refine (get_ofFn_fin _ b).trans ?_
    rw [hp]
    rfl
  · exact get_replicate_fin _ b

/-- What the blocks make of an opened cycle start is what the model's make of it. -/
theorem BlocksDone.eq_blocks {u v : State} {n : Word16} (h : BlocksDone u v n) : v = u.blocks n :=
  Eq.trans h (Eq.symm (blocksDone_blocks u n))

theorem State.blocks_slots (u : State) (n : Word16) :
    (u.blocks n).slots = (u.presentRings n).channelsCycle.mix.slots := by
  unfold State.blocks State.mixAndRelease
  dsimp only
  split
  · exact (State.evaluateReleases_same _).slots (by decide)
  · rfl

/-- R98: every slot is silent in CONFIGURATION, and that of a berth which is not PRESENT in any mode. -/
theorem CycleBlocks.silent {s t : State} {lines : LineSample} {n : Word16} {place : Fin 5}
    (h : CycleBlocks s t lines n place) {b : BerthIx}
    (hb : s.mgmt.mode ≠ .service ∨ s.berths[b].presence ≠ .present) : t.slots[b] = ProgramBlock.silent := by
  obtain ⟨-, -, -, -, -, -, -, -, v, hv, -, -, hslots, -⟩ := h
  have hpres : (s.opened t n place).berths[b].presence = s.berths[b].presence := by
    unfold State.opened
    dsimp only
    split
    · rw [get_ofFn_fin]
    · rfl
  have hkeep : SameTimers (s.opened t n place) ((s.opened t n place).presentRings n).channelsCycle :=
    (SameTimers.presentRings _ n).trans (.channelsCycle _)
  rw [hslots, hv.eq_blocks, State.blocks_slots]
  refine State.mix_silent (hb.imp (fun hm => ?_) fun hp => ?_)
  · rw [hkeep.mode]
    exact hm
  · rw [hkeep.presence, hpres]
    exact hp

/-- R66: a ring without a block stays so when a cycle is presented. -/
theorem State.presentRings_empty {s : State} (h : s.rings = Vector.replicate 16 Ring.empty) (n : Word16) (r : RingIx) :
    (s.presentRings n).rings[r] = Ring.empty := by
  have hr : s.rings[r] = Ring.empty := by rw [h]; exact get_replicate_fin _ r
  have hblock : ringBlock s.rings[r] n = none := by
    rw [hr]
    unfold ringBlock
    rw [show (Ring.empty)[ringSlot n] = none from get_replicate_fin _ _]
  refine (get_ofFn_fin _ r).trans ?_
  unfold State.playedRing
  rw [hblock, if_neg (by simp), hr]

/-- R66: a number that is not the successor leaves every ring empty. -/
theorem CycleBlocks.emptied {s t : State} {lines : LineSample} {n : Word16} {place : Fin 5}
    (h : CycleBlocks s t lines n place) (hn : n ≠ s.timer.cycle + 1) (r : RingIx) (i : Fin 16) : t.rings[r][i] = none := by
  obtain ⟨-, -, -, -, -, -, -, -, v, hv, -, hrings, -⟩ := h
  have hopen : (s.opened t n place).rings = Vector.replicate 16 Ring.empty := if_neg hn
  have hstay : ((s.opened t n place).blocks n).rings = ((s.opened t n place).presentRings n).rings := by
    unfold State.blocks
    rw [(State.mixAndRelease_same _).rings (by decide), (State.channelsCycle_same _).rings (by decide)]
  have hr : t.rings[r] = Ring.empty := by
    rw [hrings, hv.eq_blocks, hstay]
    exact State.presentRings_empty hopen n r
  rw [hr]
  exact get_replicate_fin _ i

/-! ### The self-start -/

/-- What a self-start counts before the cycle starts (R4, R12). -/
def State.startMissed (s : State) : State := s.missMark.countPart fun k => { k with selfStarts := bump k.selfStarts }

theorem State.selfStart_eq (s : State) (lines : LineSample) :
    s.selfStart lines = s.startMissed.startCycle s.successor false lines := rfl

theorem Precedes.startMissed (s : State) : Precedes s s.startMissed :=
  (missMark s).trans ⟨(State.countPart_same _ _).widen (by decide), ⟨rfl, rfl, rfl, rfl⟩, ⟨rfl, rfl, rfl, rfl⟩,
    ⟨rfl, rfl, rfl⟩, ⟨rfl, rfl, rfl⟩⟩

/-- R4, R12: the counts of a self-start that the cycle start does not move. -/
theorem State.selfStart_countsElse (s : State) (lines : LineSample) :
    (s.selfStart lines).counts.selfStarts = bump s.counts.selfStarts ∧
    (s.selfStart lines).counts.marksTaken = s.counts.marksTaken ∧
    (s.selfStart lines).counts.earlyMarks = s.counts.earlyMarks ∧
    (s.selfStart lines).counts.slips = s.counts.slips ∧
    (s.selfStart lines).counts.markLossRaises =
      (if s.timer.missedRun = 49 ∧ s.faults.flags.markLoss = false then bump s.counts.markLossRaises
        else s.counts.markLossRaises) ∧
    (s.selfStart lines).counts.backboneDownRaises = s.counts.backboneDownRaises := by
  obtain ⟨_, _, _, _, hc⟩ := s.startMissed.startCycle_countsElse s.successor false lines
  rw [State.selfStart_eq, hc]
  unfold State.startMissed
  simp only [State.countPart_counts, State.missMark_counts, and_self]

end Sys2Proof.Machine
end

section
/-! PROOF. The self-start (R4, R8, R9, R10, R12, R13, R14, R34, R41, R97, R98). -/

open Sys2Proof
open Sys2Proof.Machine

namespace Sys2Proof.Machine

/-- R14: time up to the next self-start raises no MARK LOSS, and counts at most one raise of BACKBONE DOWN. -/
theorem State.passTime_within_flags {s : State} {d : Nat} (hd : d ≤ selfStartTime - s.timer.sinceStart) :
    (s.passTime d).faults.flags.markLoss = s.faults.flags.markLoss ∧
      ∃ raises, (s.passTime d).counts = { s.counts with backboneDownRaises := raises } := by
  obtain e | e := State.passTime_within hd
  · rw [e]
    exact ⟨rfl, _, rfl⟩
  · rw [e, State.backboneFails_faults, State.backboneFails_counts]
    exact ⟨rfl, _, rfl⟩

/-- R14: a period that does not hold on passes its limit within the time. -/
theorem not_signalHolds {s : State} {d : Nat} (h : ¬ SignalHolds s d) :
    ∃ x, s.faults.noSignal = some x ∧ s.faults.backboneDown = false ∧ signalLimit < x + d := by
  unfold SignalHolds at h
  push Not at h
  exact h

/-- SELF_START as the time to it and the cycle start at its end (R4). -/
def State.ownStart (s : State) (lines : LineSample) : State :=
  (s.passTime (selfStartTime - s.timer.sinceStart)).selfStart lines

/-- R4, R8, R9, R12: the timer after SELF_START. -/
theorem State.ownStart_timer (s : State) (lines : LineSample) : (s.ownStart lines).timer = { s.timer with
    cycle := s.timer.cycle + 1, sinceStart := 0, missedRun := min 65535 (s.timer.missedRun + 1)
    divider := dividerAfter s.timer.divider
    qa := sampled s.timer.qa lines.qa, qb := sampled s.timer.qb lines.qb } := by
  unfold State.ownStart
  rw [State.selfStart_timer, State.passTime_within_timer (le_refl _)]

/-- R4, R10, R13, R34, R41: what a self-start carries. -/
theorem State.ownStart_blocks {s t : State} {lines : LineSample} (ht : t = s.ownStart lines) :
    ∃ u place, t = u.closeAllSuperseded lines.returns ∧ CycleBlocks s u lines (s.timer.cycle + 1) place ∧
      t.counts = u.counts ∧ t.faults = u.faults ∧
      ∀ c : ChainIx, t.chains[c].counts.mixClips = u.chains[c].counts.mixClips := by
  have hq : Precedes s (s.passTime (selfStartTime - s.timer.sinceStart)) := .passTime (le_refl _)
  have hn : (s.passTime (selfStartTime - s.timer.sinceStart)).successor = s.timer.cycle + 1 := by
    unfold State.successor
    rw [hq.timer.1]
  refine (hq.trans (.startMissed _)).startCycle (broken := false) (by simp) ?_
  rw [ht, State.ownStart, State.selfStart_eq, hn]

/-- R11, R154, R166: SELF_START keeps mode and settings. -/
theorem State.ownStart_management (s : State) (lines : LineSample) :
    (s.ownStart lines).mgmt.mode = s.mgmt.mode ∧ (s.ownStart lines).mgmt.settings = s.mgmt.settings := by
  have hm : (s.passTime (selfStartTime - s.timer.sinceStart)).startMissed.mgmt = s.mgmt :=
    ((Precedes.passTime (le_refl _)).trans (.startMissed _)).same.mgmt (by decide)
  unfold State.ownStart
  rw [State.selfStart_eq, (State.startCycle_management _ _ _ _).1, (State.startCycle_management _ _ _ _).2, hm]
  exact ⟨rfl, rfl⟩

/-- SELF_START from a part that is not held (R4, R166). -/
theorem exec_selfStart {s : State} (hs : s.held = none) (lines : LineSample) :
    exec (.selfStart lines) s = .next (s.ownStart lines) := by
  rw [exec_free hs, effect, State.ownStart]

/-- R4, R11, R12: the counts of a self-start, and its MARK LOSS. -/
theorem State.ownStart_counts (s : State) (lines : LineSample) :
    (s.ownStart lines).counts.selfStarts = bump s.counts.selfStarts ∧
    (s.ownStart lines).counts.marksTaken = s.counts.marksTaken ∧
    (s.ownStart lines).counts.earlyMarks = s.counts.earlyMarks ∧
    (s.ownStart lines).counts.slips = s.counts.slips ∧
    (s.ownStart lines).counts.markLossRaises =
      (if s.timer.missedRun = 49 ∧ s.faults.flags.markLoss = false then bump s.counts.markLossRaises
        else s.counts.markLossRaises) ∧
    (s.ownStart lines).faults.flags.markLoss = (s.faults.flags.markLoss || decide (s.timer.missedRun = 49)) := by
  obtain ⟨hm, raises, hc⟩ := State.passTime_within_flags (s := s) (le_refl (selfStartTime - s.timer.sinceStart))
  have ht := State.passTime_within_timer (s := s) (le_refl (selfStartTime - s.timer.sinceStart))
  obtain ⟨c1, c2, c3, c4, c5, -⟩ :=
    (s.passTime (selfStartTime - s.timer.sinceStart)).selfStart_countsElse lines
  obtain ⟨-, -, -, hf⟩ := (s.passTime (selfStartTime - s.timer.sinceStart)).selfStart_signal lines
  rw [hc] at c1 c2 c3 c4 c5
  rw [hm, ht] at c5 hf
  unfold State.ownStart
  exact ⟨c1, c2, c3, c4, c5, hf⟩

/-- R14: a period without a signal that does not pass its limit up to the self-start only grows. -/
theorem State.ownStart_holds (s : State) (lines : LineSample)
    (h : SignalHolds s (selfStartTime - s.timer.sinceStart)) :
    (s.ownStart lines).faults.backboneDown = s.faults.backboneDown ∧
    (s.ownStart lines).faults.noSignal =
      (s.faults.noSignal.map fun x => min signalLimit (x + (selfStartTime - s.timer.sinceStart))) ∧
    (s.ownStart lines).faults.flags.backboneDown = s.faults.flags.backboneDown ∧
    (s.ownStart lines).counts.backboneDownRaises = s.counts.backboneDownRaises := by
  unfold State.ownStart
  rw [State.passTime_holds (le_refl _) h]
  obtain ⟨h1, h2, h3, -⟩ := (s.advanceTime (selfStartTime - s.timer.sinceStart)).selfStart_signal lines
  obtain ⟨-, -, -, -, -, hc⟩ := (s.advanceTime (selfStartTime - s.timer.sinceStart)).selfStart_countsElse lines
  exact ⟨h2, h1, h3, hc⟩

/-- R14: one that passes its limit on the way raises BACKBONE DOWN, and its measure stands there. -/
theorem State.ownStart_fails (s : State) (lines : LineSample)
    (h : ¬ SignalHolds s (selfStartTime - s.timer.sinceStart)) (hx : ∀ x, s.faults.noSignal = some x → x ≤ signalLimit) :
    (s.ownStart lines).faults.backboneDown = true ∧
    (s.ownStart lines).faults.flags.backboneDown = true ∧ (s.ownStart lines).faults.noSignal = some signalLimit ∧
    (s.ownStart lines).counts.backboneDownRaises =
      (if s.faults.flags.backboneDown then s.counts.backboneDownRaises else bump s.counts.backboneDownRaises) := by
  obtain ⟨x, hn, hb, hd⟩ := not_signalHolds h
  have hle := hx x hn
  unfold State.ownStart
  rw [State.passTime_fails (le_refl _) hn hb hd (by omega)]
  obtain ⟨h1, h2, h3, -⟩ :=
    (s.advanceTime (selfStartTime - s.timer.sinceStart)).backboneFails.selfStart_signal lines
  obtain ⟨-, -, -, -, -, hc⟩ :=
    (s.advanceTime (selfStartTime - s.timer.sinceStart)).backboneFails.selfStart_countsElse lines
  rw [State.backboneFails_faults] at h1 h2 h3
  rw [State.backboneFails_counts] at hc
  refine ⟨h2, h3, ?_, hc⟩
  rw [h1, State.advanceTime_faults, hn]
  exact congrArg some (Nat.min_eq_left hd.le)

end Sys2Proof.Machine

/-- Settles O6: the time to the self-start passes freely or through one BACKBONE DOWN, and the cycle start that ends it
is `Precedes.startCycle`. -/
theorem selfStartRule : Obligations.SelfStartRule := by
  intro lines s hs
  obtain ⟨t, e⟩ : ∃ t, t = s.ownStart lines := ⟨_, rfl⟩
  have ht := s.ownStart_timer lines
  have hcounts := s.ownStart_counts lines
  have hmgmt := s.ownStart_management lines
  have holds := s.ownStart_holds lines
  have fails := s.ownStart_fails lines
  have hsame : Same cycleFields s (s.ownStart lines) :=
    (State.passTime_same _ _).trans (State.selfStart_same _ lines)
  rw [← e] at ht hcounts hmgmt holds fails hsame
  obtain ⟨c1, c2, c3, c4, c5, hf⟩ := hcounts
  obtain ⟨u, place, hu, hblocks, hrest⟩ := State.ownStart_blocks e
  have hslots : t.slots = u.slots := by
    rw [hu, (State.closeAllSuperseded_same u lines.returns).slots (by decide)]
  refine ⟨t, e ▸ exec_selfStart hs lines, by rw [ht], by rw [ht], by rw [ht], by rw [ht], by rw [ht]; rfl,
    by rw [ht]; exact sampled_step _ _, by rw [ht]; exact sampled_step _ _, c1, c2, c3, c4, fun h => ?_, fun h => ?_,
    fun b hb => ?_, ⟨u, place, hu, hblocks, hrest⟩, holds, fails, hsame.up (by decide), hsame.thru (by decide),
    hsame.profiles (by decide), hsame.zones (by decide), hsame.classes (by decide), hsame.node (by decide), hmgmt⟩
  · rw [hf, c5, h]
    cases s.faults.flags.markLoss <;> simp
  · rw [hf, c5]
    simp [h]
  · rw [hslots]
    exact hblocks.silent hb
end

section
/-! PROOF. The cycle mark (R2, R3, R4, R5, R14, R66, R146). -/

open Sys2Proof
open Sys2Proof.Machine

namespace Sys2Proof.Machine

/-! ### The mark as it is judged -/

/-- R146: a CYCLE MARK parcel received, and queued for the through port. -/
def State.markQueued (s : State) (h : Header) (payload : List Byte) : State :=
  s.receivedU.queueThrough (parcelOf .cycleMark h payload)

/-- R2, R3: what a mark with number `n` that starts a cycle counts before the cycle starts. -/
def State.markTaken (s : State) (n : Word16) : State :=
  (s.modTimer fun t => { t with missedRun := 0, firstMark := false }).countPart fun k =>
    { k with marksTaken := bump k.marksTaken
             slips := addCount k.slips (if n != s.successor && !s.timer.firstMark then 1 else 0) }

theorem State.markQueued_same (s : State) (h : Header) (payload : List Byte) :
    Same [.up, .thru] s (s.markQueued h payload) :=
  ((State.receivedU_same s).widen (by decide)).trans ((State.queueThrough_same _ _).widen (by decide))

/-- R2, R3: a mark before 0.9 ms is counted early; one at 0.9 ms or later starts a cycle. -/
theorem State.takeMarkParcel_eq (s : State) (h : Header) (lines : LineSample) {payload : List Byte}
    (hp : payload.length = 2) : s.takeMarkParcel h lines payload =
      if markWindow ≤ s.timer.sinceStart then
        ((s.markQueued h payload).markTaken (wordAt payload 0)).startCycle (wordAt payload 0)
          (wordAt payload 0 != s.timer.cycle + 1) lines
      else (s.markQueued h payload).earlyMark := by
  unfold State.takeMarkParcel
  exact if_pos hp

/-- R14: a mark leaves the period without a signal, and raises no flag of BACKBONE DOWN. -/
theorem State.takeMarkParcel_signal (s : State) (h : Header) (lines : LineSample) (payload : List Byte) :
    (s.takeMarkParcel h lines payload).faults.noSignal = s.faults.noSignal ∧
      (s.takeMarkParcel h lines payload).faults.backboneDown = s.faults.backboneDown ∧
      (s.takeMarkParcel h lines payload).faults.flags.backboneDown = s.faults.flags.backboneDown := by
  have hq : (s.markQueued h payload).faults = s.faults := (s.markQueued_same h payload).faults (by decide)
  by_cases hp : payload.length = 2
  · rw [State.takeMarkParcel_eq s h lines hp]
    split
    · obtain ⟨h1, h2, h3, -⟩ := State.startCycle_signal ((s.markQueued h payload).markTaken (wordAt payload 0))
        (wordAt payload 0) (wordAt payload 0 != s.timer.cycle + 1) lines
      exact ⟨h1.trans (congrArg _ hq), h2.trans (congrArg _ hq), h3.trans (congrArg (·.flags.backboneDown) hq)⟩
    · exact ⟨congrArg _ hq, congrArg _ hq, congrArg (·.flags.backboneDown) hq⟩
  · have e : s.takeMarkParcel h lines payload = (s.markQueued h payload).countBadPayload := if_neg hp
    rw [e]
    exact ⟨congrArg _ hq, congrArg _ hq, congrArg (·.flags.backboneDown) hq⟩

theorem Precedes.markTaken (s : State) (n : Word16) : Precedes s (s.markTaken n) :=
  ⟨((State.modTimer_same s _).widen (by decide)).trans ((State.countPart_same _ _).widen (by decide)),
    ⟨rfl, rfl, rfl, rfl⟩, ⟨rfl, rfl, rfl, rfl⟩, ⟨rfl, rfl, rfl⟩, ⟨rfl, rfl, rfl⟩⟩

/-! ### The self-start that a mark's time passes (R4, R5) -/

/-- The self-start of a moment at which no BACKBONE DOWN falls due. -/
theorem State.takeDue_ownStart {s : State} (hs : s.timer.sinceStart ≤ selfStartTime)
    (htie : ∀ x, s.faults.noSignal = some x → s.faults.backboneDown = false →
      signalLimit - x ≠ selfStartTime - s.timer.sinceStart) :
    (s.passTime (selfStartTime - s.timer.sinceStart)).takeDue = s.ownStart s.lineSample := by
  have hdue : (s.passTime (selfStartTime - s.timer.sinceStart)).selfStartDue = true := by
    rw [State.selfStartDue_iff, State.passTime_within_timer (le_refl _)]
    dsimp only
    omega
  have hnot : (s.passTime (selfStartTime - s.timer.sinceStart)).signalLimitReached = false := by
    have hn := s.passTime_noSignal (selfStartTime - s.timer.sinceStart)
    have hstay := (s.passTime_down_stays (selfStartTime - s.timer.sinceStart)).1
    by_contra hlim
    obtain ⟨hq, hb⟩ : (s.passTime (selfStartTime - s.timer.sinceStart)).faults.noSignal = some signalLimit ∧
        (s.passTime (selfStartTime - s.timer.sinceStart)).faults.backboneDown = false := by
      simpa [State.signalLimitReached] using hlim
    have hsb : s.faults.backboneDown = false := by
      rw [← Bool.not_eq_true]
      intro hd
      rw [hstay hd] at hb
      cases hb
    rw [hq] at hn
    obtain ⟨x, hx, hmin⟩ := Option.map_eq_some_iff.1 hn.symm
    have hne := htie x hx hsb
    have hpast : signalLimit < x + (selfStartTime - s.timer.sinceStart) := by omega
    rw [State.passTime_fails (le_refl _) hx hsb hpast (by omega), State.backboneFails_faults] at hb
    cases hb
  have hpins : (s.passTime (selfStartTime - s.timer.sinceStart)).lineSample = s.lineSample := by
    unfold State.lineSample
    rw [(State.passTime_within_same (le_refl _)).pins (by decide)]
  obtain ⟨-, h2, -⟩ | ⟨h1, -, -⟩ | ⟨-, -, e⟩ | ⟨h1, -, -⟩ :=
    (s.passTime (selfStartTime - s.timer.sinceStart)).takeDue_cases
  · rw [hdue] at h2; cases h2
  · rw [hnot] at h1; cases h1
  · rw [e, hpins, State.ownStart]
  · rw [hnot] at h1; cases h1

/-- CYCLE_MARK at a part that is not held (R2, R3, R146, R166). -/
theorem exec_cycleMark {s : State} (hs : s.held = none) (h : Header) (elapsed : Nat) (lines : LineSample)
    (payload : List Byte) : exec (.cycleMark h elapsed lines payload) s =
      .next ((s.passTime elapsed).takeMarkParcel h lines payload) := by
  rw [exec_free hs, effect]

/-- R4, R5: a mark after the next self-start is a mark after it, in the time that is left. -/
theorem exec_cycleMark_late {s : State} (hs : s.held = none) (h : Header) {elapsed : Nat} (lines : LineSample)
    (payload : List Byte) (hle : s.timer.sinceStart ≤ selfStartTime) (hlt : selfStartTime < s.timer.sinceStart + elapsed)
    (htie : ∀ x, s.faults.noSignal = some x → s.faults.backboneDown = false →
      signalLimit - x ≠ selfStartTime - s.timer.sinceStart) :
    exec (.cycleMark h elapsed lines payload) s =
      exec (.cycleMark h (s.timer.sinceStart + elapsed - selfStartTime) lines payload) (s.ownStart s.lineSample) := by
  have hheld : (s.ownStart s.lineSample).held = none :=
    (((State.passTime_same _ _).trans (State.selfStart_same _ _)).held (by decide)).trans hs
  have hleft : elapsed - (selfStartTime - s.timer.sinceStart) = s.timer.sinceStart + elapsed - selfStartTime := by
    omega
  rw [exec_cycleMark hs, exec_cycleMark hheld, State.passTime_split (by omega), State.takeDue_ownStart hle htie, hleft]

/-! ### The mark in its window -/

/-- A mark that is neither early nor after the next self-start: the cycle that it starts. -/
structure Started (s t : State) (h : Header) (elapsed : Nat) (lines : LineSample) (payload : List Byte) : Prop where
  inTime : s.timer.sinceStart + elapsed ≤ selfStartTime
  eq : t = (((s.passTime elapsed).markQueued h payload).markTaken (wordAt payload 0)).startCycle (wordAt payload 0)
    (wordAt payload 0 != s.timer.cycle + 1) lines

section
variable {s t : State} {h : Header} {elapsed : Nat} {lines : LineSample} {payload : List Byte}

theorem Started.elapsed_le (k : Started s t h elapsed lines payload) :
    elapsed ≤ selfStartTime - s.timer.sinceStart := by
  have := k.inTime
  omega

theorem Started.precedes (k : Started s t h elapsed lines payload) :
    Precedes s (((s.passTime elapsed).markQueued h payload).markTaken (wordAt payload 0)) :=
  ((Precedes.passTime k.elapsed_le).trans (.of_ports (State.markQueued_same _ h payload))).trans (.markTaken _ _)

theorem Started.same (k : Started s t h elapsed lines payload) :
    Same (.up :: .thru :: cycleFields) s t := by
  rw [k.eq]
  exact (k.precedes.same.widen (by decide)).trans ((State.startCycle_same _ _ _ _).widen (by decide))

/-- R2, R34, R41, R64, R84, R97: what a mark that starts a cycle carries. -/
theorem Started.blocks (k : Started s t h elapsed lines payload) :
    ∃ u place, t = u.closeAllSuperseded lines.returns ∧ CycleBlocks s u lines (wordAt payload 0) place ∧
      t.counts = u.counts ∧ t.faults = u.faults ∧
      ∀ c : ChainIx, t.chains[c].counts.mixClips = u.chains[c].counts.mixClips :=
  k.precedes.startCycle (by simp) k.eq

/-- R2, R3, R8, R9: the timer after a mark that starts a cycle. -/
theorem Started.timer (k : Started s t h elapsed lines payload) : t.timer = { s.timer with
    cycle := wordAt payload 0, sinceStart := 0, missedRun := 0, firstMark := false
    divider := dividerAfter s.timer.divider
    qa := sampled s.timer.qa lines.qa, qb := sampled s.timer.qb lines.qb } := by
  have hq : ((s.passTime elapsed).markQueued h payload).timer =
      { s.timer with sinceStart := s.timer.sinceStart + elapsed } :=
    (((s.passTime elapsed).markQueued_same h payload).timer (by decide)).trans
      (State.passTime_within_timer k.elapsed_le)
  rw [k.eq, State.startCycle_timer, State.runCycle_timer, State.markTaken, State.countPart_timer, State.modTimer_timer,
    hq]

/-- R2, R3, R12: the counts of a mark that starts a cycle, and MARK LOSS. -/
theorem Started.counts (k : Started s t h elapsed lines payload) :
    t.counts.marksTaken = bump s.counts.marksTaken ∧ t.counts.earlyMarks = s.counts.earlyMarks ∧
    t.counts.selfStarts = s.counts.selfStarts ∧
    t.counts.slips =
      (if wordAt payload 0 ≠ s.timer.cycle + 1 ∧ s.timer.firstMark = false then bump s.counts.slips
        else s.counts.slips) ∧
    t.counts.markLossRaises = s.counts.markLossRaises ∧ t.faults.flags.markLoss = s.faults.flags.markLoss := by
  have hports := (s.passTime elapsed).markQueued_same h payload
  have ht := State.passTime_within_timer k.elapsed_le
  obtain ⟨hm, raises, hc⟩ := State.passTime_within_flags k.elapsed_le
  rw [← hports.timer (by decide)] at ht
  rw [← hports.faults (by decide)] at hm
  rw [← hports.counts (by decide)] at hc
  have hstart := k.eq
  generalize (s.passTime elapsed).markQueued h payload = q at hstart ht hm hc
  obtain ⟨_, _, _, _, hcounts⟩ := (q.markTaken (wordAt payload 0)).startCycle_countsElse (wordAt payload 0)
    (wordAt payload 0 != s.timer.cycle + 1) lines
  obtain ⟨-, -, -, hflag⟩ := (q.markTaken (wordAt payload 0)).startCycle_signal (wordAt payload 0)
    (wordAt payload 0 != s.timer.cycle + 1) lines
  rw [← hstart] at hcounts hflag
  have hslip : (wordAt payload 0 != q.successor && !q.timer.firstMark) =
      decide (wordAt payload 0 ≠ s.timer.cycle + 1 ∧ s.timer.firstMark = false) := by
    rw [Bool.eq_iff_iff]
    simp [State.successor, ht]
  refine ⟨?_, ?_, ?_, ?_, ?_, hflag.trans hm⟩
  · rw [hcounts, State.markTaken, State.countPart_counts, State.modTimer_counts, hc]
  · rw [hcounts, State.markTaken, State.countPart_counts, State.modTimer_counts, hc]
  · rw [hcounts, State.markTaken, State.countPart_counts, State.modTimer_counts, hc]
  · rw [hcounts, State.markTaken, State.countPart_counts, State.modTimer_counts, hc, hslip]
    simp only [decide_eq_true_eq]
    split
    · rfl
    · exact addCount_zero _
  · rw [hcounts, State.markTaken, State.countPart_counts, State.modTimer_counts, hc]

/-- R14: a period without a signal that does not pass its limit only grows. -/
theorem Started.holds (k : Started s t h elapsed lines payload) (hs : SignalHolds s elapsed) :
    t.faults.backboneDown = s.faults.backboneDown ∧
    t.faults.noSignal = (s.faults.noSignal.map fun x => min signalLimit (x + elapsed)) ∧
    t.faults.flags.backboneDown = s.faults.flags.backboneDown ∧
    t.counts.backboneDownRaises = s.counts.backboneDownRaises := by
  have hports := (s.passTime elapsed).markQueued_same h payload
  have hstart := k.eq
  have hf : ((s.passTime elapsed).markQueued h payload).faults = (s.advanceTime elapsed).faults := by
    rw [hports.faults (by decide), State.passTime_holds k.elapsed_le hs]
  have hc : ((s.passTime elapsed).markQueued h payload).counts = s.counts := by
    rw [hports.counts (by decide), State.passTime_holds k.elapsed_le hs, State.advanceTime_counts]
  generalize (s.passTime elapsed).markQueued h payload = q at hstart hf hc
  obtain ⟨_, _, _, _, hcounts⟩ := (q.markTaken (wordAt payload 0)).startCycle_countsElse (wordAt payload 0)
    (wordAt payload 0 != s.timer.cycle + 1) lines
  obtain ⟨h1, h2, h3, -⟩ := (q.markTaken (wordAt payload 0)).startCycle_signal (wordAt payload 0)
    (wordAt payload 0 != s.timer.cycle + 1) lines
  rw [← hstart] at hcounts h1 h2 h3
  have hq : (q.markTaken (wordAt payload 0)).faults = (s.advanceTime elapsed).faults := by
    rw [State.markTaken, State.countPart_faults, State.modTimer_faults, hf]
  rw [hq] at h1 h2 h3
  refine ⟨h2, h1, h3, ?_⟩
  rw [hcounts, State.markTaken, State.countPart_counts, State.modTimer_counts, hc]

/-- R154, R168: a mark keeps mode and settings. -/
theorem Started.management (k : Started s t h elapsed lines payload) :
    t.mgmt.mode = s.mgmt.mode ∧ t.mgmt.settings = s.mgmt.settings := by
  rw [k.eq, (State.startCycle_management _ _ _ _).1, (State.startCycle_management _ _ _ _).2,
    k.precedes.same.mgmt (by decide)]
  exact ⟨rfl, rfl⟩

end

/-- R146: the ports after a mark in time, early or not. -/
theorem State.takeMarkParcel_ports {s : State} {elapsed : Nat} (hle : s.timer.sinceStart + elapsed ≤ selfStartTime)
    (h : Header) (lines : LineSample) {payload : List Byte} (hp : payload.length = 2) :
    ((s.passTime elapsed).takeMarkParcel h lines payload).thru = s.thru.enqueue (parcelOf .cycleMark h payload) ∧
      ((s.passTime elapsed).takeMarkParcel h lines payload).up = s.receivedU.up := by
  have hq : Same [.timer, .faults, .counts] s (s.passTime elapsed) := State.passTime_within_same (by omega)
  have ports : ((s.passTime elapsed).markQueued h payload).thru = s.thru.enqueue (parcelOf .cycleMark h payload) ∧
      ((s.passTime elapsed).markQueued h payload).up = s.receivedU.up := by
    have e1 : ((s.passTime elapsed).markQueued h payload).thru =
        (s.passTime elapsed).thru.enqueue (parcelOf .cycleMark h payload) := rfl
    have e2 : ((s.passTime elapsed).markQueued h payload).up = (s.passTime elapsed).receivedU.up := rfl
    rw [e1, e2, hq.thru (by decide), State.receivedU, State.receivedU, State.countU, State.countU, State.modUp,
      State.modUp, hq.up (by decide)]
    exact ⟨rfl, rfl⟩
  rw [State.takeMarkParcel_eq _ h lines hp]
  split
  · rw [(State.startCycle_same _ _ _ _).thru (by decide), (State.startCycle_same _ _ _ _).up (by decide)]
    exact ports
  · exact ports

/-- R2: an early mark in time, written out. -/
theorem State.takeMarkParcel_early {s : State} {elapsed : Nat} (hlt : s.timer.sinceStart + elapsed < markWindow)
    (hs : SignalHolds s elapsed) (h : Header) (lines : LineSample) {payload : List Byte} (hp : payload.length = 2) :
    (s.passTime elapsed).takeMarkParcel h lines payload = { s with
      timer := { s.timer with sinceStart := s.timer.sinceStart + elapsed }
      faults := { s.faults with noSignal := s.faults.noSignal.map fun x => min signalLimit (x + elapsed) }
      counts := { s.counts with earlyMarks := bump s.counts.earlyMarks }
      up := s.receivedU.up, thru := s.thru.enqueue (parcelOf .cycleMark h payload) } := by
  have hle : elapsed ≤ selfStartTime - s.timer.sinceStart := by
    unfold markWindow at hlt
    unfold selfStartTime
    omega
  rw [State.takeMarkParcel_eq _ h lines hp, State.passTime_holds hle hs]
  exact if_neg (Nat.not_le.2 hlt)

end Sys2Proof.Machine

/-- Settles O5: `exec_cycleMark_late` for a mark beyond the self-start, `passTime_down` for a period that passes its
limit, `takeMarkParcel_early` for an early mark, and the laws of `Started` for one that starts a cycle. -/
theorem markJudged : Obligations.MarkJudged := by
  intro h elapsed lines payload s hs
  refine ⟨fun hlt hle htie => ⟨_, exec_selfStart hs s.lineSample, exec_cycleMark_late hs h lines payload hle hlt htie⟩,
    fun x hn hb hx hd => ?_, fun hp hlt hold => ?_, fun hp hle => ?_⟩
  · obtain ⟨h1, h2, h3⟩ := (s.passTime elapsed).takeMarkParcel_signal h lines payload
    obtain ⟨k2, k3⟩ := State.passTime_down hn hb hx hd
    refine ⟨_, exec_cycleMark hs h elapsed lines payload, h2.trans k2, h3.trans k3, h1.trans ?_⟩
    rw [State.passTime_noSignal, hn]
    exact congrArg some (Nat.min_eq_left hd.le)
  · rw [exec_cycleMark hs, State.takeMarkParcel_early hlt hold h lines hp]
    rfl
  · obtain ⟨t, e⟩ : ∃ t, t = (s.passTime elapsed).takeMarkParcel h lines payload := ⟨_, rfl⟩
    obtain ⟨hthru, hup⟩ := State.takeMarkParcel_ports hle h lines hp
    rw [← e] at hthru hup
    refine ⟨t, e ▸ exec_cycleMark hs h elapsed lines payload, hthru, hup, fun hge => ?_⟩
    have hq : (s.passTime elapsed).timer = { s.timer with sinceStart := s.timer.sinceStart + elapsed } :=
      State.passTime_within_timer (Nat.le_sub_of_add_le' hle)
    have k : Started s t h elapsed lines payload := by
      refine ⟨hle, ?_⟩
      rw [e, State.takeMarkParcel_eq _ h lines hp, hq]
      exact if_pos hge
    obtain ⟨c1, c2, c3, c4, c5, hf⟩ := k.counts
    obtain ⟨hmode, hset⟩ := k.management
    obtain ⟨u, place, hu, hblocks, hrest⟩ := k.blocks
    have ht := k.timer
    have hrings : t.rings = u.rings := by
      rw [hu, (State.closeAllSuperseded_same u lines.returns).rings (by decide)]
    refine ⟨⟨u, place, hu, hblocks, hrest⟩, hf, c5, k.holds, by rw [ht], by rw [ht], by rw [ht], by rw [ht],
      by rw [ht]; rfl, by rw [ht]; exact sampled_step _ _, by rw [ht]; exact sampled_step _ _, c1, c2, c3, c4,
      k.same.profiles (by decide), k.same.zones (by decide), k.same.classes (by decide), k.same.node (by decide),
      hmode, hset, fun hne r i => ?_⟩
    rw [hrings]
    exact hblocks.emptied hne r i
end

section
/-! PROOF. Governing recomputed and releases evaluated, and with them a berth that becomes PRESENT and one that enters ABSENT
(R21 to R24, R27, R38, R79, R81, R137, R138). -/

namespace Sys2Proof.Machine

/-! ### Governing recomputed -/

/-- R79: `t` comes from `s` by recomputations of governing, which write governing and ducked mark of PRESENT berths alone. -/
structure Regoverned (s t : State) : Prop where
  only : ∀ b : BerthIx, t.berths[b] =
    { s.berths[b] with governing := t.berths[b].governing, ducked := t.berths[b].ducked }
  others : ∀ b : BerthIx, s.berths[b].presence ≠ .present → t.berths[b] = s.berths[b]

namespace Regoverned

theorem refl (s : State) : Regoverned s s := ⟨fun _ => rfl, fun _ _ => rfl⟩

theorem presence {s t : State} (h : Regoverned s t) (b : BerthIx) : t.berths[b].presence = s.berths[b].presence := by
  rw [h.only b]

theorem trans {s t u : State} (h : Regoverned s t) (k : Regoverned t u) : Regoverned s u :=
  ⟨fun b => by rw [k.only b, h.only b],
    fun b hp => (k.others b (by rwa [h.presence])).trans (h.others b hp)⟩

theorem ite {s t u : State} {c : Prop} [Decidable c] (h : Regoverned s t) (k : Regoverned s u) :
    Regoverned s (if c then t else u) := by
  split
  · exact h
  · exact k

theorem of_berths {s t : State} (h : t.berths = s.berths) : Regoverned s t := by
  refine ⟨fun b => ?_, fun b _ => ?_⟩ <;> rw [h]

theorem recomputeGoverning (s : State) : Regoverned s s.recomputeGoverning := by
  refine ⟨fun b => ?_, fun b hp => ?_⟩
  · rw [recomputeGoverning_get]
    exact regoverned_only s b _
  · rw [recomputeGoverning_get]
    exact if_neg hp

theorem modChannel (s : State) (a : ChannelIx) (f : Channel → Channel) : Regoverned s (s.modChannel a f) := of_berths rfl

theorem enterPlaying (s : State) (a : ChannelIx) : Regoverned s (s.enterPlaying a) :=
  (modChannel s a _).trans (recomputeGoverning _)

theorem enterLead (s : State) (a : ChannelIx) : Regoverned s (s.enterLead a) :=
  ite (enterPlaying s a) ((modChannel s a _).trans (recomputeGoverning _))

theorem evaluateRelease (s : State) (a : ChannelIx) : Regoverned s (s.evaluateRelease a) := ite (enterLead s a) (refl s)

theorem evaluateReleases (s : State) : Regoverned s s.evaluateReleases :=
  (evaluateRelease s 0).trans (evaluateRelease _ 1)

theorem settleGoverning (s : State) : Regoverned s s.settleGoverning :=
  (recomputeGoverning s).trans (evaluateReleases _)

theorem enterIdle (s : State) (a : ChannelIx) : Regoverned s (s.enterIdle a) :=
  ((modChannel s a _).trans (recomputeGoverning _)).trans (evaluateRelease _ _)

theorem countLead (s : State) (a : ChannelIx) : Regoverned s (s.countLead a) := ite (enterPlaying s a) (modChannel s a _)

end Regoverned

/-- R79: a recomputation leaves a berth that is governed as the rule says. -/
theorem State.regoverned_chosen {s : State} {b : BerthIx} {r : Berth}
    (h : r.presence = .present → r.governing = s.chooseGoverning b) : s.regoverned b r = r := by
  unfold State.regoverned
  split
  · next hp => rw [← h hp, if_pos rfl]
  · rfl

/-! ### Releases -/

/-- R81: a PRESENT berth that channel `a` governs is without the ducked mark. -/
def Waits (s : State) (a : ChannelIx) : Prop :=
  ∃ b : BerthIx, s.berths[b].presence = .present ∧ s.berths[b].governing = some a ∧ s.berths[b].ducked = false

/-- R82, R83: the record of a channel that leaves DUCKING with a lead. -/
def Channel.freed (ch : Channel) (lead : Nat) : Channel :=
  if lead = 0 then { ch with state := .playing, lead := 0, stall := 0, presented := .silence }
  else { ch with state := .lead, lead := lead }

theorem Channel.freed_state (ch : Channel) (lead : Nat) : (ch.freed lead).state ≠ .ducking := by
  unfold Channel.freed
  split
  · exact fun h => by cases h
  · exact fun h => by cases h

/-- R79: a channel that leaves DUCKING for LEAD or PLAYING claims what it claimed. -/
theorem Channel.freed_claim {ch : Channel} (h : ch.state = .ducking) (lead : Nat) (b : BerthIx) :
    (ch.freed lead).claim b = ch.claim b := by
  unfold Channel.freed Channel.claim Channel.busy
  rw [h]
  split <;> rfl

/-- R82: the lead of a channel record: its override, else the lead of its class. -/
def Channel.leadUnder (ch : Channel) (classes : Vector ClassEntry 4) : Nat :=
  match ch.leadOverride, ch.cls with
  | some m, _ => m.val
  | none, some c => classes[c.index].lead.val
  | none, none => 0

theorem State.leadOf_eq (s : State) (a : ChannelIx) : s.leadOf a = s.channels[a].leadUnder s.classes := by
  unfold State.leadOf Channel.leadUnder State.classEntry
  cases s.channels[a].leadOverride with
  | some m => rfl
  | none => cases s.channels[a].cls <;> rfl

theorem released_iff (t : State) (a : ChannelIx) (ch : Channel) :
    Released t a ch ↔ (ch.state ≠ .ducking ∨ Waits t a → t.channels[a] = ch) ∧
      (ch.state = .ducking → ¬ Waits t a → t.channels[a] = ch.freed (ch.leadUnder t.classes)) := by
  unfold Released Channel.freed
  refine and_congr_right fun _ => forall_congr' fun _ => imp_congr_right fun _ => ?_
  by_cases h : ch.leadUnder t.classes = 0
  · rw [if_pos h]
    exact ⟨fun k => k.1 h, fun k => ⟨fun _ => k, fun h' => absurd h h'⟩⟩
  · rw [if_neg h]
    exact ⟨fun k => k.2 h, fun k => ⟨fun h' => absurd h' h, fun _ => k⟩⟩

theorem State.releaseHolds_iff (s : State) (a : ChannelIx) : s.releaseHolds a = true ↔ ¬ Waits s a := by
  unfold State.releaseHolds Waits State.present
  simp only [List.all_eq_true, List.mem_finRange, true_imp_iff, Bool.or_eq_true, Bool.not_eq_true', Bool.and_eq_false_iff,
    not_exists, not_and, Bool.not_eq_false, beq_eq_false_iff_ne, ne_eq]
  refine forall_congr' fun b => ?_
  tauto

/-- R82, R83: the entry into LEAD, or into PLAYING at once, is the change of the record and a recomputation. -/
theorem State.enterLead_eq (s : State) (a : ChannelIx) : s.enterLead a =
    (s.modChannel a fun ch => ch.freed (s.leadOf a)).recomputeGoverning := by
  unfold State.enterLead State.enterPlaying Channel.freed
  split
  · rfl
  · rfl

/-- R81: a release is evaluated on the channel's own record. -/
theorem State.evaluateRelease_own (s : State) (a : ChannelIx) :
    (s.channels[a].state ≠ .ducking ∨ Waits s a → (s.evaluateRelease a).channels[a] = s.channels[a]) ∧
    (s.channels[a].state = .ducking → ¬ Waits s a →
      (s.evaluateRelease a).channels[a] = s.channels[a].freed (s.channels[a].leadUnder s.classes)) := by
  unfold State.evaluateRelease
  have hw := s.releaseHolds_iff a
  refine ⟨fun h => by rw [if_neg fun k => h.elim (fun h => h k.1) (hw.1 k.2)], fun h1 h2 => ?_⟩
  rw [if_pos ⟨h1, hw.2 h2⟩, State.enterLead_eq, (State.recomputeGoverning_same _).channels (by decide),
    State.modChannel_get, if_pos rfl, State.leadOf_eq]

/-- R79, R81: a release leaves every berth as it is, where governing is as R79 says. -/
theorem Governed.evaluateRelease_berths {s : State} (hg : Governed s) (a : ChannelIx) :
    (s.evaluateRelease a).berths = s.berths := by
  unfold State.evaluateRelease
  split
  · next h =>
    rw [State.enterLead_eq]
    refine berths_ext fun b => (recomputeGoverning_get _ b).trans (State.regoverned_chosen fun hp => (hg b hp).trans ?_)
    refine (chooseGoverning_congr (fun a' b' => ?_) b).symm
    rw [State.modChannel_get]
    split
    · next e => rw [e, Channel.freed_claim h.1]
    · rfl
  · rfl

/-- R79, R81: the two releases leave every berth as it is, and each is as the rule says. -/
theorem Governed.evaluateReleases_spec {s : State} (hg : Governed s) :
    s.evaluateReleases.berths = s.berths ∧ Governed s.evaluateReleases ∧
      ∀ a : ChannelIx, Released s.evaluateReleases a s.channels[a] := by
  obtain ⟨-, g1⟩ := evaluateRelease_calls hg 0
  have b1 := hg.evaluateRelease_berths 0
  have b2 : s.evaluateReleases.berths = s.berths := (g1.evaluateRelease_berths 1).trans b1
  have hcl := (State.evaluateReleases_same s).classes (by decide)
  have hcl1 := (State.evaluateRelease_same s 0).classes (by decide)
  have waits : ∀ {t : State} (a : ChannelIx), t.berths = s.berths → (Waits t a ↔ Waits s a) := by
    intro t a e
    unfold Waits
    rw [e]
  refine ⟨b2, (evaluateRelease_calls g1 1).2, fun a => (released_iff _ _ _).2 ?_⟩
  rw [waits a b2, hcl]
  have split : ∀ a : ChannelIx, a = 0 ∨ a = 1 := by decide
  obtain rfl | rfl := split a
  · have e : s.evaluateReleases.channels[(0 : ChannelIx)] = (s.evaluateRelease 0).channels[(0 : ChannelIx)] :=
      (evaluateRelease_spec _ 1).2 0 (.inl (by decide))
    rw [e]
    exact State.evaluateRelease_own s 0
  · have e : (s.evaluateRelease 0).channels[(1 : ChannelIx)] = s.channels[(1 : ChannelIx)] :=
      (evaluateRelease_spec s 0).2 1 (.inl (by decide))
    have h := State.evaluateRelease_own (s.evaluateRelease 0) 1
    rw [e, waits 1 b1, hcl1] at h
    exact h

/-- R79, R81: governing settled. -/
theorem State.settleGoverning_get (s : State) (b : BerthIx) :
    s.settleGoverning.berths[b] = s.regoverned b s.berths[b] := by
  unfold State.settleGoverning
  rw [(Governed.evaluateReleases_spec (governed_recompute s)).1, recomputeGoverning_get]

theorem State.settleGoverning_governed (s : State) : Governed s.settleGoverning :=
  (Governed.evaluateReleases_spec (governed_recompute s)).2.1

theorem State.settleGoverning_released (s : State) (a : ChannelIx) : Released s.settleGoverning a s.channels[a] := by
  have h := (Governed.evaluateReleases_spec (governed_recompute s)).2.2 a
  rwa [(State.recomputeGoverning_same s).channels (by decide)] at h

/-- R79: governing settled leaves a berth that is governed as the rule says, also where other berths changed before. -/
theorem Governed.settleGoverning_get {s u : State} (hg : Governed s) (hc : u.channels = s.channels) {b : BerthIx}
    (hb : u.berths[b] = s.berths[b]) : u.settleGoverning.berths[b] = s.berths[b] := by
  rw [State.settleGoverning_get, hb]
  refine State.regoverned_chosen fun hp => (hg b hp).trans ?_
  exact (chooseGoverning_congr (fun a b => by rw [hc]) b).symm

theorem Governed.governs {s : State} (hg : Governed s) {b : BerthIx} (hp : s.berths[b].presence = .present) :
    Governs s b s.berths[b].governing := by
  rw [hg b hp]
  exact chooseGoverning_governs s b

/-- R79, R81: of the part, governing settled writes berths and channels alone. -/
theorem Same.eq_governing {s t : State} (h : Same [.berths, .channels] s t) :
    t = { s with berths := t.berths, channels := t.channels } := by
  obtain ⟨h1, h2, h3, h4, h5, h6, -, h8, h9, h10, h11, h12, h13, h14, -, h16, h17, h18, h19, h20, h21, h22⟩ := h
  cases s
  cases t
  simp_all

/-- R79: a ducked mark stays where what governs stays. -/
theorem regoverned_ducked (s : State) (b : BerthIx) (r : Berth) :
    (s.regoverned b r).ducked = true ↔ r.ducked = true ∧ (s.regoverned b r).governing = r.governing := by
  unfold State.regoverned
  by_cases hp : r.presence = .present
  · by_cases hc : s.chooseGoverning b = r.governing <;> simp [hp, hc]
  · simp [hp]

/-- R81: what a release leaves depends on berths, channels and classes alone. -/
theorem Released.congr {t u : State} {a : ChannelIx} {ch : Channel} (h : Released t a ch) (hb : u.berths = t.berths)
    (hc : u.channels = t.channels) (hl : u.classes = t.classes) : Released u a ch := by
  unfold Released
  rw [hb, hc, hl]
  exact h

/-- R79: what governs depends on berths and channels alone. -/
theorem Governed.congr {s t : State} (h : Governed s) (hb : t.berths = s.berths) (hc : t.channels = s.channels) :
    Governed t := fun b hp => by
  rw [hb] at hp ⊢
  exact (h b hp).trans (chooseGoverning_congr (fun a b => by rw [hc]) b).symm

/-! ### A berth becomes PRESENT (R23, R27) -/

/-- R33: a choice is a stream that is open as the kind and allowed. -/
theorem State.choosable_iff (s : State) (k : StreamKind) (allowed : BitVec 32) (v : StreamIx) :
    s.choosable k allowed v = true ↔ s.streams[v].kind = some k ∧ allowed.getLsbD v.val = true := by
  unfold State.choosable
  rw [Bool.and_eq_true, beq_iff_eq]

theorem State.filterDefault_eq (s : State) (k : StreamKind) (allowed : BitVec 32) (d : Option StreamIx) :
    s.filterDefault k allowed d =
      d.filter fun v => decide (s.streams[v].kind = some k) && allowed.getLsbD v.val := by
  unfold State.filterDefault State.choosable
  cases d with
  | none => rfl
  | some v => simp [Option.filter]

/-- R23, R27: the record of a berth that becomes PRESENT, before governing is recomputed. -/
def State.arrived (s : State) (r : Berth) : Berth :=
  if s.serving then s.joined { r with presence := .present, validRun := 0 }
  else { r with presence := .present, validRun := 0 }

/-- R23: the state in which governing is recomputed for a berth that becomes PRESENT. -/
def State.entered (s : State) (b : BerthIx) : State := (s.modBerth b s.arrived).latchPresence (chainOf b)

theorem State.becomePresent_eq (s : State) (b : BerthIx) : s.becomePresent b =
    (s.entered b).settleGoverning.countChain (chainOf b) fun k => { k with presenceGained := bump k.presenceGained } := rfl

theorem State.entered_get (s : State) (b b' : BerthIx) :
    (s.entered b).berths[b'] = if b' = b then s.arrived s.berths[b] else s.berths[b'] :=
  State.modBerth_get s b b' _

theorem State.entered_channels (s : State) (b : BerthIx) : (s.entered b).channels = s.channels := rfl

/-- R23: berths, channels and classes are as the recomputation left them. -/
theorem State.becomePresent_settled (s : State) (b : BerthIx) :
    (s.becomePresent b).berths = (s.entered b).settleGoverning.berths ∧
    (s.becomePresent b).channels = (s.entered b).settleGoverning.channels ∧
    (s.becomePresent b).classes = (s.entered b).settleGoverning.classes := by
  rw [State.becomePresent_eq, State.countChain_berths, State.countChain_channels, State.countChain_classes]
  exact ⟨rfl, rfl, rfl⟩

/-- R23, R27: what becoming PRESENT makes of the part. -/
theorem becomePresent_spec (s : State) (b : BerthIx) : BecomesPresent s (s.becomePresent b) b := by
  have ht : ∀ b' : BerthIx, (s.becomePresent b).berths[b'] = (s.entered b).regoverned b' (s.entered b).berths[b'] :=
    fun b' => by rw [(s.becomePresent_settled b).1, State.settleGoverning_get]
  obtain ⟨hberths, hchannels, hclasses⟩ := s.becomePresent_settled b
  have hg : Governed (s.becomePresent b) := (State.settleGoverning_governed (s.entered b)).congr hberths hchannels
  have hb := ht b
  rw [State.entered_get, if_pos rfl] at hb
  have hpres : (s.arrived s.berths[b]).presence = .present := by
    unfold State.arrived
    split <;> rfl
  have hreg : (s.becomePresent b).berths[b].ducked = true ↔ (s.arrived s.berths[b]).ducked = true ∧
      (s.becomePresent b).berths[b].governing = (s.arrived s.berths[b]).governing := by
    rw [hb]
    exact regoverned_ducked _ _ _
  have honly : (s.becomePresent b).berths[b] = { s.arrived s.berths[b] with
      governing := (s.becomePresent b).berths[b].governing, ducked := (s.becomePresent b).berths[b].ducked } := by
    rw [hb]
    exact regoverned_only _ _ _
  refine ⟨?_, fun hm => ?_, fun hm => ?_, fun b' hne => ?_, fun hlaw => ⟨hg.governs ?_, fun b' hne => ?_⟩, fun a => ?_⟩
  · have e := (State.settleGoverning_same (s.entered b)).eq_governing
    exact congrArg (fun x => x.countChain (chainOf b) fun k => { k with presenceGained := bump k.presenceGained }) e
  · have e : s.arrived s.berths[b] = { s.berths[b] with presence := .present, validRun := 0 } :=
      if_neg (by simp [State.serving, hm])
    rw [e] at honly hreg
    exact ⟨honly, hreg⟩
  · have e : s.arrived s.berths[b] = s.joined { s.berths[b] with presence := .present, validRun := 0 } :=
      if_pos (by simp [State.serving, hm])
    rw [e] at honly hreg
    refine ⟨by simpa [State.joined] using hreg, honly.trans ?_⟩
    unfold State.joined
    rw [State.filterDefault_eq, State.filterDefault_eq]
  · rw [ht, State.entered_get, if_neg hne]
    exact regoverned_only _ _ _
  · rw [honly]
    exact hpres
  · rw [ht, ← State.settleGoverning_get]
    exact Governed.settleGoverning_get (governed_of_law hlaw) (s.entered_channels b)
      (by rw [State.entered_get, if_neg hne])
  · have hr := State.settleGoverning_released (s.entered b) a
    rw [s.entered_channels b] at hr
    exact hr.congr hberths hchannels hclasses

end Sys2Proof.Machine
end

section
/-! PROOF. What an operation on one chain and its berths leaves of the rest of the part, and with it a berth that enters ABSENT
(R22, R24, R38, R134, R137, R138). -/

namespace Sys2Proof.Machine

/-! ### Queries that start (R137) -/

/-- The record of a chain with another count of losses. -/
def Chain.withLosses (ch : Chain) (k : Count) : Chain := { ch with counts := { ch.counts with presenceLost := k } }

/-- R137: starting queries keeps the count of losses. -/
theorem startLoop_presenceLost (present : PosIx → Bool) (c : ChainIx) (qs : List Query) (ch : Chain) :
    (startLoop present c qs ch).counts.presenceLost = ch.counts.presenceLost := by
  induction qs generalizing ch with
  | nil => rfl
  | cons q qs ih =>
    unfold startLoop
    split
    · rfl
    · split
      · rfl
      · exact ih { ch with
          results := ch.results ++ [{ chain := c, pos := q.pos, code := q.code, outcome := .absent, answer := none }]
          counts := { ch.counts with absentOutcomes := bump ch.counts.absentOutcomes } }

theorem State.modChain_modChain (s : State) (c : ChainIx) (f g : Chain → Chain) :
    (s.modChain c f).modChain c g = s.modChain c fun ch => g (f ch) := by
  unfold State.modChain
  simp only [Fin.getElem_fin, Vector.getElem_set_self, Vector.set_set]

/-- R138: the end of a query in flight is one change of the record of its chain. -/
theorem State.endQuery_eq {s : State} {c : ChainIx} {q : InFlight} (h : s.chains[c].inFlight = some q) (o : QueryOutcome)
    (x : Option AnswerBytes) (f : ChainCounts → ChainCounts) : s.endQuery c o x f =
      s.modChain c fun ch => startLoop (fun p => s.present (berthAt c p)) c ch.queries
        { queryEnded ch c q o x with counts := f ch.counts } := by
  unfold State.endQuery
  rw [h]
  exact State.modChain_modChain s c _ _

theorem State.endQuery_none {s : State} {c : ChainIx} (h : s.chains[c].inFlight = none) (o : QueryOutcome)
    (x : Option AnswerBytes) (f : ChainCounts → ChainCounts) : s.endQuery c o x f = s := by
  unfold State.endQuery
  rw [h]

/-- R137, R138: after the end of a query the engine starts queries. -/
theorem State.endQuery_next {s : State} {c : ChainIx} {q : InFlight} (h : s.chains[c].inFlight = some q)
    (o : QueryOutcome) (x : Option AnswerBytes) (f : ChainCounts → ChainCounts) :
    NextQueries s c { queryEnded s.chains[c] c q o x with counts := f s.chains[c].counts }
      (s.endQuery c o x f).chains[c] := by
  rw [State.endQuery_eq h, State.modChain_get, if_pos rfl]
  exact startLoop_next s c s.chains[c].queries { queryEnded s.chains[c] c q o x with counts := f s.chains[c].counts } rfl

/-- R137: which queries start depends on the berths alone. -/
theorem NextQueries.congr {s t : State} {c : ChainIx} {x y : Chain} (h : NextQueries s c x y) (e : t.berths = s.berths) :
    NextQueries t c x y := by
  unfold NextQueries
  rw [e]
  exact h

/-- R137: the queries that start leave the count of losses, so it may be counted before them. -/
theorem NextQueries.lost {s : State} {c : ChainIx} {x y : Chain} (h : NextQueries s c x y) (k : Count) :
    NextQueries s c (x.withLosses k) (y.withLosses k) := by
  obtain ⟨gone, left, hq, hg, hl, h1, h2⟩ := h
  exact ⟨gone, left, hq, hg, hl, fun h => congrArg (fun z => z.withLosses k) (h1 h),
    fun n ns e h => ⟨(h2 n ns e h).1, congrArg (fun z => z.withLosses k) (h2 n ns e h).2⟩⟩

theorem State.queryTargetAbsent_kept {s : State} {c : ChainIx} {p : PosIx}
    (h : ∀ q, s.chains[c].inFlight = some q → q.query.pos ≠ p) : s.queryTargetAbsent c p = s := by
  unfold State.queryTargetAbsent
  split
  · rfl
  · next q e => rw [if_neg (h q e)]

theorem State.queryTargetAbsent_ends {s : State} {c : ChainIx} {p : PosIx} {q : InFlight}
    (h : s.chains[c].inFlight = some q) (hp : q.query.pos = p) : s.queryTargetAbsent c p =
      s.endQuery c .absent none fun k => { k with absentOutcomes := bump k.absentOutcomes } := by
  unfold State.queryTargetAbsent
  rw [h]
  exact if_pos hp

/-! ### The record of a chain between the closes of its windows -/

/-- R39, R134: enable, link and open windows of a chain stay, and its slots counted as valid, missing and invalid rise by
`d`. -/
structure Chain.Steady (d : Nat × Nat × Nat) (ch ch' : Chain) : Prop where
  enabled : ch'.enabled = ch.enabled
  link : ch'.link = ch.link
  windows : ch'.windows.map Window.cycle = ch.windows.map Window.cycle
  valid : ch'.counts.returnsValid = addCount ch.counts.returnsValid d.1
  missing : ch'.counts.returnsMissing = addCount ch.counts.returnsMissing d.2.1
  invalid : ch'.counts.returnsInvalid = addCount ch.counts.returnsInvalid d.2.2

namespace Chain.Steady

theorem of_eq {ch ch' : Chain} (he : ch'.enabled = ch.enabled) (hl : ch'.link = ch.link)
    (hw : ch'.windows.map Window.cycle = ch.windows.map Window.cycle)
    (hv : ch'.counts.returnsValid = ch.counts.returnsValid) (hm : ch'.counts.returnsMissing = ch.counts.returnsMissing)
    (hi : ch'.counts.returnsInvalid = ch.counts.returnsInvalid) : Steady 0 ch ch' :=
  ⟨he, hl, hw, hv.trans (addCount_zero _).symm, hm.trans (addCount_zero _).symm, hi.trans (addCount_zero _).symm⟩

theorem refl (ch : Chain) : Steady 0 ch ch := of_eq rfl rfl rfl rfl rfl rfl

theorem trans {d e : Nat × Nat × Nat} {x y z : Chain} (h : Steady d x y) (k : Steady e y z) : Steady (d + e) x z :=
  ⟨k.enabled.trans h.enabled, k.link.trans h.link, k.windows.trans h.windows,
    by rw [k.valid, h.valid, addCount_addCount]; rfl, by rw [k.missing, h.missing, addCount_addCount]; rfl,
    by rw [k.invalid, h.invalid, addCount_addCount]; rfl⟩

theorem andThen {x y z : Chain} (h : Steady 0 x y) (k : Steady 0 y z) : Steady 0 x z := h.trans k

/-- R137: queries that start leave windows and slots alone. -/
theorem startLoop (present : PosIx → Bool) (c : ChainIx) (qs : List Query) (ch : Chain) :
    Steady 0 ch (startLoop present c qs ch) := by
  induction qs generalizing ch with
  | nil => exact of_eq rfl rfl rfl rfl rfl rfl
  | cons q qs ih =>
    unfold Machine.startLoop
    split
    · exact of_eq rfl rfl rfl rfl rfl rfl
    · split
      · exact of_eq rfl rfl rfl rfl rfl rfl
      · have he : Steady 0 ch { ch with
            results := ch.results ++ [{ chain := c, pos := q.pos, code := q.code, outcome := .absent, answer := none }]
            counts := { ch.counts with absentOutcomes := bump ch.counts.absentOutcomes } } :=
          of_eq rfl rfl rfl rfl rfl rfl
        exact he.andThen (ih _)

theorem unjudged_cycles (ws : List Window) : (unjudged ws).map Window.cycle = ws.map Window.cycle := by
  unfold unjudged
  rw [List.map_map]
  rfl

end Chain.Steady

/-! ### One chain and some berths -/

/-- From `s` to `t` only chain `c` and the berths that `B` names change, but for the governing of others; `d` slots of the
chain are counted. -/
structure Within (c : ChainIx) (B : BerthIx → Prop) (d : Nat × Nat × Nat) (s t : State) : Prop where
  same : Same [.berths, .channels, .mgmt, .chains, .calls] s t
  mgmt : t.mgmt = { s.mgmt with presence := t.mgmt.presence }
  others : ∀ c' : ChainIx, c' ≠ c → t.chains[c'] = s.chains[c']
  chain : Chain.Steady d s.chains[c] t.chains[c]
  berths : ∀ b : BerthIx, ¬ B b → t.berths[b] =
    { s.berths[b] with governing := t.berths[b].governing, ducked := t.berths[b].ducked }

namespace Within

variable {c : ChainIx} {B : BerthIx → Prop} {s t u : State}

theorem refl (c : ChainIx) (B : BerthIx → Prop) (s : State) : Within c B 0 s s :=
  ⟨.refl _ s, rfl, fun _ _ => rfl, .refl _, fun _ _ => rfl⟩

theorem trans {d e : Nat × Nat × Nat} (h : Within c B d s t) (k : Within c B e t u) : Within c B (d + e) s u :=
  ⟨h.same.trans k.same, by rw [k.mgmt, h.mgmt], fun c' hc => (k.others c' hc).trans (h.others c' hc),
    h.chain.trans k.chain, fun b hb => by rw [k.berths b hb, h.berths b hb]⟩

theorem andThen (h : Within c B 0 s t) (k : Within c B 0 t u) : Within c B 0 s u := h.trans k

theorem ite {d : Nat × Nat × Nat} {p : Prop} [Decidable p] (h : Within c B d s t) (k : Within c B d s u) :
    Within c B d s (if p then t else u) := by
  split
  · exact h
  · exact k

theorem widen {B' : BerthIx → Prop} {d : Nat × Nat × Nat} (h : Within c B d s t) (hB : ∀ b, B b → B' b) :
    Within c B' d s t :=
  ⟨h.same, h.mgmt, h.others, h.chain, fun b hb => h.berths b fun k => hb (hB b k)⟩

theorem foldl {ι : Type} {f : State → ι → State} {d : ι → Nat × Nat × Nat} (h : ∀ s i, Within c B (d i) s (f s i))
    (l : List ι) (s : State) : Within c B (l.map d).sum s (l.foldl f s) := by
  induction l generalizing s with
  | nil => exact refl c B s
  | cons i is ih =>
    rw [List.map_cons, List.sum_cons]
    exact (h s i).trans (ih _)

/-- What writes governing, releases and attention alone. -/
theorem of_regoverned (c : ChainIx) (B : BerthIx → Prop) (h : Regoverned s t) (hs : Same [.berths, .channels] s t) :
    Within c B 0 s t := by
  have hch : t.chains = s.chains := hs.chains (by decide)
  refine ⟨hs.widen (by decide), by rw [hs.mgmt (by decide)], fun c' _ => by rw [hch], ?_, fun b _ => h.only b⟩
  rw [hch]
  exact .refl _

theorem latchPresence (c c' : ChainIx) (B : BerthIx → Prop) (s : State) : Within c B 0 s (s.latchPresence c') :=
  ⟨(State.latchPresence_same s c').widen (by decide), by rw [State.latchPresence_mgmt], fun _ _ => rfl, .refl _, fun _ _ => rfl⟩

theorem setCalls (c : ChainIx) (B : BerthIx → Prop) (s : State) (l : List BerthIx) : Within c B 0 s { s with calls := l } :=
  ⟨by simp [Same], rfl, fun _ _ => rfl, .refl _, fun _ _ => rfl⟩

theorem modBerth (c : ChainIx) (s : State) (b : BerthIx) (f : Berth → Berth) : Within c (· = b) 0 s (s.modBerth b f) :=
  ⟨(State.modBerth_same s b f).widen (by decide), rfl, fun _ _ => rfl, .refl _,
    fun b' hb => by rw [State.modBerth_get, if_neg hb]⟩

theorem modChain (B : BerthIx → Prop) (s : State) {f : Chain → Chain} {d : Nat × Nat × Nat}
    (h : Chain.Steady d s.chains[c] (f s.chains[c])) : Within c B d s (s.modChain c f) := by
  refine ⟨(State.modChain_same s c f).widen (by decide), rfl, fun c' hc => ?_, ?_, fun _ _ => rfl⟩
  · rw [State.modChain_get, if_neg hc]
  · rw [State.modChain_get, if_pos rfl]
    exact h

theorem countChain (B : BerthIx → Prop) (s : State) {f : ChainCounts → ChainCounts}
    (hv : ∀ k, (f k).returnsValid = k.returnsValid) (hm : ∀ k, (f k).returnsMissing = k.returnsMissing)
    (hi : ∀ k, (f k).returnsInvalid = k.returnsInvalid) : Within c B 0 s (s.countChain c f) :=
  modChain B s (.of_eq rfl rfl rfl (hv _) (hm _) (hi _))

/-! ### Queries (R137, R138) -/

theorem endQuery (B : BerthIx → Prop) (s : State) (o : QueryOutcome) (x : Option AnswerBytes)
    {f : ChainCounts → ChainCounts} (hv : ∀ k, (f k).returnsValid = k.returnsValid)
    (hm : ∀ k, (f k).returnsMissing = k.returnsMissing) (hi : ∀ k, (f k).returnsInvalid = k.returnsInvalid) :
    Within c B 0 s (s.endQuery c o x f) := by
  cases h : s.chains[c].inFlight with
  | none =>
    rw [State.endQuery_none h]
    exact refl c B s
  | some q =>
    rw [State.endQuery_eq h]
    have he : Chain.Steady 0 s.chains[c] { queryEnded s.chains[c] c q o x with counts := f s.chains[c].counts } :=
      .of_eq rfl rfl (Chain.Steady.unjudged_cycles _) (hv _) (hm _) (hi _)
    exact modChain B s (he.andThen (.startLoop _ c _ _))

theorem queryTargetAbsent (B : BerthIx → Prop) (s : State) (p : PosIx) : Within c B 0 s (s.queryTargetAbsent c p) := by
  unfold State.queryTargetAbsent
  split
  · exact refl c B s
  · exact ite (endQuery B s _ _ (fun _ => rfl) (fun _ => rfl) fun _ => rfl) (refl c B s)

theorem takeToken (B : BerthIx → Prop) (s : State) (p : PosIx) (j : Bool) (k : Byte) (x : AnswerBytes) :
    Within c B 0 s (s.takeToken c p j k x) := by
  unfold State.takeToken
  refine ite (refl c B s) ?_
  split
  · exact ite (endQuery B s _ _ (fun _ => rfl) (fun _ => rfl) fun _ => rfl)
      (countChain B s (fun _ => rfl) (fun _ => rfl) fun _ => rfl)
  · exact countChain B s (fun _ => rfl) (fun _ => rfl) fun _ => rfl

theorem countWindow (B : BerthIx → Prop) (s : State) (j : Bool) : Within c B 0 s (s.countWindow c j) := by
  unfold State.countWindow
  split
  · exact refl c B s
  · next q _ =>
    have h : Within c B 0 s (s.modChain c fun ch => { ch with inFlight := some { q with waited := q.waited + 1 } }) :=
      modChain B s (.of_eq rfl rfl rfl rfl rfl rfl)
    exact ite (ite (h.andThen (endQuery B _ _ _ (fun _ => rfl) (fun _ => rfl) fun _ => rfl)) h) (refl c B s)

/-! ### Berths (R23, R24) -/

theorem settleGoverning (c : ChainIx) (B : BerthIx → Prop) (s : State) : Within c B 0 s s.settleGoverning :=
  of_regoverned c B (.settleGoverning s) (State.settleGoverning_same s)

theorem becomePresent (s : State) (b : BerthIx) : Within (chainOf b) (· = b) 0 s (s.becomePresent b) := by
  rw [State.becomePresent_eq]
  unfold State.entered
  exact (((modBerth _ s b _).andThen (latchPresence _ _ _ _)).andThen (settleGoverning _ _ _)).andThen
    (countChain _ _ (fun _ => rfl) (fun _ => rfl) fun _ => rfl)

theorem enterAbsent (s : State) (b : BerthIx) : Within (chainOf b) (· = b) 0 s (s.enterAbsent b) := by
  unfold State.enterAbsent
  split
  · exact refl _ _ s
  · exact modBerth _ s b _
  · exact (((((modBerth _ s b _).andThen (setCalls _ _ _ _)).andThen (settleGoverning _ _ _)).andThen
      (queryTargetAbsent _ _ _)).andThen (latchPresence _ _ _ _)).andThen
      (countChain _ _ (fun _ => rfl) (fun _ => rfl) fun _ => rfl)

end Within

/-- What writes berths, calls, channels, the management block and one chain. -/
theorem Within.eq {c : ChainIx} {B : BerthIx → Prop} {d : Nat × Nat × Nat} {s t : State} (h : Within c B d s t) :
    t = { s with
      berths := t.berths, calls := t.calls, channels := t.channels, chains := s.chains.set c t.chains[c]
      mgmt := { s.mgmt with presence := t.mgmt.presence } } := by
  have hch : s.chains.set c t.chains[c] = t.chains := by
    refine Vector.ext fun i hi => ?_
    have e := get_set_fin s.chains c ⟨i, hi⟩ t.chains[c]
    split at e
    · next k => exact e.trans (by rw [← k]; rfl)
    · next k => exact e.trans (h.others ⟨i, hi⟩ k).symm
  have hm := h.mgmt
  rw [hch, ← hm]
  obtain ⟨h1, h2, h3, h4, -, h6, -, -, h9, h10, h11, h12, h13, h14, -, h16, -, h18, h19, h20, h21, h22⟩ := h.same
  clear hm hch h
  cases s
  cases t
  simp_all

/-! ### A berth enters ABSENT (R24, R38, R138) -/

/-- R24, R38: the state in which governing is recomputed for a PRESENT berth that enters ABSENT. -/
def State.vacated (s : State) (b : BerthIx) : State :=
  { s.modBerth b presentLeft with calls := s.calls.filter (· ≠ b) }

theorem State.vacated_get (s : State) (b b' : BerthIx) :
    (s.vacated b).berths[b'] = if b' = b then presentLeft s.berths[b] else s.berths[b'] :=
  State.modBerth_get s b b' _

theorem State.enterAbsent_absent {s : State} {b : BerthIx} (h : s.berths[b].presence = .absent) :
    s.enterAbsent b = s := by
  unfold State.enterAbsent
  rw [h]

theorem State.enterAbsent_joining {s : State} {b : BerthIx} (h : s.berths[b].presence = .joining) :
    s.enterAbsent b = s.modBerth b joiningLeft := by
  unfold State.enterAbsent
  rw [h]
  rfl

theorem State.enterAbsent_present {s : State} {b : BerthIx} (h : s.berths[b].presence = .present) :
    s.enterAbsent b = (((s.vacated b).settleGoverning.queryTargetAbsent (chainOf b) (posOf b)).latchPresence
      (chainOf b)).countChain (chainOf b) fun k => { k with presenceLost := bump k.presenceLost } := by
  unfold State.enterAbsent
  rw [h]
  rfl

theorem State.vacated_channels (s : State) (b : BerthIx) : (s.vacated b).channels = s.channels := rfl

/-- R24, R79: the berths of a part after a PRESENT berth entered ABSENT. -/
theorem enterAbsent_get {s : State} {b : BerthIx} (h : s.berths[b].presence = .present) (b' : BerthIx) :
    (s.enterAbsent b).berths[b'] = (s.vacated b).regoverned b' (s.vacated b).berths[b'] := by
  rw [State.enterAbsent_present h, State.countChain_berths, State.latchPresence_berths,
    (State.queryTargetAbsent_same _ _ _).berths (by decide), State.settleGoverning_get]

theorem State.countLoss_get (s : State) (c : ChainIx) :
    (s.countChain c fun k => { k with presenceLost := bump k.presenceLost }).chains[c] =
      s.chains[c].withLosses (bump s.chains[c].counts.presenceLost) := by
  rw [State.countChain_get, if_pos rfl]
  rfl

/-- R24, R138: the record of its chain after a PRESENT berth entered ABSENT. -/
theorem enterAbsent_chain {s : State} {b : BerthIx} (h : s.berths[b].presence = .present) :
    (s.enterAbsent b).chains[chainOf b] =
      ((s.vacated b).settleGoverning.queryTargetAbsent (chainOf b) (posOf b)).chains[chainOf b].withLosses
        (bump ((s.vacated b).settleGoverning.queryTargetAbsent (chainOf b) (posOf b)).chains[chainOf b].counts.presenceLost)
      := by
  rw [State.enterAbsent_present h, State.countLoss_get, State.latchPresence_chains]

/-- R24: what the entry of a PRESENT berth into ABSENT writes of the part. -/
theorem enterAbsent_frame {s : State} {b : BerthIx} (h : s.berths[b].presence = .present) :
    s.enterAbsent b = { s with
      berths := (s.enterAbsent b).berths, calls := s.calls.filter (· ≠ b), channels := (s.enterAbsent b).channels
      chains := s.chains.set (chainOf b) (s.enterAbsent b).chains[chainOf b]
      mgmt := { s.mgmt with presence := s.mgmt.presence.set (chainOf b) true } } := by
  have hw := (Within.enterAbsent s b).eq
  have hcalls : (s.enterAbsent b).calls = s.calls.filter (· ≠ b) := by
    rw [State.enterAbsent_present h, State.countChain_calls, State.latchPresence_calls,
      (State.queryTargetAbsent_same _ _ _).calls (by decide), (State.settleGoverning_same _).calls (by decide)]
    rfl
  have hmgmt : (s.enterAbsent b).mgmt = { s.mgmt with presence := s.mgmt.presence.set (chainOf b) true } := by
    rw [State.enterAbsent_present h, State.countChain_mgmt, State.latchPresence_mgmt,
      (State.queryTargetAbsent_same _ _ _).mgmt (by decide), (State.settleGoverning_same _).mgmt (by decide)]
    rfl
  rw [hcalls, hmgmt] at hw
  exact hw

/-- R24: berths, channels and classes are as the recomputation of governing left them. -/
theorem enterAbsent_settled {s : State} {b : BerthIx} (h : s.berths[b].presence = .present) :
    (s.enterAbsent b).berths = (s.vacated b).settleGoverning.berths ∧
    (s.enterAbsent b).channels = (s.vacated b).settleGoverning.channels ∧
    (s.enterAbsent b).classes = (s.vacated b).settleGoverning.classes := by
  have hsame := State.queryTargetAbsent_same (s.vacated b).settleGoverning (chainOf b) (posOf b)
  rw [State.enterAbsent_present h, State.countChain_berths, State.latchPresence_berths, hsame.berths (by decide),
    State.countChain_channels, State.latchPresence_channels, hsame.channels (by decide), State.countChain_classes,
    State.latchPresence_classes, hsame.classes (by decide)]
  exact ⟨rfl, rfl, rfl⟩

/-- R24, R79: after a departure governing is as the rule says. -/
theorem enterAbsent_governed {s : State} {b : BerthIx} (h : s.berths[b].presence = .present) :
    Governed (s.enterAbsent b) :=
  (State.settleGoverning_governed _).congr (enterAbsent_settled h).1 (enterAbsent_settled h).2.1

/-- R24, R79: the other berths stay, where governing was as the rule says. -/
theorem enterAbsent_others {s : State} {b b' : BerthIx} (h : s.berths[b].presence = .present) (hg : Governed s)
    (hne : b' ≠ b) : (s.enterAbsent b).berths[b'] = s.berths[b'] := by
  rw [(enterAbsent_settled h).1]
  exact Governed.settleGoverning_get hg (s.vacated_channels b) (by rw [State.vacated_get, if_neg hne])

/-- R24, R79: a departure leaves the other berths that are not PRESENT. -/
theorem enterAbsent_away {s : State} {b b' : BerthIx} (h : s.berths[b].presence = .present)
    (hne : b' ≠ b) (hp : s.berths[b'].presence ≠ .present) : (s.enterAbsent b).berths[b'] = s.berths[b'] := by
  rw [enterAbsent_get h, State.vacated_get, if_neg hne]
  exact if_neg hp

/-- R24, R38, R138: what entering ABSENT makes of the part. -/
theorem enterAbsent_spec {s : State} {b : BerthIx} (h : s.berths[b].presence = .present) :
    EntersAbsent s (s.enterAbsent b) b := by
  have hown : (s.enterAbsent b).berths[b] = presentLeft s.berths[b] := by
    rw [enterAbsent_get h, State.vacated_get, if_pos rfl]
    exact if_neg nofun
  obtain ⟨hberths, hchannels, hclasses⟩ := enterAbsent_settled h
  have hchain : (s.vacated b).settleGoverning.chains[chainOf b] = s.chains[chainOf b] := by
    rw [(State.settleGoverning_same _).chains (by decide)]
    rfl
  refine ⟨enterAbsent_frame h, hown, fun b' hne => ?_, fun hlaw b' hne => ?_, fun a => ?_, fun hq => ?_, fun q hq hp => ?_⟩
  · rw [enterAbsent_get h, State.vacated_get, if_neg hne]
    exact regoverned_only _ _ _
  · exact enterAbsent_others h (governed_of_law hlaw) hne
  · have hr := State.settleGoverning_released (s.vacated b) a
    rw [s.vacated_channels b] at hr
    exact hr.congr hberths hchannels hclasses
  · rw [enterAbsent_chain h, State.queryTargetAbsent_kept (by rwa [hchain]), hchain]
    rfl
  · have hq' := hq
    rw [← hchain] at hq'
    have hn := State.endQuery_next hq' .absent none fun k => { k with absentOutcomes := bump k.absentOutcomes }
    rw [hchain, ← State.queryTargetAbsent_ends hq' hp] at hn
    have hlost : ((s.vacated b).settleGoverning.queryTargetAbsent (chainOf b)
        (posOf b)).chains[chainOf b].counts.presenceLost = s.chains[chainOf b].counts.presenceLost := by
      rw [State.queryTargetAbsent_ends hq' hp, State.endQuery_eq hq', State.modChain_get, if_pos rfl,
        startLoop_presenceLost, hchain]
    rw [enterAbsent_chain h, hlost]
    exact (hn.congr hberths).lost _

end Sys2Proof.Machine
end

section
/-! PROOF. The rows of a berth that becomes PRESENT and of one that enters ABSENT (R21, R22). -/

open Sys2Proof
open Sys2Proof.Machine

/-- Settles O30: the row's trigger holds, and what becoming PRESENT makes of the part is `becomePresent_spec`. -/
theorem berthJoins : Obligations.BerthJoins := fun b s hh hj hv => by
  refine ⟨s.becomePresent b, (exec_free hh _).trans (congrArg _ ?_), becomePresent_spec s b⟩
  exact if_pos ⟨hj, hv.ge⟩

/-- Settles O31: the row's trigger holds, and what entering ABSENT makes of the part is `enterAbsent_spec`. -/
theorem berthLeaves : Obligations.BerthLeaves := fun b s hh hp hm => by
  refine ⟨s.enterAbsent b, (exec_free hh _).trans (congrArg _ ?_), enterAbsent_spec hp⟩
  exact if_pos ⟨hp, hm.ge⟩

end

section
/-! PROOF. Returns and return windows: what they leave outside their chain, and what the close of a window makes of presence
and slots (R20 to R22, R26, R134, R138). -/

namespace Sys2Proof.Machine

/-! ### Berths and their places -/

theorem chainOf_berthAt (c : ChainIx) (p : PosIx) : chainOf (berthAt c p) = c :=
  Fin.ext (by show (c.val * 8 + p.val) / 8 = c.val; omega)

theorem posOf_berthAt (c : ChainIx) (p : PosIx) : posOf (berthAt c p) = p :=
  Fin.ext (by show (c.val * 8 + p.val) % 8 = p.val; omega)

theorem berthAt_chainOf_posOf (b : BerthIx) : berthAt (chainOf b) (posOf b) = b :=
  Fin.ext (by show b.val / 8 * 8 + b.val % 8 = b.val; omega)

theorem berthAt_inj {c : ChainIx} {p p' : PosIx} (h : berthAt c p = berthAt c p') : p = p' := by
  rw [← posOf_berthAt c p, h, posOf_berthAt]

/-- R26: the state after presence advanced by a valid return and its status recorded. -/
def State.noted (s : State) (b : BerthIx) (r : ReturnData) : State :=
  if (s.advanceValid b).berths[b].presence = .absent then s.advanceValid b
  else (s.advanceValid b).recordStatus b r.headphone r.unitFault

/-- R26: the steps of a valid return. -/
theorem State.takeReturn_eq (s : State) (b : BerthIx) (j : Bool) (r : ReturnData) : s.takeReturn b j r =
    (((s.noted b r).takeKey b (s.present b) r.key1).takeKey b (s.present b) r.key2).takeToken (chainOf b) (posOf b) j
      r.token r.answer := rfl

namespace Within

/-! ### Returns -/

theorem advanceValid (s : State) (b : BerthIx) : Within (chainOf b) (· = b) 0 s (s.advanceValid b) := by
  unfold State.advanceValid
  split
  · exact modBerth _ s b _
  · exact ite (modBerth _ s b _) (becomePresent s b)
  · exact modBerth _ s b _

theorem advanceMissing (s : State) (b : BerthIx) : Within (chainOf b) (· = b) 0 s (s.advanceMissing b) := by
  unfold State.advanceMissing
  split
  · exact refl _ _ s
  · exact enterAbsent s b
  · exact ite (modBerth _ s b _) (enterAbsent s b)

theorem recordStatus (s : State) (b : BerthIx) (x y : Bool) : Within (chainOf b) (· = b) 0 s (s.recordStatus b x y) := by
  unfold State.recordStatus
  exact (modBerth _ s b _).andThen (countChain _ _ (fun _ => rfl) (fun _ => rfl) fun _ => rfl)

theorem placeCall (s : State) (b : BerthIx) : Within (chainOf b) (· = b) 0 s (s.placeCall b) :=
  ite (refl _ _ s) ((setCalls _ _ s _).andThen (countChain _ _ (fun _ => rfl) (fun _ => rfl) fun _ => rfl))

theorem takeKey (s : State) (b : BerthIx) (w : Bool) (code : Byte) :
    Within (chainOf b) (· = b) 0 s (s.takeKey b w code) := by
  unfold State.takeKey
  refine ite (refl _ _ s) ?_
  split
  · next k _ =>
    have h : Within (chainOf b) (· = b) 0 s ((s.modBerth b (s.keyed k)).countChain (chainOf b)
        fun n => { n with keysApplied := bump n.keysApplied }) :=
      (modBerth _ s b _).andThen (countChain _ _ (fun _ => rfl) (fun _ => rfl) fun _ => rfl)
    exact ite (h.andThen (placeCall _ b)) h
  · exact countChain _ s (fun _ => rfl) (fun _ => rfl) fun _ => rfl

theorem takeReturn (s : State) (b : BerthIx) (j : Bool) (r : ReturnData) :
    Within (chainOf b) (· = b) 0 s (s.takeReturn b j r) :=
  ((((advanceValid s b).andThen (ite (refl _ _ _) (recordStatus _ b _ _))).andThen (takeKey _ b _ _)).andThen
    (takeKey _ b _ _)).andThen (takeToken _ _ _ _ _ _)

/-! ### Slots and windows -/

end Within

/-- R134: whether a slot is counted as valid, missing or invalid. -/
def slotCounted (slot : Option SlotBytes) : Nat × Nat × Nat :=
  match judgeSlot slot with
  | .valid _ => (1, 0, 0)
  | .missing => (0, 1, 0)
  | .invalid => (0, 0, 1)

namespace Within

theorem takeSlot (s : State) (c : ChainIx) (j : Bool) (p : PosIx) (slot : Option SlotBytes) :
    Within c (· = berthAt c p) (slotCounted slot) s (s.takeSlot c j p slot) := by
  have hc := chainOf_berthAt c p
  have counted : ∀ {f : ChainCounts → ChainCounts} {d : Nat × Nat × Nat} {t : State},
      Within c (· = berthAt c p) 0 (s.countChain c f) t →
      Chain.Steady d s.chains[c] { s.chains[c] with counts := f s.chains[c].counts } →
      Within c (· = berthAt c p) d s t := by
    intro f d t k h
    have hk := (modChain (· = berthAt c p) s h).trans k
    rwa [add_zero] at hk
  unfold State.takeSlot slotCounted
  cases judgeSlot slot with
  | missing =>
    have hk := advanceMissing (s.countChain c fun k => { k with returnsMissing := bump k.returnsMissing }) (berthAt c p)
    rw [hc] at hk
    exact counted hk ⟨rfl, rfl, rfl, (addCount_zero _).symm, rfl, (addCount_zero _).symm⟩
  | invalid =>
    have hk := advanceMissing (s.countChain c fun k => { k with returnsInvalid := bump k.returnsInvalid }) (berthAt c p)
    rw [hc] at hk
    exact counted hk ⟨rfl, rfl, rfl, (addCount_zero _).symm, (addCount_zero _).symm, rfl⟩
  | valid r =>
    have hk := takeReturn (s.countChain c fun k => { k with returnsValid := bump k.returnsValid }) (berthAt c p) j r
    rw [hc] at hk
    exact counted hk ⟨rfl, rfl, rfl, rfl, (addCount_zero _).symm, (addCount_zero _).symm⟩

/-- R134: the close of a window. -/
theorem closeWindow (s : State) (c : ChainIx) (j : Bool) (slots : ReturnSlots) :
    Within c (chainOf · = c) ((List.finRange 8).map fun p => slotCounted slots[p]).sum s (s.closeWindow c j slots) := by
  have h : Within c (chainOf · = c) ((List.finRange 8).map fun p => slotCounted slots[p]).sum s
      ((List.finRange 8).foldl (fun s p => s.takeSlot c j p slots[p]) s) :=
    foldl (fun s p => (takeSlot s c j p slots[p]).widen fun b e => e ▸ chainOf_berthAt c p) _ s
  have hk := h.trans (countWindow _ _ j)
  rwa [add_zero] at hk

end Within
end Sys2Proof.Machine
end

section
/-! PROOF. The keys of a berth unit and the circular order of selections (R29 to R33). -/

namespace Sys2Proof.Machine

/-! ### The circular order of selections (R33) -/

/-- The head of an ascending list is its least member. -/
theorem head?_ascending {l : List StreamIx} (hs : l.Pairwise (· < ·)) (v : StreamIx) :
    l.head? = some v ↔ v ∈ l ∧ ∀ w ∈ l, v ≤ w := by
  cases hs with
  | nil => simp
  | @cons x xs hx _ =>
    rw [List.head?_cons, Option.some.injEq]
    constructor
    · rintro rfl
      exact ⟨List.mem_cons_self, fun w hw => (List.mem_cons.1 hw).elim (fun e => e.ge) fun hw => (hx w hw).le⟩
    · rintro ⟨hv, hmin⟩
      exact (List.mem_cons.1 hv).elim Eq.symm fun hv => absurd (hmin x List.mem_cons_self) (hx v hv).not_ge

/-- The last of an ascending list is its greatest member. -/
theorem getLast?_ascending {l : List StreamIx} (hs : l.Pairwise (· < ·)) (v : StreamIx) :
    l.getLast? = some v ↔ v ∈ l ∧ ∀ w ∈ l, w ≤ v := by
  constructor
  · intro h
    obtain ⟨ys, rfl⟩ := List.getLast?_eq_some_iff.1 h
    refine ⟨by simp, fun w hw => (List.mem_append.1 hw).elim (fun hw => ?_) fun hw => (List.mem_singleton.1 hw).le⟩
    exact ((List.pairwise_append.1 hs).2.2 w hw v (List.mem_singleton.2 rfl)).le
  · rintro ⟨hv, hmax⟩
    cases h : l.getLast? with
    | none => simp [List.getLast?_eq_none_iff.1 h] at hv
    | some x =>
      obtain ⟨ys, rfl⟩ := List.getLast?_eq_some_iff.1 h
      obtain hv | hv := List.mem_append.1 hv
      · have hlt := (List.pairwise_append.1 hs).2.2 v hv x (List.mem_singleton.2 rfl)
        exact absurd (hmax x (by simp)) hlt.not_ge
      · rw [List.mem_singleton.1 hv]

/-- R33: whether `w` stands above the selection `cur`; none stands below every choice. -/
def Above (cur : Option StreamIx) (w : StreamIx) : Prop := ∀ u, cur = some u → u < w

/-- R33: whether `w` stands below the selection `cur`; none stands above every choice too. -/
def Below (cur : Option StreamIx) (w : StreamIx) : Prop := ∀ u, cur = some u → w < u

section Ascending

variable {cs : List StreamIx} (hs : cs.Pairwise (· < ·))
include hs

/-- R33: NEXT gives the lowest choice above. -/
theorem stepNext_some (cur : Option StreamIx) (v : StreamIx) :
    stepNext cs cur = some v ↔ v ∈ cs ∧ Above cur v ∧ ∀ w ∈ cs, Above cur w → v ≤ w := by
  cases cur with
  | none => simp [stepNext, head?_ascending hs, Above]
  | some u =>
    unfold stepNext
    rw [head?_ascending (hs.filter _)]
    simp [Above, and_assoc]

omit hs in
/-- R33: NEXT gives none only where no choice is above. -/
theorem stepNext_none (cur : Option StreamIx) : stepNext cs cur = none ↔ ∀ w ∈ cs, ¬ Above cur w := by
  cases cur with
  | none => simp [stepNext, Above, List.eq_nil_iff_forall_not_mem]
  | some u => simp [stepNext, Above]

/-- R33: PREV gives the highest choice below. -/
theorem stepPrev_some (cur : Option StreamIx) (v : StreamIx) :
    stepPrev cs cur = some v ↔ v ∈ cs ∧ Below cur v ∧ ∀ w ∈ cs, Below cur w → w ≤ v := by
  cases cur with
  | none => simp [stepPrev, getLast?_ascending hs, Below]
  | some u =>
    unfold stepPrev
    rw [getLast?_ascending (hs.filter _)]
    simp [Below, and_assoc]

omit hs in
/-- R33: PREV gives none only where no choice is below. -/
theorem stepPrev_none (cur : Option StreamIx) : stepPrev cs cur = none ↔ ∀ w ∈ cs, ¬ Below cur w := by
  cases cur with
  | none => simp [stepPrev, Below, List.eq_nil_iff_forall_not_mem]
  | some u => simp [stepPrev, Below]

/-- R33: PREV undoes NEXT on a selection in the order. -/
theorem stepPrev_stepNext {cur : Option StreamIx} (hc : ∀ u, cur = some u → u ∈ cs) :
    stepPrev cs (stepNext cs cur) = cur := by
  cases hn : stepNext cs cur with
  | none =>
    rw [stepNext_none] at hn
    cases cur with
    | none => exact (stepPrev_none none).2 fun w hw => absurd nofun (hn w hw)
    | some u =>
      refine (stepPrev_some hs none u).2 ⟨hc u rfl, nofun, fun w hw _ => not_lt.1 fun hlt => hn w hw ?_⟩
      exact fun x hx => Option.some.inj hx ▸ hlt
  | some v =>
    obtain ⟨hv, habove, hmin⟩ := (stepNext_some hs cur v).1 hn
    cases cur with
    | none =>
      refine (stepPrev_none _).2 fun w hw hb => (hb v rfl).not_ge (hmin w hw nofun)
    | some u =>
      refine (stepPrev_some hs _ u).2 ⟨hc u rfl, fun x hx => Option.some.inj hx ▸ habove u rfl, fun w hw hb => ?_⟩
      exact not_lt.1 fun hlt => (hb v rfl).not_ge (hmin w hw fun x hx => Option.some.inj hx ▸ hlt)

/-- R33: NEXT undoes PREV on a selection in the order. -/
theorem stepNext_stepPrev {cur : Option StreamIx} (hc : ∀ u, cur = some u → u ∈ cs) :
    stepNext cs (stepPrev cs cur) = cur := by
  cases hn : stepPrev cs cur with
  | none =>
    rw [stepPrev_none] at hn
    cases cur with
    | none => exact (stepNext_none none).2 fun w hw => absurd nofun (hn w hw)
    | some u =>
      refine (stepNext_some hs none u).2 ⟨hc u rfl, nofun, fun w hw _ => not_lt.1 fun hlt => hn w hw ?_⟩
      exact fun x hx => Option.some.inj hx ▸ hlt
  | some v =>
    obtain ⟨hv, hbelow, hmax⟩ := (stepPrev_some hs cur v).1 hn
    cases cur with
    | none =>
      refine (stepNext_none _).2 fun w hw hb => (hb v rfl).not_ge (hmax w hw nofun)
    | some u =>
      refine (stepNext_some hs _ u).2 ⟨hc u rfl, fun x hx => Option.some.inj hx ▸ hbelow u rfl, fun w hw hb => ?_⟩
      exact not_lt.1 fun hlt => (hb v rfl).not_ge (hmax w hw fun x hx => Option.some.inj hx ▸ hlt)

end Ascending

theorem State.choices_ascending (s : State) (k : StreamKind) (allowed : BitVec 32) :
    (s.choices k allowed).Pairwise (· < ·) :=
  (List.pairwise_lt_finRange 32).filter _

theorem State.mem_choices (s : State) (k : StreamKind) (allowed : BitVec 32) (v : StreamIx) :
    v ∈ s.choices k allowed ↔ s.streams[v].kind = some k ∧ allowed.getLsbD v.val = true := by
  unfold State.choices
  rw [List.mem_filter, State.choosable_iff]
  simp

/-! ### Keys (R29 to R32) -/

theorem levelUp_val (l : Level) : (levelUp l).val = min 15 (l.val + 1) := by
  unfold levelUp
  split
  · next h => show l.val + 1 = _; omega
  · omega

theorem levelDown_val (l : Level) : (levelDown l).val = l.val - 1 := rfl

theorem Berth.woken_present {r : Berth} (h : r.presence = .present) : r.woken = { r with awake := .awake, idle := 0 } :=
  if_pos h

theorem Berth.woken_only (r : Berth) : r.woken = { r with
    awake := r.woken.awake, idle := r.woken.idle, level := r.woken.level, audio := r.woken.audio
    video := r.woken.video } := by
  unfold Berth.woken
  split <;> rfl

theorem Berth.woken_selections (r : Berth) : r.woken.audio = r.audio ∧ r.woken.video = r.video := by
  unfold Berth.woken
  split <;> exact ⟨rfl, rfl⟩

/-- R30: a key on a sleeping berth. -/
theorem State.keyed_asleep (s : State) (k : Key) {b : Berth} (h : b.awake = .asleep) :
    s.keyed k b = s.keyOnAsleep k b := if_pos h

/-- R31: a key on a berth that does not sleep. -/
theorem State.keyed_awake (s : State) (k : Key) {b : Berth} (h : b.awake ≠ .asleep) :
    s.keyed k b = s.keyOnAwake k { b with awake := .awake, idle := 0 } := if_neg h

/-- R29 to R32: what a key leaves of the record. -/
theorem State.keyed_only (s : State) (k : Key) (b : Berth) : s.keyed k b = { b with
    awake := (s.keyed k b).awake, idle := (s.keyed k b).idle, level := (s.keyed k b).level
    audio := (s.keyed k b).audio, video := (s.keyed k b).video } := by
  by_cases h : b.awake = .asleep
  · rw [s.keyed_asleep k h]
    cases k with
    | videoNext => exact b.woken_only
    | videoPrev => exact b.woken_only
    | screen => exact b.woken_only
    | touch => exact b.woken_only
    | volumeUp => rfl
    | volumeDown => rfl
    | audioNext => rfl
    | audioPrev => rfl
    | call => rfl
  · rw [s.keyed_awake k h]
    cases k <;> rfl

end Sys2Proof.Machine

open Sys2Proof
open Sys2Proof.Machine

/-- Settles O29: the codes by evaluation, the keys by the two kinds of berth and the key, the circular order by what NEXT
and PREV give on an ascending list of choices. -/
theorem keyRules : Obligations.KeyRules := by
  refine ⟨by decide, fun s k b hp => ?_, fun s kind allowed cur hcur => ?_⟩
  · refine ⟨s.keyed_only k b, ?_⟩
    by_cases h : b.awake = .asleep
    · rw [s.keyed_asleep k h]
      cases k <;> simp [State.keyOnAsleep, Berth.woken_present hp, h, levelUp_val, levelDown_val]
    · rw [s.keyed_awake k h]
      cases k <;> simp [State.keyOnAwake, h, levelUp_val, levelDown_val]
  · have hs := s.choices_ascending kind allowed
    have hc : ∀ u, cur = some u → u ∈ s.choices kind allowed := fun u h => (s.mem_choices kind allowed u).2 (hcur u h)
    refine ⟨stepPrev_stepNext hs hc, stepNext_stepPrev hs hc, fun v hv => ?_, fun hn w hk ha => ?_⟩
    · obtain ⟨hm, -, hmin⟩ := (stepNext_some hs cur v).1 hv
      obtain ⟨h1, h2⟩ := (s.mem_choices kind allowed v).1 hm
      exact ⟨h1, h2, fun w hk ha habove => hmin w ((s.mem_choices kind allowed w).2 ⟨hk, ha⟩) habove⟩
    · have hw := (stepNext_none cur).1 hn w ((s.mem_choices kind allowed w).2 ⟨hk, ha⟩)
      unfold Above at hw
      push Not at hw
      exact hw
end

section
/-! PROOF. Berths of a chain that enter ABSENT one after the other, and the stop of a chain (R24, R25, R123, R129). -/

namespace Sys2Proof.Machine

/-! ### Releases that follow one another (R81) -/

/-- R81: a channel released before is released no further, where the berths that wait can only have become fewer. -/
theorem Released.again {u t : State} {a : ChannelIx} {ch : Channel} (h : Released u a ch)
    (k : Released t a u.channels[a]) (hw : Waits t a → Waits u a) (hcl : t.classes = u.classes) : Released t a ch := by
  rw [released_iff] at h k ⊢
  obtain ⟨h1, h2⟩ := h
  obtain ⟨k1, k2⟩ := k
  rw [hcl] at k2 ⊢
  have freed : ch.state = .ducking → ¬ Waits u a → t.channels[a] = ch.freed (ch.leadUnder u.classes) := fun hd hu => by
    rw [h2 hd hu] at k1
    exact k1 (.inl (ch.freed_state _))
  refine ⟨fun hs => ?_, fun hd ht => ?_⟩
  · obtain hs | hs := hs
    · rw [h1 (.inl hs)] at k1
      exact k1 (.inl hs)
    · rw [h1 (.inr (hw hs))] at k1
      exact k1 (.inr hs)
  · by_cases hu : Waits u a
    · rw [h1 (.inr hu)] at k2
      exact k2 hd ht
    · exact freed hd hu

/-- R81: a release looks at the berths that wait, the channel and its class. -/
theorem Released.kept {u t : State} {a : ChannelIx} {ch : Channel} (h : Released u a ch)
    (hch : t.channels[a] = u.channels[a]) (hw : Waits t a ↔ Waits u a) (hcl : t.classes = u.classes) :
    Released t a ch := by
  rw [released_iff] at h ⊢
  rwa [hch, hw, hcl]

/-! ### Berths that depart -/

/-- R24: the record of a berth that enters ABSENT, from any presence. -/
def Berth.departed (r : Berth) : Berth :=
  match r.presence with
  | .absent => r
  | .joining => joiningLeft r
  | .present => presentLeft r

theorem Berth.departed_absent (r : Berth) : r.departed.presence = .absent := by
  unfold Berth.departed
  split
  · assumption
  · rfl
  · rfl

/-- The PRESENT berths among some positions of chain `c`. -/
def State.seated (s : State) (c : ChainIx) (ps : List PosIx) : List BerthIx :=
  (ps.filter fun p => s.present (berthAt c p)).map (berthAt c)

theorem State.seated_append (s : State) (c : ChainIx) (ps qs : List PosIx) :
    s.seated c (ps ++ qs) = s.seated c ps ++ s.seated c qs := by
  simp [State.seated]

theorem State.mem_seated (s : State) (c : ChainIx) (ps : List PosIx) (b : BerthIx) :
    b ∈ s.seated c ps ↔ s.berths[b].presence = .present ∧ ∃ p ∈ ps, berthAt c p = b := by
  simp only [State.seated, State.present, List.mem_map, List.mem_filter, beq_iff_eq]
  constructor
  · rintro ⟨p, ⟨hp, hb⟩, rfl⟩
    exact ⟨hb, p, hp, rfl⟩
  · rintro ⟨hb, p, hp, rfl⟩
    exact ⟨p, ⟨hp, hb⟩, rfl⟩

theorem State.seated_congr {s t : State} {c : ChainIx} {ps : List PosIx}
    (h : ∀ p ∈ ps, t.berths[berthAt c p].presence = s.berths[berthAt c p].presence) : t.seated c ps = s.seated c ps := by
  unfold State.seated State.present
  rw [List.filter_congr fun p hp => by rw [h p hp]]

theorem State.seated_one (s : State) (c : ChainIx) (p : PosIx) :
    s.seated c [p] = if s.berths[berthAt c p].presence = .present then [berthAt c p] else [] := by
  unfold State.seated State.present
  by_cases h : s.berths[berthAt c p].presence = .present
  · rw [if_pos h, List.filter_cons, if_pos (beq_iff_eq.2 h)]
    rfl
  · rw [if_neg h, List.filter_cons, if_neg fun k => h (beq_iff_eq.1 k)]
    rfl

/-- R24, R25: from `s` to `t` the berths at the positions `ps` of chain `c` entered ABSENT. -/
structure Departed (c : ChainIx) (ps : List PosIx) (s t : State) : Prop where
  within : Within c (fun b => ∃ p ∈ ps, berthAt c p = b) 0 s t
  left : ∀ p ∈ ps, t.berths[berthAt c p] = s.berths[berthAt c p].departed
  others : ∀ b : BerthIx, (¬ ∃ p ∈ ps, berthAt c p = b) → s.berths[b].presence ≠ .present → t.berths[b] = s.berths[b]
  governed : Governed s → Governed t ∧ ∀ b : BerthIx, (¬ ∃ p ∈ ps, berthAt c p = b) → t.berths[b] = s.berths[b]
  calls : t.calls = s.calls.filter (· ∉ s.seated c ps)
  flags : ∀ c' : ChainIx, t.mgmt.presence[c'] = true ↔ s.mgmt.presence[c'] = true ∨ c' = c ∧ s.seated c ps ≠ []
  still : s.seated c ps = [] → t.channels = s.channels
  released : s.seated c ps ≠ [] → Governed t ∧ ∀ a : ChannelIx, Released t a s.channels[a]
  chain : s.chains[c].inFlight = none → t.chains[c] =
    s.chains[c].withLosses (addCount s.chains[c].counts.presenceLost (s.seated c ps).length)

namespace Departed

theorem nil (c : ChainIx) (s : State) : Departed c [] s s where
  within := .refl c _ s
  left := by simp
  others _ _ _ := rfl
  governed h := ⟨h, fun _ _ => rfl⟩
  calls := by simp [State.seated]
  flags c' := by simp [State.seated]
  still _ := rfl
  released h := absurd rfl h
  chain _ := by
    simp only [State.seated, List.filter_nil, List.map_nil, List.length_nil, addCount_zero]
    rfl

section Trans

variable {c : ChainIx} {ps qs : List PosIx} {s u t : State} (h : Departed c ps s u) (k : Departed c qs u t)
  (hd : ∀ p ∈ ps, p ∉ qs)
include h hd

omit h in
theorem apart {q : PosIx} (hq : q ∈ qs) : ¬ ∃ p ∈ ps, berthAt c p = berthAt c q := by
  rintro ⟨p, hp, e⟩
  exact hd p hp (berthAt_inj e ▸ hq)

theorem presence_after {q : PosIx} (hq : q ∈ qs) :
    u.berths[berthAt c q].presence = s.berths[berthAt c q].presence := by
  rw [h.within.berths _ (apart hd hq)]

theorem seated_after : u.seated c qs = s.seated c qs := State.seated_congr fun _ => h.presence_after hd

include k

omit h hd in
/-- R81: what waits after both departures waited after the first, where governing was as R79 says then. -/
theorem waits_after (hg : Governed u) {a : ChannelIx} (hw : Waits t a) : Waits u a := by
  obtain ⟨b, hp, hgov, hm⟩ := hw
  by_cases hb : ∃ q ∈ qs, berthAt c q = b
  · obtain ⟨q, hq, rfl⟩ := hb
    rw [k.left q hq, Berth.departed_absent] at hp
    cases hp
  · rw [(k.governed hg).2 b hb] at hp hgov hm
    exact ⟨b, hp, hgov, hm⟩

theorem waits_kept (hg : Governed u) (he : s.seated c qs = []) {a : ChannelIx} (hw : Waits u a) : Waits t a := by
  obtain ⟨b, hp, hgov, hm⟩ := hw
  have hb : ¬ ∃ q ∈ qs, berthAt c q = b := by
    intro hb
    have hmem := (u.mem_seated c qs b).2 ⟨hp, hb⟩
    rw [h.seated_after hd, he] at hmem
    cases hmem
  rw [← (k.governed hg).2 b hb] at hp hgov hm
  exact ⟨b, hp, hgov, hm⟩

theorem released_trans (hne : s.seated c (ps ++ qs) ≠ []) : Governed t ∧ ∀ a : ChannelIx, Released t a s.channels[a] := by
  have hcl : t.classes = u.classes := k.within.same.classes (by decide)
  have hse := h.seated_after hd
  by_cases hq : s.seated c qs = []
  · have hp : s.seated c ps ≠ [] := fun hp => hne (by rw [State.seated_append, hp, hq]; rfl)
    obtain ⟨hg, hr⟩ := h.released hp
    have hch := k.still (hse.trans hq)
    exact ⟨(k.governed hg).1, fun a => (hr a).kept (by rw [hch])
      ⟨k.waits_after hg, h.waits_kept k hd hg hq⟩ hcl⟩
  · obtain ⟨hgt, hr⟩ := k.released (hse ▸ hq)
    refine ⟨hgt, fun a => ?_⟩
    by_cases hp : s.seated c ps = []
    · rw [← h.still hp]
      exact hr a
    · obtain ⟨hg, hr'⟩ := h.released hp
      exact (hr' a).again (hr a) (k.waits_after hg) hcl

theorem trans : Departed c (ps ++ qs) s t := by
  have hse := h.seated_after hd
  have outside : ∀ {b : BerthIx}, (¬ ∃ p ∈ ps ++ qs, berthAt c p = b) →
      (¬ ∃ p ∈ ps, berthAt c p = b) ∧ ¬ ∃ p ∈ qs, berthAt c p = b := fun hb =>
    ⟨fun ⟨p, hp, e⟩ => hb ⟨p, List.mem_append_left _ hp, e⟩, fun ⟨p, hp, e⟩ => hb ⟨p, List.mem_append_right _ hp, e⟩⟩
  refine ⟨?_, fun p hp => ?_, fun b hb hp => ?_, fun hg => ?_, ?_, fun c' => ?_, fun he => ?_, h.released_trans k hd,
    fun hn => ?_⟩
  · exact (h.within.widen fun b ⟨p, hp, e⟩ => ⟨p, List.mem_append_left _ hp, e⟩).andThen
      (k.within.widen fun b ⟨p, hp, e⟩ => ⟨p, List.mem_append_right _ hp, e⟩)
  · obtain hp | hp := List.mem_append.1 hp
    · have hl := h.left p hp
      rw [k.others _ (fun ⟨q, hq, e⟩ => hd p hp (berthAt_inj e ▸ hq)) (by rw [hl, Berth.departed_absent]; exact nofun), hl]
    · rw [k.left p hp]
      by_cases hpres : s.berths[berthAt c p].presence = .present
      · have hu := (h.presence_after hd hp).trans hpres
        unfold Berth.departed
        rw [hu, hpres]
        dsimp only
        rw [h.within.berths _ (apart hd hp)]
        rfl
      · rw [h.others _ (apart hd hp) hpres]
  · obtain ⟨h1, h2⟩ := outside hb
    have hu := h.others b h1 hp
    rw [k.others b h2 (by rwa [hu]), hu]
  · obtain ⟨hgu, hs⟩ := h.governed hg
    obtain ⟨hgt, hu⟩ := k.governed hgu
    refine ⟨hgt, fun b hb => ?_⟩
    obtain ⟨h1, h2⟩ := outside hb
    rw [hu b h2, hs b h1]
  · rw [k.calls, h.calls, hse, List.filter_filter, State.seated_append]
    refine List.filter_congr fun b _ => ?_
    simp [Bool.and_comm]
  · rw [k.flags, h.flags, hse, State.seated_append, ne_eq, ne_eq, ne_eq, List.append_eq_nil_iff]
    tauto
  · rw [State.seated_append, List.append_eq_nil_iff] at he
    rw [k.still (hse.trans he.2), h.still he.1]
  · have hu := h.chain hn
    have hi : u.chains[c].inFlight = none := by
      rw [hu]
      exact hn
    rw [k.chain hi, hse, hu, State.seated_append, List.length_append, ← addCount_addCount]
    rfl

end Trans

/-- R24: one berth that enters ABSENT. -/
theorem one (s : State) (c : ChainIx) (p : PosIx) : Departed c [p] s (s.enterAbsent (berthAt c p)) := by
  have hw := Within.enterAbsent s (berthAt c p)
  rw [chainOf_berthAt] at hw
  have within : Within c (fun b => ∃ p' ∈ [p], berthAt c p' = b) 0 s (s.enterAbsent (berthAt c p)) :=
    hw.widen fun b e => ⟨p, List.mem_singleton.2 rfl, e.symm⟩
  have other : ∀ {b : BerthIx}, (¬ ∃ p' ∈ [p], berthAt c p' = b) → b ≠ berthAt c p := fun hb e =>
    hb ⟨p, List.mem_singleton.2 rfl, e.symm⟩
  have hseat := s.seated_one c p
  cases hp : s.berths[berthAt c p].presence with
  | absent =>
    rw [hp, if_neg nofun] at hseat
    have he := State.enterAbsent_absent hp
    refine ⟨within, fun p' hp' => ?_, fun _ _ _ => by rw [he], fun hg => by rw [he]; exact ⟨hg, fun _ _ => rfl⟩, ?_, fun c' => ?_,
      fun _ => by rw [he], fun h => absurd hseat h, fun _ => ?_⟩
    · rw [List.mem_singleton.1 hp', he]
      unfold Berth.departed
      rw [hp]
    · rw [he, hseat]
      simp
    · rw [he, hseat]
      simp
    · rw [he, hseat, List.length_nil, addCount_zero]
      rfl
  | joining =>
    rw [hp, if_neg nofun] at hseat
    have he := State.enterAbsent_joining hp
    have hsame := State.modBerth_same s (berthAt c p) joiningLeft
    have hget : ∀ {b : BerthIx}, b ≠ berthAt c p → (s.modBerth (berthAt c p) joiningLeft).berths[b] = s.berths[b] :=
      fun hb => by rw [State.modBerth_get, if_neg hb]
    refine ⟨within, fun p' hp' => ?_, fun b hb _ => by rw [he, hget (other hb)], fun hg => ?_, ?_, fun c' => ?_,
      fun _ => by rw [he]; exact hsame.channels (by decide), fun h => absurd hseat h, fun _ => ?_⟩
    · rw [List.mem_singleton.1 hp', he, State.modBerth_get, if_pos rfl]
      unfold Berth.departed
      rw [hp]
    · rw [he]
      refine ⟨fun b hb => ?_, fun b hb => hget (other hb)⟩
      by_cases e : b = berthAt c p
      · rw [e, State.modBerth_get, if_pos rfl] at hb
        cases hb
      · rw [hget e] at hb ⊢
        exact (hg b hb).trans (chooseGoverning_congr (fun a b => by rw [hsame.channels (by decide)]) b).symm
    · rw [he, hseat, hsame.calls (by decide)]
      simp
    · rw [he, hseat, hsame.mgmt (by decide)]
      simp
    · rw [he, hseat, List.length_nil, addCount_zero, hsame.chains (by decide)]
      rfl
  | present =>
    rw [hp, if_pos rfl] at hseat
    obtain ⟨hframe, hown, hothers, -, hreleased, hchain, -⟩ := enterAbsent_spec hp
    have hgov : Governed (s.enterAbsent (berthAt c p)) := enterAbsent_governed hp
    have hcalls : (s.enterAbsent (berthAt c p)).calls = s.calls.filter (· ≠ berthAt c p) := congrArg State.calls hframe
    have hflag : ∀ {c'}, chainOf (berthAt c p) = c' →
        (s.enterAbsent (berthAt c p)).mgmt.presence = s.mgmt.presence.set c' true := by
      rintro _ rfl
      exact congrArg (fun x : State => x.mgmt.presence) hframe
    have hlost : ∀ {c'}, chainOf (berthAt c p) = c' → s.chains[c'].inFlight = none →
        (s.enterAbsent (berthAt c p)).chains[c'] = s.chains[c'].withLosses (bump s.chains[c'].counts.presenceLost) := by
      rintro _ rfl hn
      exact hchain (by rw [hn]; exact nofun)
    refine ⟨within, fun p' hp' => ?_, fun b hb hn => enterAbsent_away hp (other hb) hn, fun hg => ⟨hgov, fun b hb => ?_⟩, ?_, fun c' => ?_,
      fun h => ?_, fun _ => ⟨hgov, hreleased⟩, fun hn => ?_⟩
    · rw [List.mem_singleton.1 hp', hown]
      unfold Berth.departed
      rw [hp]
    · exact enterAbsent_others hp hg (other hb)
    · rw [hcalls, hseat]
      simp
    · rw [hflag (chainOf_berthAt c p), hseat, get_set_fin]
      split
      · next e => simp [e]
      · next e => simp [e]
    · rw [hseat] at h
      cases h
    · rw [hlost (chainOf_berthAt c p) hn, hseat]
      rfl

/-- R25: every berth of a chain that enters ABSENT, in position order. -/
theorem foldl (c : ChainIx) (ps : List PosIx) (hn : ps.Nodup) (s : State) :
    Departed c ps s (ps.foldl (fun s p => s.enterAbsent (berthAt c p)) s) := by
  induction ps generalizing s with
  | nil => exact nil c s
  | cons p ps ih =>
    obtain ⟨hp, hn⟩ := List.nodup_cons.1 hn
    exact (one s c p).trans (ih hn _) fun q hq => List.mem_singleton.1 hq ▸ hp

theorem chainAbsent (s : State) (c : ChainIx) : Departed c (List.finRange 8) s (s.chainAbsent c) :=
  foldl c _ (List.nodup_finRange 8) s

end Departed
end Sys2Proof.Machine
end

section
/-! PROOF. The stop of a chain whole, by its link or by a load (R24, R25, R123, R128, R129). -/

namespace Sys2Proof.Machine

/-- R128, R129, R140: the record of a chain of which windows, waiting frame and queries are gone. -/
def Chain.dismissed (ch : Chain) : Chain :=
  { ch with
    windows := [], waiting := none, queries := [], inFlight := none
    counts := { ch.counts with queriesDiscarded := addCount ch.counts.queriesDiscarded ch.discardable } }

/-- R123, R129: the record of a chain that stopped whole, with `n` berths lost. -/
def Chain.emptied (ch : Chain) (n : Nat) : Chain :=
  { ch with
    priority := [], program := [], wait := 0, waiting := none, windows := [], queries := [], inFlight := none
    counts := { ch.counts with
      queriesDiscarded := addCount ch.counts.queriesDiscarded ch.discardable
      presenceLost := addCount ch.counts.presenceLost n
      flushed := addCount ch.counts.flushed (ch.priority.length + ch.program.length) } }

/-- The part before the berths of a stopped chain enter ABSENT. -/
def State.dismissing (s : State) (c : ChainIx) : State := s.modChain c Chain.dismissed

theorem State.chainStops_eq (s : State) (c : ChainIx) :
    s.chainStops c = ((s.dismissing c).chainAbsent c).flush c := by
  have h : (s.modChain c Chain.abandon).discardQueries c = s.dismissing c := State.modChain_modChain s c _ _
  unfold State.chainStops
  rw [h]

theorem State.dismissing_get (s : State) (c c' : ChainIx) :
    (s.dismissing c).chains[c'] = if c' = c then s.chains[c].dismissed else s.chains[c'] :=
  State.modChain_get s c c' _

theorem State.flush_get (s : State) (c c' : ChainIx) : (s.flush c).chains[c'] = if c' = c then
    { s.chains[c] with
      priority := [], program := [], wait := 0
      counts := { s.chains[c].counts with
        flushed := addCount s.chains[c].counts.flushed (s.chains[c].priority ++ s.chains[c].program).length } }
    else s.chains[c'] :=
  State.modChain_get _ c c' _

theorem State.flush_store (s : State) (c : ChainIx) :
    (s.flush c).store = releaseAll s.store (s.chains[c].priority ++ s.chains[c].program) := rfl

/-- R24, R25: what the departures of all berths of a chain make of the part, before its queues are flushed. -/
theorem departed_dismissing (s : State) (c : ChainIx) :
    Departed c (List.finRange 8) (s.dismissing c) ((s.dismissing c).chainAbsent c) := .chainAbsent _ c

theorem mem_positions (c : ChainIx) (b : BerthIx) : (∃ p ∈ List.finRange 8, berthAt c p = b) ↔ chainOf b = c := by
  constructor
  · rintro ⟨p, -, rfl⟩
    exact chainOf_berthAt c p
  · rintro rfl
    exact ⟨posOf b, List.mem_finRange _, berthAt_chainOf_posOf b⟩

theorem State.seated_all_ne (s : State) (c : ChainIx) :
    s.seated c (List.finRange 8) ≠ [] ↔ ∃ p : PosIx, s.berths[berthAt c p].presence = .present := by
  constructor
  · intro h
    obtain ⟨b, hb⟩ := List.exists_mem_of_ne_nil _ h
    obtain ⟨hp, p, -, rfl⟩ := (s.mem_seated c _ b).1 hb
    exact ⟨p, hp⟩
  · rintro ⟨p, hp⟩
    exact List.ne_nil_of_mem ((s.mem_seated c _ _).2 ⟨hp, p, List.mem_finRange p, rfl⟩)

theorem State.seated_length (s : State) (c : ChainIx) : (s.seated c (List.finRange 8)).length =
    ((List.finRange 8).filter fun p => s.berths[berthAt c p].presence = .present).length := by
  unfold State.seated State.present
  rw [List.length_map]
  rfl

/-- R123, R129: the record of a chain after its stop. -/
theorem State.chainStops_chain (s : State) (c : ChainIx) :
    (s.chainStops c).chains[c] = s.chains[c].emptied (s.seated c (List.finRange 8)).length := by
  have hd : (s.dismissing c).chains[c] = s.chains[c].dismissed := by rw [State.dismissing_get, if_pos rfl]
  have h := (departed_dismissing s c).chain (by rw [hd]; rfl)
  rw [hd, show (s.dismissing c).seated c (List.finRange 8) = s.seated c (List.finRange 8) from rfl] at h
  rw [State.chainStops_eq, State.flush_get, if_pos rfl, h, List.length_append]
  rfl

/-- R24, R25, R123: what the stop of a chain makes of everything but its record. -/
theorem State.chainStops_spec (s : State) (c : ChainIx) : ChainStopped s (s.chainStops c) c := by
  have k := departed_dismissing s c
  have hse : (s.dismissing c).seated c (List.finRange 8) = s.seated c (List.finRange 8) := rfl
  have hf := State.flush_same ((s.dismissing c).chainAbsent c) c
  rw [State.chainStops_eq]
  have hberths : ∀ b : BerthIx, (((s.dismissing c).chainAbsent c).flush c).berths[b] =
      ((s.dismissing c).chainAbsent c).berths[b] := fun b => by rw [hf.berths (by decide)]
  refine ⟨fun hc => ?_, fun c' hne => ?_, fun p => ?_, fun b hb => ?_, fun hg b hb => ?_, fun c' => ?_, fun hn => ?_,
    fun hn a => ?_, ?_⟩
  · rw [hf.calls (by decide), k.calls, hse]
    refine List.filter_congr fun b hb => decide_eq_decide.2 (not_congr ?_)
    rw [State.mem_seated, mem_positions]
    exact and_iff_right (hc.2 b hb)
  · rw [State.flush_get, if_neg hne, k.within.others c' hne, State.dismissing_get, if_neg hne]
  · have hl := k.left p (List.mem_finRange p)
    rw [hberths, hl]
    unfold Berth.departed
    refine ⟨fun h => ?_, fun h => ?_, fun h => ?_⟩
    · rw [show (s.dismissing c).berths = s.berths from rfl, h]
    · rw [show (s.dismissing c).berths = s.berths from rfl, h]
    · rw [show (s.dismissing c).berths = s.berths from rfl, h]
  · rw [hberths]
    exact k.within.berths b fun h => hb ((mem_positions c b).1 h)
  · rw [hberths]
    exact (k.governed ((governed_of_law hg).congr rfl rfl)).2 b fun h => hb ((mem_positions c b).1 h)
  · rw [hf.mgmt (by decide), k.flags, hse, State.seated_all_ne]
    rfl
  · rw [hf.channels (by decide), k.still (by_contra fun h => (State.seated_all_ne s c).1 h |>.elim hn)]
    rfl
  · refine Released.congr ((k.released ((State.seated_all_ne s c).2 hn)).2 a) (hf.berths (by decide)) (hf.channels (by decide))
      (hf.classes (by decide))
  · have hd : (s.dismissing c).chains[c] = s.chains[c].dismissed := by rw [State.dismissing_get, if_pos rfl]
    have h := k.chain (by rw [hd]; rfl)
    rw [hd] at h
    refine slotsReleased_of ?_
    rw [State.flush_store, k.within.same.store (by decide), h]
    rfl

/-- R79: the law of governing reads berths and channels alone. -/
theorem GoverningLaw.congr {s t : State} (h : GoverningLaw s) (hb : t.berths = s.berths) (hc : t.channels = s.channels) :
    GoverningLaw t := by
  unfold GoverningLaw Governs Claims at h ⊢
  rw [hb, hc]
  exact h

/-- R24, R25: what a stop reads of the part, and what it leaves. -/
theorem ChainStopped.congr {c : ChainIx} {s s' t t' : State} (h : ChainStopped s' t c) (hs : Same [.chains, .pins] s s')
    (ht : Same [.chains, .pins, .up, .thru] t t') (hq : s'.chains[c].priority ++ s'.chains[c].program =
      s.chains[c].priority ++ s.chains[c].program)
    (hs' : ∀ c' : ChainIx, c' ≠ c → s'.chains[c'] = s.chains[c'])
    (ht' : ∀ c' : ChainIx, c' ≠ c → t'.chains[c'] = t.chains[c']) : ChainStopped s t' c := by
  obtain ⟨h1, h2, h3, h4, h5, h6, h7, h8, h9⟩ := h
  have sb := hs.berths (by decide)
  have tb := ht.berths (by decide)
  have sc := hs.channels (by decide)
  have tc := ht.channels (by decide)
  refine ⟨fun k => ?_, fun c' hne => ?_, fun p => ?_, fun b hb => ?_, fun k b hb => ?_, fun c' => ?_, fun k => ?_, fun k a => ?_,
    fun i => ?_⟩
  · rw [ht.calls (by decide), ← hs.calls (by decide)]
    refine h1 ?_
    unfold CallLaw
    rwa [hs.calls (by decide), sb]
  · rw [ht' c' hne, h2 c' hne, hs' c' hne]
  · rw [tb, ← sb]
    exact h3 p
  · rw [tb, ← sb]
    exact h4 b hb
  · rw [tb, ← sb]
    exact h5 (k.congr sb sc) b hb
  · rw [ht.mgmt (by decide), ← hs.mgmt (by decide), ← sb]
    exact h6 c'
  · rw [tc, ← sc]
    exact h7 (by rwa [sb])
  · rw [← sc]
    exact (h8 (by rwa [sb]) a).congr tb tc (ht.classes (by decide))
  · rw [ht.store (by decide), ← hs.store (by decide), ← hq]
    exact h9 i

/-- R129: what the stop of a chain writes of the part. -/
theorem State.chainStops_mgmt (s : State) (c : ChainIx) :
    (s.chainStops c).mgmt = { s.mgmt with presence := (s.chainStops c).mgmt.presence } := by
  rw [State.chainStops_eq, (State.flush_same _ c).mgmt (by decide)]
  exact (departed_dismissing s c).within.mgmt

/-- What writes berths, calls, channels, chains, store, flags of presence, pins and ports. -/
theorem Same.eq_stop {s t : State} (h : Same [.pins, .berths, .calls, .channels, .chains, .store, .mgmt, .up, .thru] s t)
    (hm : t.mgmt = { s.mgmt with presence := t.mgmt.presence }) : t = { s with
      pins := t.pins, berths := t.berths, calls := t.calls, channels := t.channels, chains := t.chains, store := t.store
      mgmt := { s.mgmt with presence := t.mgmt.presence }, up := t.up, thru := t.thru } := by
  rw [← hm]
  obtain ⟨-, h2, h3, h4, -, h6, -, -, h9, h10, h11, h12, h13, h14, -, -, -, h18, -, -, h21, h22⟩ := h
  clear hm
  cases s
  cases t
  simp_all

/-! ### The link (R128) -/

/-- R128: the record of a chain whose link goes DOWN. -/
def Chain.unlinked (ch : Chain) : Chain := { ch with link := false }

/-- R128: the part as its chain loses the link, before the chain stops. -/
def State.unlinking (s : State) (c : ChainIx) : State := (s.setChainLine c false).modChain c Chain.unlinked

theorem State.chainLineLost_eq {s : State} {c : ChainIx} (h : s.chains[c].link = true) : s.chainLineLost c =
    ((s.unlinking c).chainStops c).countChain c fun k => { k with linkDowns := bump k.linkDowns } := by
  have hl : (s.setChainLine c false).linkDown c =
      ((s.unlinking c).chainStops c).countChain c fun k => { k with linkDowns := bump k.linkDowns } := by
    unfold State.linkDown State.unlinking Chain.unlinked
    rfl
  rw [← hl]
  exact if_pos h

theorem State.unlinking_get (s : State) (c c' : ChainIx) :
    (s.unlinking c).chains[c'] = if c' = c then s.chains[c].unlinked else s.chains[c'] := by
  unfold State.unlinking
  rw [State.modChain_get, (State.setChainLine_same s c false).chains (by decide)]

theorem State.unlinking_same (s : State) (c : ChainIx) : Same [.chains, .pins] s (s.unlinking c) :=
  ((State.setChainLine_same s c false).widen (by decide)).trans ((State.modChain_same _ _ _).widen (by decide))

end Sys2Proof.Machine

open Sys2Proof
open Sys2Proof.Machine

/-- Settles O32: a link that goes DOWN is a stop of the chain (`State.chainStops_spec`, `State.chainStops_chain`) between the
change of the link and the count; a link that comes UP is one change of the record. -/
theorem chainLinkRows : Obligations.ChainLinkRows := by
  refine ⟨fun c s hh hl => ⟨s.chainLineLost c, exec_free hh _, ?_, ?_, ?_⟩, fun c s hh => exec_free hh _⟩
  · rw [State.chainLineLost_eq hl]
    have hs : Same [.pins, .berths, .calls, .channels, .chains, .store, .mgmt, .up, .thru] s
        (((s.unlinking c).chainStops c).countChain c fun k => { k with linkDowns := bump k.linkDowns }) :=
      (((s.unlinking_same c).widen (by decide)).trans ((State.chainStops_same _ c).widen (by decide))).trans
        ((State.countChain_same _ c _).widen (by decide))
    have hm := State.chainStops_mgmt (s.unlinking c) c
    rw [(s.unlinking_same c).mgmt (by decide)] at hm
    have hp : (((s.unlinking c).chainStops c).countChain c fun k => { k with linkDowns := bump k.linkDowns }).pins =
        { s.pins with chainLines := s.pins.chainLines.set c false } := by
      rw [State.countChain_pins, (State.chainStops_same _ c).pins (by decide)]
      rfl
    have hup : (((s.unlinking c).chainStops c).countChain c fun k => { k with linkDowns := bump k.linkDowns }).up = s.up := by
      rw [State.countChain_up, (State.chainStops_same _ c).up (by decide), (s.unlinking_same c).up (by decide)]
    have hthru : (((s.unlinking c).chainStops c).countChain c fun k => { k with linkDowns := bump k.linkDowns }).thru =
        s.thru := by
      rw [State.countChain_thru, (State.chainStops_same _ c).thru (by decide), (s.unlinking_same c).thru (by decide)]
    have he := hs.eq_stop (by rw [State.countChain_mgmt]; exact hm)
    rw [hp, hup, hthru] at he
    exact he
  · rw [State.chainLineLost_eq hl]
    refine (State.chainStops_spec (s.unlinking c) c).congr (s.unlinking_same c) ((State.countChain_same _ c _).widen (by decide))
      ?_ (fun c' hne => ?_) fun c' hne => ?_
    · rw [State.unlinking_get, if_pos rfl]
      rfl
    · rw [State.unlinking_get, if_neg hne]
    · rw [State.countChain_get, if_neg hne]
  · rw [State.chainLineLost_eq hl, State.countChain_get, if_pos rfl, State.chainStops_chain, State.seated_length,
      State.unlinking_get, if_pos rfl, show (s.unlinking c).berths = s.berths from rfl]
    rfl
end

section
/-! PROOF. The laws of the berths and of the stopped chains over the whole machine (R21, R22, R24, R25, R33, R37, R38, R43,
R111, R129): what each operation keeps of them. -/

namespace Sys2Proof.Machine

/-! ### One berth, one chain -/

theorem Berth.presenceLaw_present {r : Berth} (h : r.presence = .present) :
    r.PresenceLaw ↔ r.validRun = 0 ∧ r.missingRun ≤ 15 := by
  unfold Berth.PresenceLaw
  rw [h]

theorem Berth.presenceLaw_joining {r : Berth} (h : r.presence = .joining) :
    r.PresenceLaw ↔ r.Resting ∧ 1 ≤ r.validRun ∧ r.validRun ≤ 3 ∧ r.missingRun = 0 := by
  unfold Berth.PresenceLaw
  rw [h]

theorem Berth.presenceLaw_absent {r : Berth} (h : r.presence = .absent) :
    r.PresenceLaw ↔ r.Resting ∧ r.validRun = 0 ∧ r.missingRun = 0 ∧ r.headphone = false ∧ r.unitFault = false := by
  unfold Berth.PresenceLaw
  rw [h]

/-- Ch. 2, "The Berth Record": the selections of a berth name open streams of their kind in its allowed set. -/
def Berth.Selects (s : State) (r : Berth) : Prop :=
  ∀ v : StreamIx,
    (r.audio = some v → s.streams[v].kind = some .programAudio ∧ r.config.allowed.getLsbD v.val = true) ∧
    (r.video = some v → s.streams[v].kind = some .programVideo ∧ r.config.allowed.getLsbD v.val = true)

/-- What a berth keeps that keeps its presence: the law of absent berths, and that of its selections. -/
structure Berth.Stays (s : State) (r r' : Berth) : Prop where
  presence : r'.presence = r.presence
  law : r.PresenceLaw → r'.PresenceLaw
  selects : r.Selects s → r'.Selects s

namespace Berth.Stays

theorem refl (s : State) (r : Berth) : Stays s r r := ⟨rfl, id, id⟩

/-- A PRESENT berth of which the runs do not change. -/
theorem of_present {s : State} {r r' : Berth} (hp : r.presence = .present) (h : r'.presence = r.presence)
    (hv : r'.validRun = r.validRun) (hm : r'.missingRun = r.missingRun) (hs : r.Selects s → r'.Selects s) :
    Stays s r r' := by
  refine ⟨h, fun hl => ?_, hs⟩
  rw [presenceLaw_present (h.trans hp), hv, hm]
  exact (presenceLaw_present hp).1 hl

/-- R24: a berth that is not PRESENT carries no ducked mark that could be cleared. -/
theorem unducked (s : State) (r : Berth) : Stays s r { r with ducked := false } := by
  refine ⟨rfl, ?_, id⟩
  unfold Berth.PresenceLaw Berth.Resting
  dsimp only
  split
  · rintro ⟨⟨h1, h2, h3, -, h5⟩, k⟩
    exact ⟨⟨h1, h2, h3, rfl, h5⟩, k⟩
  · rintro ⟨⟨h1, h2, h3, -, h5⟩, k⟩
    exact ⟨⟨h1, h2, h3, rfl, h5⟩, k⟩
  · exact id

/-- R43, R45: regime and settings are no part of what is kept. -/
theorem dressed (s : State) (r : Berth) (g : Regime) (x : Settings) :
    Stays s r { r with regime := g, settings := x } :=
  ⟨rfl, id, id⟩

end Berth.Stays

theorem Regoverned.stays {s t : State} (h : Regoverned s t) (b : BerthIx) : Berth.Stays s s.berths[b] t.berths[b] := by
  by_cases hp : s.berths[b].presence = .present
  · rw [h.only b]
    exact .of_present hp rfl rfl rfl id
  · rw [h.others b hp]
    exact .refl s _

/-- R25, R129: a chain that is disabled or whose link is DOWN. -/
def Chain.Stopped (ch : Chain) : Prop := ch.enabled = false ∨ ch.link = false

/-- R111, R129: what a stopped chain holds. -/
structure Chain.Halted (ch : Chain) : Prop where
  priority : ch.priority = []
  program : ch.program = []
  wait : ch.wait = 0
  windows : ch.windows = []
  waiting : ch.waiting = none
  inFlight : ch.inFlight = none

/-- Whether every berth of chain `c` is ABSENT. -/
def State.Vacant (s : State) (c : ChainIx) : Prop := ∀ p : PosIx, s.berths[berthAt c p].presence = .absent

theorem stoppedChainLaw_iff (s : State) :
    StoppedChainLaw s ↔ ∀ c : ChainIx, s.chains[c].Stopped → s.chains[c].Halted ∧ s.Vacant c := by
  refine forall_congr' fun c => imp_congr_right fun _ => ⟨?_, ?_⟩
  · rintro ⟨h1, h2, h3, h4, h5, h6, h7⟩
    exact ⟨⟨h1, h2, h3, h4, h5, h6⟩, h7⟩
  · rintro ⟨⟨h1, h2, h3, h4, h5, h6⟩, h7⟩
    exact ⟨h1, h2, h3, h4, h5, h6, h7⟩

/-! ### The laws -/

/-- The laws of the berths and of the stopped chains. -/
inductive Law where
  | presence | calls | selection | regime | chains

/-- What each law says. -/
def Law.Holds (s : State) : Law → Prop
  | .presence => PresenceLaw s
  | .calls => CallLaw s
  | .selection => SelectionLaw s
  | .regime => RegimeLaw s
  | .chains => StoppedChainLaw s

/-- From `s` to `t` every law is kept but those named. -/
def KeepsBut (x : List Law) (s t : State) : Prop := ∀ l, l ∉ x → l.Holds s → l.Holds t

/-- The effective levels are the same. -/
def Levelled (s t : State) : Prop := t.effectiveQA = s.effectiveQA ∧ t.effectiveQB = s.effectiveQB

theorem levelled_of {s t : State} (hm : t.mgmt.settings = s.mgmt.settings) (ha : t.timer.qa.accepted = s.timer.qa.accepted)
    (hb : t.timer.qb.accepted = s.timer.qb.accepted) : Levelled s t := by
  unfold Levelled State.effectiveQA State.effectiveQB
  rw [hm, ha, hb]
  exact ⟨rfl, rfl⟩

theorem Same.levelled {fs : List StateField} {s t : State} (h : Same fs s t) (hm : StateField.mgmt ∉ fs)
    (ht : StateField.timer ∉ fs) : Levelled s t :=
  levelled_of (by rw [h.mgmt hm]) (by rw [h.timer ht]) (by rw [h.timer ht])

/-- R43: regimes, quiet sources and effective levels are all that the law of regimes reads. -/
theorem RegimeLaw.congr {s t : State} (h : RegimeLaw s) (hr : ∀ b : BerthIx, t.berths[b].regime = s.berths[b].regime)
    (hq : ∀ b : BerthIx, t.berths[b].config.quietSource = s.berths[b].config.quietSource) (hl : Levelled s t) :
    RegimeLaw t := fun b => by
  rw [hr, hq, hl.1, hl.2]
  exact h b

namespace KeepsBut

theorem refl (s : State) : KeepsBut [] s s := fun _ _ => id

theorem trans {x : List Law} {s t u : State} (h : KeepsBut x s t) (k : KeepsBut x t u) : KeepsBut x s u :=
  fun l hl => k l hl ∘ h l hl

theorem ite {x : List Law} {s t u : State} {c : Prop} [Decidable c] (h : KeepsBut x s t) (k : KeepsBut x s u) :
    KeepsBut x s (if c then t else u) := by
  split
  · exact h
  · exact k

theorem foldl {ι : Type} {x : List Law} {f : State → ι → State} (h : ∀ s i, KeepsBut x s (f s i)) (l : List ι) (s : State) :
    KeepsBut x s (l.foldl f s) := by
  induction l generalizing s with
  | nil => exact fun _ _ => id
  | cons i is ih => exact (h s i).trans (ih _)

theorem widen {s t : State} (x : List Law) (h : KeepsBut [] s t) : KeepsBut x s t := fun l _ => h l List.not_mem_nil

/-- The one law that was left out is kept too. -/
theorem but {l : Law} {s t : State} (h : KeepsBut [l] s t) (hl : l.Holds s → l.Holds t) : KeepsBut [] s t := fun m _ => by
  by_cases e : m = l
  · exact e ▸ hl
  · exact h m (by simpa using e)

/-- What every operation keeps that keeps the presence of the berths, the call list and the kinds of the streams: all but
the regimes. -/
theorem of_stays {s t : State} (hb : ∀ b : BerthIx, Berth.Stays s s.berths[b] t.berths[b]) (hcalls : t.calls = s.calls)
    (hk : ∀ v : StreamIx, t.streams[v].kind = s.streams[v].kind)
    (hch : ∀ c : ChainIx, t.chains[c].enabled = s.chains[c].enabled ∧ t.chains[c].link = s.chains[c].link ∧
      (s.chains[c].Stopped → s.Vacant c → s.chains[c].Halted → t.chains[c].Halted)) : KeepsBut [.regime] s t := by
  intro l hl h
  cases l with
  | presence => exact fun b => (hb b).law (h b)
  | calls =>
    obtain ⟨h1, h2⟩ := h
    unfold Law.Holds CallLaw
    rw [hcalls]
    exact ⟨h1, fun b hm => (hb b).presence.trans (h2 b hm)⟩
  | selection =>
    intro b v
    rw [hk]
    exact (hb b).selects (h b) v
  | regime => simp at hl
  | chains =>
    refine (stoppedChainLaw_iff t).2 fun c hs => ?_
    obtain ⟨h1, h2, h3⟩ := hch c
    unfold Chain.Stopped at hs
    rw [h1, h2] at hs
    obtain ⟨k1, k2⟩ := (stoppedChainLaw_iff s).1 h c hs
    exact ⟨h3 hs k2 k1, fun p => (hb _).presence.trans (k2 p)⟩

/-- What writes berths alone. -/
theorem of_berths {fs : List StateField} {s t : State} (h : Same fs s t)
    (hf : ∀ f ∈ [StateField.calls, .streams, .chains], f ∉ fs)
    (hb : ∀ b : BerthIx, Berth.Stays s s.berths[b] t.berths[b]) : KeepsBut [.regime] s t := by
  refine of_stays hb (h.calls (hf _ (by decide))) (fun v => ?_) fun c => ?_
  · rw [h.streams (hf _ (by decide))]
  · rw [h.chains (hf _ (by decide))]
    exact ⟨rfl, rfl, fun _ _ => id⟩

/-- What writes berths, but no regime and no quiet source, and leaves the levels as they are. -/
theorem of_berths_level {fs : List StateField} {s t : State} (h : Same fs s t)
    (hf : ∀ f ∈ [StateField.calls, .streams, .chains], f ∉ fs) (hl : Levelled s t)
    (hb : ∀ b : BerthIx, Berth.Stays s s.berths[b] t.berths[b] ∧ t.berths[b].regime = s.berths[b].regime ∧
      t.berths[b].config.quietSource = s.berths[b].config.quietSource) : KeepsBut [] s t :=
  (of_berths h hf fun b => (hb b).1).but fun hr => hr.congr (fun b => (hb b).2.1) (fun b => (hb b).2.2) hl

/-- What writes no berth, call, stream or chain, and leaves the levels as they are. -/
theorem of_level {fs : List StateField} {s t : State} (h : Same fs s t)
    (hf : ∀ f ∈ [StateField.berths, .calls, .streams, .chains], f ∉ fs) (hl : Levelled s t) : KeepsBut [] s t := by
  refine of_berths_level h (fun f hm => hf f (List.mem_cons_of_mem _ hm)) hl fun b => ?_
  rw [h.berths (hf _ (by decide))]
  exact ⟨.refl s _, rfl, rfl⟩

/-- What writes nothing that a law reads. -/
theorem of_same {fs : List StateField} {s t : State} (h : Same fs s t)
    (hf : ∀ f ∈ [StateField.berths, .calls, .streams, .chains, .mgmt, .timer], f ∉ fs) : KeepsBut [] s t :=
  of_level h (fun f hm => hf f (by simp at hm ⊢; tauto)) (h.levelled (hf _ (by decide)) (hf _ (by decide)))

/-- A recomputation of governing keeps every law. -/
theorem of_regoverned {fs : List StateField} {s t : State} (h : Regoverned s t) (hs : Same fs s t)
    (hf : ∀ f ∈ [StateField.calls, .streams, .chains], f ∉ fs) (hl : Levelled s t) : KeepsBut [] s t :=
  of_berths_level hs hf hl fun b => ⟨h.stays b, by rw [h.only b], by rw [h.only b]⟩

theorem mapBerths (s : State) {f : BerthIx → Berth → Berth} (h : ∀ b r, Berth.Stays s r (f b r) ∧
    (f b r).regime = r.regime ∧ (f b r).config.quietSource = r.config.quietSource) : KeepsBut [] s (s.mapBerths f) :=
  of_berths_level (State.mapBerths_same s f) (by decide)
    ((State.mapBerths_same s f).levelled (by decide) (by decide)) fun b => by
    rw [State.mapBerths_get]
    exact h b _

theorem modBerth (s : State) (b : BerthIx) {f : Berth → Berth} (h : Berth.Stays s s.berths[b] (f s.berths[b]) ∧
    (f s.berths[b]).regime = s.berths[b].regime ∧
    (f s.berths[b]).config.quietSource = s.berths[b].config.quietSource) : KeepsBut [] s (s.modBerth b f) :=
  of_berths_level (State.modBerth_same s b f) (by decide)
    ((State.modBerth_same s b f).levelled (by decide) (by decide)) fun b' => by
    rw [State.modBerth_get]
    split
    · next e => exact e ▸ h
    · exact ⟨.refl s _, rfl, rfl⟩

/-- What writes chains, and keeps a stopped one stopped and empty. -/
theorem of_chains {fs : List StateField} {s t : State} (h : Same fs s t)
    (hf : ∀ f ∈ [StateField.berths, .calls, .mgmt, .timer], f ∉ fs)
    (hk : ∀ v : StreamIx, t.streams[v].kind = s.streams[v].kind)
    (hch : ∀ c : ChainIx, t.chains[c].enabled = s.chains[c].enabled ∧ t.chains[c].link = s.chains[c].link ∧
      (s.chains[c].Stopped → s.Vacant c → s.chains[c].Halted → t.chains[c].Halted)) : KeepsBut [] s t := by
  have hb := h.berths (hf _ (by decide))
  refine (of_stays (fun b => ?_) (h.calls (hf _ (by decide))) hk hch).but fun hr => hr.congr (fun b => ?_) (fun b => ?_)
    (h.levelled (hf _ (by decide)) (hf _ (by decide))) <;> rw [hb]
  exact .refl s _

theorem modChain (s : State) (c : ChainIx) {f : Chain → Chain} (he : (f s.chains[c]).enabled = s.chains[c].enabled)
    (hl : (f s.chains[c]).link = s.chains[c].link)
    (h : s.chains[c].Stopped → s.Vacant c → s.chains[c].Halted → (f s.chains[c]).Halted) :
    KeepsBut [] s (s.modChain c f) :=
  of_chains (State.modChain_same s c f) (by decide) (fun _ => rfl) fun c' => by
    rw [State.modChain_get]
    split
    · next e =>
      subst e
      exact ⟨he, hl, h⟩
    · exact ⟨rfl, rfl, fun _ _ => id⟩

theorem countChain (s : State) (c : ChainIx) (f : ChainCounts → ChainCounts) : KeepsBut [] s (s.countChain c f) :=
  modChain s c rfl rfl fun _ _ h => ⟨h.priority, h.program, h.wait, h.windows, h.waiting, h.inFlight⟩

theorem refuseCue (s : State) (a : ChannelIx) : KeepsBut [] s (s.refuseCue a) :=
  of_same (State.refuseCue_same s a) (by decide)

theorem latchStall (s : State) (a : ChannelIx) : KeepsBut [] s (s.latchStall a) :=
  of_level (State.latchStall_same s a) (by decide) ⟨rfl, rfl⟩

theorem latchPresence (s : State) (c : ChainIx) : KeepsBut [] s (s.latchPresence c) :=
  of_level (State.latchPresence_same s c) (by decide) ⟨rfl, rfl⟩

/-! ### Channels (ch. 5) -/

theorem modChannel (s : State) (a : ChannelIx) (f : Channel → Channel) : KeepsBut [] s (s.modChannel a f) :=
  of_same (State.modChannel_same s a f) (by decide)

theorem enterIdle (s : State) (a : ChannelIx) : KeepsBut [] s (s.enterIdle a) :=
  of_regoverned (.enterIdle s a) (State.enterIdle_same s a) (by decide)
    ((State.enterIdle_same s a).levelled (by decide) (by decide))

theorem evaluateReleases (s : State) : KeepsBut [] s s.evaluateReleases :=
  of_regoverned (.evaluateReleases s) (State.evaluateReleases_same s) (by decide)
    ((State.evaluateReleases_same s).levelled (by decide) (by decide))

theorem settleGoverning (s : State) : KeepsBut [] s s.settleGoverning :=
  of_regoverned (.settleGoverning s) (State.settleGoverning_same s) (by decide)
    ((State.settleGoverning_same s).levelled (by decide) (by decide))

theorem idleChannel (s : State) (a : ChannelIx) : KeepsBut [] s (s.idleChannel a) := ite (enterIdle s a) (refl s)

theorem presentGap (s : State) (a : ChannelIx) : KeepsBut [] s (s.presentGap a) :=
  (modChannel s a _).trans (ite ((latchStall _ a).trans (enterIdle _ a)) (refl _))

theorem presentSpeech (s : State) (a : ChannelIx) : KeepsBut [] s (s.presentSpeech a) := by
  refine ite (enterIdle s a) ?_
  split
  · exact modChannel s a _
  · exact presentGap s a

theorem countLead (s : State) (a : ChannelIx) : KeepsBut [] s (s.countLead a) :=
  of_regoverned (.countLead s a) (State.countLead_same s a) (by decide)
    ((State.countLead_same s a).levelled (by decide) (by decide))

theorem channelCycle (s : State) (a : ChannelIx) (st : ChannelState) : KeepsBut [] s (s.channelCycle a st) := by
  cases st with
  | lead => exact countLead s a
  | playing => exact presentSpeech s a
  | idle => exact refl s
  | ducking => exact refl s

theorem channelsCycle (s : State) : KeepsBut [] s s.channelsCycle :=
  ite ((channelCycle s 0 _).trans (channelCycle _ 1 _)) (refl s)

/-- R29: a wake writes awake state and idle seconds of a PRESENT berth. -/
theorem woken (s : State) (r : Berth) : Berth.Stays s r r.woken ∧ r.woken.regime = r.regime ∧ r.woken.config = r.config := by
  unfold Berth.woken
  split
  · next h => exact ⟨.of_present h rfl rfl rfl id, rfl, rfl⟩
  · exact ⟨.refl s r, rfl, rfl⟩

/-- R76: the wakes of a cue leave the allowed set and the quiet source. -/
theorem wakeFor (s : State) (c : Class) (zone : BitVec 48) (stop : Option (Fin 64)) (b : BerthIx) (r : Berth) :
    Berth.Stays s r (Machine.wakeFor c zone stop b r) ∧ (Machine.wakeFor c zone stop b r).regime = r.regime ∧
      (Machine.wakeFor c zone stop b r).config.quietSource = r.config.quietSource := by
  obtain ⟨h1, h2, h3⟩ := woken s r
  unfold Machine.wakeFor
  split
  · split
    · exact ⟨h1, h2, by rw [h3]⟩
    · exact ⟨.refl s r, rfl, rfl⟩
  · split
    · exact ⟨⟨h1.presence, h1.law, fun h => h3 ▸ h1.selects h⟩, h2, rfl⟩
    · exact ⟨.refl s r, rfl, rfl⟩
  · exact ⟨.refl s r, rfl, rfl⟩
  · exact ⟨.refl s r, rfl, rfl⟩

theorem beginAnnouncement (s : State) (a : ChannelIx) (c : Class) (q : CueBody) :
    KeepsBut [] s (s.beginAnnouncement a c q) :=
  ((mapBerths s (wakeFor s _ _ _)).trans (modChannel _ _ _)).trans (settleGoverning _)

theorem cancelForPreemption (s : State) (a : ChannelIx) : KeepsBut [] s (s.cancelForPreemption a) :=
  (modChannel s a _).trans (mapBerths _ fun _ r => by
    split
    · exact ⟨.unducked _ r, rfl, rfl⟩
    · exact ⟨.refl _ r, rfl, rfl⟩)

theorem takeStart (s : State) (a : ChannelIx) (c : Class) (q : CueBody) : KeepsBut [] s (s.takeStart a c q) := by
  unfold State.takeStart
  split
  · exact beginAnnouncement s a c q
  · exact refuseCue s a
  · exact ite ((cancelForPreemption s a).trans (beginAnnouncement _ a c q)) (refuseCue s a)

theorem countU (s : State) (f : UpstreamCounts → UpstreamCounts) : KeepsBut [] s (s.countU f) :=
  of_same (State.countU_same s f) (by decide)

theorem startCueTaken (q : CueBody) (s : State) : KeepsBut [] s (s.startCueTaken q) := by
  unfold State.startCueTaken
  split
  · exact ite (takeStart s _ _ q) (countU s _)
  · exact countU s _

theorem endCueTaken (q : CueBody) (s : State) : KeepsBut [] s (s.endCueTaken q) := by
  unfold State.endCueTaken
  split
  · exact ite (ite (enterIdle s _) (modChannel s _ _)) (refuseCue s _)
  · exact countU s _

theorem cancelCueTaken (q : CueBody) (s : State) : KeepsBut [] s (s.cancelCueTaken q) := by
  unfold State.cancelCueTaken
  split
  · exact ite (enterIdle s _) (refuseCue s _)
  · exact countU s _

/-! ### Regimes and profiles (ch. 3) -/

/-- R43: an evaluated berth keeps all but regime and settings. -/
theorem evaluated (s : State) (r : Berth) : Berth.Stays s r (s.evaluated r) := by
  rw [State.evaluated_eq]
  exact .dressed s r _ _

/-- R43: an evaluated berth has the regime that its quiet source gives. -/
theorem evaluated_night (s : State) (r : Berth) : (s.evaluated r).regime = .night ↔
    NightUnder (s.evaluated r).config.quietSource s.effectiveQA s.effectiveQB := by
  rw [State.evaluated_regime, State.evaluated_eq]
  exact formRegime_night _ _ _

theorem evaluateAll (s : State) : KeepsBut [.regime] s s.evaluateAll :=
  of_berths (State.evaluateAll_same s) (by decide) fun b => by
    rw [State.evaluateAll_get]
    exact evaluated s _

/-- R43: the law of regimes holds after every berth was evaluated. -/
theorem regimeLaw_evaluateAll (s : State) : RegimeLaw s.evaluateAll := fun b => by
  obtain ⟨h1, h2⟩ := (State.evaluateAll_same s).levelled (by decide) (by decide)
  rw [State.evaluateAll_get, h1, h2]
  exact evaluated_night s _

/-- R41: the law of regimes holds after a hand-over, against the levels for which it held before. -/
theorem regimeLaw_quietHandOver {s : State} {qa qb : Bool}
    (h : ∀ b : BerthIx, s.berths[b].regime = .night ↔ NightUnder s.berths[b].config.quietSource qa qb) :
    RegimeLaw (s.quietHandOver qa qb) := by
  unfold State.quietHandOver
  split
  · next e => rwa [← e.1, ← e.2] at h
  · exact regimeLaw_evaluateAll _

theorem quietHandOver (s : State) (qa qb : Bool) : KeepsBut [.regime] s (s.quietHandOver qa qb) :=
  ite ((refl s).widen _) (((of_same (State.countPart_same s _) (by decide)).widen _).trans (evaluateAll _))

theorem copyProfile (s : State) (p : Fin 4) : KeepsBut [] s (s.copyProfile p) :=
  mapBerths s fun _ r => by
    split
    · exact ⟨.dressed s r _ _, rfl, rfl⟩
    · exact ⟨.refl s r, rfl, rfl⟩

/-! ### Queries (ch. 8) -/

/-- R137: with no berth PRESENT, no query is put in flight. -/
theorem startLoop_halted {present : PosIx → Bool} (hp : ∀ p, present p = false) (c : ChainIx) (qs : List Query)
    {ch : Chain} (h : ch.Halted) : (startLoop present c qs ch).Halted := by
  induction qs generalizing ch with
  | nil => exact ⟨h.priority, h.program, h.wait, h.windows, h.waiting, h.inFlight⟩
  | cons q qs ih =>
    unfold startLoop
    split
    · exact ⟨h.priority, h.program, h.wait, h.windows, h.waiting, h.inFlight⟩
    · rw [hp, if_neg (by decide)]
      exact ih ⟨h.priority, h.program, h.wait, h.windows, h.waiting, h.inFlight⟩

/-- R137: starting queries writes neither enable nor link. -/
theorem startLoop_links (present : PosIx → Bool) (c : ChainIx) (qs : List Query) (ch : Chain) :
    (startLoop present c qs ch).enabled = ch.enabled ∧ (startLoop present c qs ch).link = ch.link := by
  induction qs generalizing ch with
  | nil => exact ⟨rfl, rfl⟩
  | cons q qs ih =>
    unfold startLoop
    split
    · exact ⟨rfl, rfl⟩
    · split
      · exact ⟨rfl, rfl⟩
      · exact ih _

theorem startQueries (s : State) (c : ChainIx) : KeepsBut [] s (s.startQueries c) := by
  obtain ⟨h1, h2⟩ := startLoop_links (fun p => s.present (berthAt c p)) c s.chains[c].queries s.chains[c]
  refine modChain s c h1 h2 fun _ hv h => startLoop_halted (fun p => ?_) c _ h
  unfold State.present
  rw [hv p]
  rfl

theorem unjudged_nil {ws : List Window} (h : ws = []) : unjudged ws = [] := by rw [h]; rfl

theorem endQuery (s : State) (c : ChainIx) (o : QueryOutcome) (x : Option AnswerBytes) (f : ChainCounts → ChainCounts) :
    KeepsBut [] s (s.endQuery c o x f) := by
  unfold State.endQuery
  split
  · exact refl s
  · refine (modChain s c ?_ ?_ ?_).trans (startQueries _ c)
    · rfl
    · rfl
    · exact fun _ _ h => ⟨h.priority, h.program, h.wait, unjudged_nil h.windows, h.waiting, rfl⟩

theorem queryTargetAbsent (s : State) (c : ChainIx) (p : PosIx) : KeepsBut [] s (s.queryTargetAbsent c p) := by
  unfold State.queryTargetAbsent
  split
  · exact refl s
  · exact ite (endQuery s c _ _ _) (refl s)

theorem takeToken (s : State) (c : ChainIx) (p : PosIx) (j : Bool) (k : Byte) (x : AnswerBytes) :
    KeepsBut [] s (s.takeToken c p j k x) := by
  refine ite (refl s) ?_
  split
  · exact ite (endQuery s c _ _ _) (countChain s c _)
  · exact countChain s c _

theorem countWindow (s : State) (c : ChainIx) (j : Bool) : KeepsBut [] s (s.countWindow c j) := by
  unfold State.countWindow
  split
  · exact refl s
  · next q hq =>
    refine ite ?_ (refl s)
    have h : KeepsBut [] s (s.modChain c fun ch => { ch with inFlight := some { q with waited := q.waited + 1 } }) :=
      modChain s c rfl rfl fun _ _ h => absurd (hq.symm.trans h.inFlight) (by simp)
    exact ite (h.trans (endQuery _ c _ _ _)) h

theorem discardQueries (s : State) (c : ChainIx) : KeepsBut [] s (s.discardQueries c) :=
  modChain s c rfl rfl fun _ _ h => ⟨h.priority, h.program, h.wait, unjudged_nil h.windows, h.waiting, rfl⟩

end KeepsBut

end Sys2Proof.Machine
end

section
/-! PROOF. The laws of the berths and of the stopped chains under returns, windows, links and cycle starts (R21, R22, R24, R25,
R33, R37, R38, R129). -/

namespace Sys2Proof.Machine

/-! ### The law of the stopped chains, outside one chain -/

/-- R25, R129: what changes one chain that is not stopped, and its berths alone, keeps the law of the stopped chains. -/
theorem Within.stoppedChainLaw {c : ChainIx} {B : BerthIx → Prop} {d : Nat × Nat × Nat} {s t : State}
    (h : Within c B d s t) (hB : ∀ b, B b → chainOf b = c) (hc : ¬ s.chains[c].Stopped) (hs : StoppedChainLaw s) :
    StoppedChainLaw t := by
  refine (stoppedChainLaw_iff t).2 fun c' hst => ?_
  have hne : c' ≠ c := by
    rintro rfl
    unfold Chain.Stopped at hst hc
    rw [h.chain.enabled, h.chain.link] at hst
    exact hc hst
  rw [h.others c' hne] at hst ⊢
  obtain ⟨k1, k2⟩ := (stoppedChainLaw_iff s).1 hs c' hst
  refine ⟨k1, fun p => ?_⟩
  rw [h.berths _ fun hb => hne ((chainOf_berthAt c' p).symm.trans (hB _ hb))]
  exact k2 p

/-- R25: a berth that is not ABSENT hangs on a chain that is not stopped. -/
theorem StoppedChainLaw.running {s : State} (h : StoppedChainLaw s) {b : BerthIx} (hp : s.berths[b].presence ≠ .absent) :
    ¬ s.chains[chainOf b].Stopped := fun hc => by
  have hv := ((stoppedChainLaw_iff s).1 h _ hc).2 (posOf b)
  exact hp ((congrArg (fun x : BerthIx => s.berths[x].presence) (berthAt_chainOf_posOf b)).symm.trans hv)

/-- R134: a chain with an open window is not stopped. -/
theorem StoppedChainLaw.open {s : State} (h : StoppedChainLaw s) {c : ChainIx} (hw : s.chains[c].windows ≠ []) :
    ¬ s.chains[c].Stopped := fun hc => hw ((stoppedChainLaw_iff s).1 h c hc).1.windows

namespace KeepsBut

/-! ### Berths whose presence changes (R21 to R24) -/

/-- What changes one berth, and the call list with it. -/
theorem of_berth {fs : List StateField} {s t : State} {b : BerthIx} (h : Same fs s t)
    (hf : ∀ f ∈ [StateField.mgmt, .timer, .streams], f ∉ fs) (hother : ∀ b' : BerthIx, b' ≠ b → t.berths[b'] = s.berths[b'])
    (hlaw : s.berths[b].PresenceLaw → t.berths[b].PresenceLaw) (hsel : s.berths[b].Selects s → t.berths[b].Selects s)
    (hr : t.berths[b].regime = s.berths[b].regime)
    (hq : t.berths[b].config.quietSource = s.berths[b].config.quietSource) (hcalls : CallLaw s → CallLaw t) :
    KeepsBut [.chains] s t := by
  have own : ∀ P : Berth → Berth → Prop, (∀ r, P r r) → P s.berths[b] t.berths[b] →
      ∀ b' : BerthIx, P s.berths[b'] t.berths[b'] := by
    intro P hrefl hb b'
    by_cases e : b' = b
    · subst e
      exact hb
    · rw [hother b' e]
      exact hrefl _
  intro l hl hs
  cases l with
  | presence => exact fun b' => own (fun r r' => r.PresenceLaw → r'.PresenceLaw) (fun _ => id) hlaw b' (hs b')
  | calls => exact hcalls hs
  | selection =>
    intro b' v
    rw [h.streams (hf _ (by decide))]
    exact own (fun r r' => r.Selects s → r'.Selects s) (fun _ => id) hsel b' (hs b') v
  | regime =>
    exact RegimeLaw.congr hs (own (fun r r' => r'.regime = r.regime) (fun _ => rfl) hr)
      (own (fun r r' => r'.config.quietSource = r.config.quietSource) (fun _ => rfl) hq)
      (h.levelled (hf _ (by decide)) (hf _ (by decide)))
  | chains => simp at hl

/-- What changes one berth and never takes presence from it. -/
theorem moves (s : State) (b : BerthIx) {f : Berth → Berth} (hlaw : s.berths[b].PresenceLaw → (f s.berths[b]).PresenceLaw)
    (hpres : s.berths[b].presence = .present → (f s.berths[b]).presence = .present)
    (hsel : s.berths[b].Selects s → (f s.berths[b]).Selects s) (hr : (f s.berths[b]).regime = s.berths[b].regime)
    (hq : (f s.berths[b]).config.quietSource = s.berths[b].config.quietSource) :
    KeepsBut [.chains] s (s.modBerth b f) := by
  have hb : (s.modBerth b f).berths[b] = f s.berths[b] := by rw [State.modBerth_get, if_pos rfl]
  have hother : ∀ b' : BerthIx, b' ≠ b → (s.modBerth b f).berths[b'] = s.berths[b'] := fun b' e => by
    rw [State.modBerth_get, if_neg e]
  refine of_berth (State.modBerth_same s b f) (by decide) hother ?_ ?_ ?_ ?_ fun hc => ⟨hc.1, fun b' hm => ?_⟩
  · rwa [hb]
  · rwa [hb]
  · rwa [hb]
  · rwa [hb]
  · by_cases e : b' = b
    · subst e
      rw [hb]
      exact hpres (hc.2 _ hm)
    · rw [hother b' e]
      exact hc.2 b' hm

/-- R24: what enters ABSENT rests as the law says. -/
theorem joiningLeft_law {r : Berth} (hj : r.presence = .joining) (h : r.PresenceLaw) : (joiningLeft r).PresenceLaw := by
  obtain ⟨hr, -⟩ := (Berth.presenceLaw_joining hj).1 h
  exact (Berth.presenceLaw_absent rfl).2 ⟨hr, rfl, rfl, rfl, rfl⟩

theorem presentLeft_law (r : Berth) : (presentLeft r).PresenceLaw :=
  (Berth.presenceLaw_absent rfl).2 ⟨⟨rfl, rfl, rfl, rfl, rfl, rfl⟩, rfl, rfl, rfl, rfl⟩

/-- R24, R38: a PRESENT berth that enters ABSENT leaves the call list. -/
theorem vacated (s : State) (b : BerthIx) : KeepsBut [.chains] s (s.vacated b) := by
  have hb : (s.vacated b).berths[b] = presentLeft s.berths[b] := by rw [State.vacated_get, if_pos rfl]
  have hother : ∀ b' : BerthIx, b' ≠ b → (s.vacated b).berths[b'] = s.berths[b'] := fun b' e => by
    rw [State.vacated_get, if_neg e]
  refine of_berth (fs := [.berths, .calls]) (by simp [Same, State.vacated]) (by decide) hother ?_ ?_ ?_ ?_
    fun hc => ⟨hc.1.filter _, fun b' hm => ?_⟩
  · rw [hb]
    exact fun _ => presentLeft_law _
  · rw [hb]
    exact id
  · rw [hb]
    rfl
  · rw [hb]
    rfl
  · obtain ⟨hm, hne⟩ := List.mem_filter.1 hm
    rw [hother b' (of_decide_eq_true hne)]
    exact hc.2 b' hm

/-- R24: a berth that enters ABSENT. -/
theorem enterAbsent (s : State) (b : BerthIx) : KeepsBut [] s (s.enterAbsent b) := by
  cases hp : s.berths[b].presence with
  | absent =>
    rw [State.enterAbsent_absent hp]
    exact refl s
  | joining =>
    have hk : KeepsBut [.chains] s (s.enterAbsent b) := by
      rw [State.enterAbsent_joining hp]
      refine moves s b (joiningLeft_law hp) (fun h => ?_) id rfl rfl
      rw [hp] at h
      cases h
    exact hk.but fun hs => (Within.enterAbsent s b).stoppedChainLaw (fun _ e => e ▸ rfl)
      (StoppedChainLaw.running hs (by rw [hp]; exact nofun)) hs
  | present =>
    have hk : KeepsBut [.chains] s (s.enterAbsent b) := by
      rw [State.enterAbsent_present hp]
      exact (vacated s b).trans (widen _ ((((settleGoverning _).trans (queryTargetAbsent _ _ _)).trans
        (latchPresence _ _)).trans (countChain _ _ _)))
    exact hk.but fun hs => (Within.enterAbsent s b).stoppedChainLaw (fun _ e => e ▸ rfl)
      (StoppedChainLaw.running hs (by rw [hp]; exact nofun)) hs

/-- R27: the defaults that join initialisation keeps are open, of their kind and allowed. -/
theorem joined_selects (s : State) (r : Berth) : (s.joined r).Selects s := by
  intro v
  unfold State.joined
  rw [State.filterDefault_eq, State.filterDefault_eq]
  simp [Option.filter_eq_some_iff]

/-- R23, R27: a JOINING berth that becomes PRESENT. -/
theorem becomePresent {s : State} {b : BerthIx} (hj : s.berths[b].presence = .joining) :
    KeepsBut [.chains] s (s.becomePresent b) := by
  have hpres : (s.arrived s.berths[b]).presence = .present := by
    unfold State.arrived
    split <;> rfl
  have hk : KeepsBut [.chains] s (s.modBerth b s.arrived) := by
    refine moves s b (fun h => ?_) (fun _ => hpres) (fun h => ?_) ?_ ?_
    · obtain ⟨-, -, -, hm⟩ := (Berth.presenceLaw_joining hj).1 h
      rw [Berth.presenceLaw_present hpres]
      unfold State.arrived
      split
      · exact ⟨rfl, by show s.berths[b].missingRun ≤ 15; omega⟩
      · exact ⟨rfl, by show s.berths[b].missingRun ≤ 15; omega⟩
    · unfold State.arrived
      split
      · exact joined_selects s _
      · exact h
    · unfold State.arrived
      split <;> rfl
    · unfold State.arrived
      split <;> rfl
  rw [State.becomePresent_eq]
  exact hk.trans (widen _ (((latchPresence _ _).trans (settleGoverning _)).trans (countChain _ _ _)))

/-! ### Returns (R20 to R22, R26, R30, R31) -/

theorem advanceValid (s : State) (b : BerthIx) : KeepsBut [.chains] s (s.advanceValid b) := by
  unfold State.advanceValid
  split
  · next hp =>
    refine moves s b (fun h => ?_) (fun h => ?_) id rfl rfl
    · obtain ⟨hr, -, hm, -⟩ := (Berth.presenceLaw_absent hp).1 h
      exact (Berth.presenceLaw_joining rfl).2 ⟨hr, le_refl 1, (by decide : 1 ≤ 3), hm⟩
    · rw [hp] at h
      cases h
  · next hp =>
    split
    · next h3 =>
      refine moves s b (fun h => ?_) id id rfl rfl
      obtain ⟨hr, h1, -, hm⟩ := (Berth.presenceLaw_joining hp).1 h
      refine (Berth.presenceLaw_joining ?_).2 ⟨hr, Nat.le_succ_of_le h1, h3, hm⟩
      exact hp
    · exact becomePresent hp
  · next hp =>
    refine moves s b (fun h => ?_) id id rfl rfl
    obtain ⟨hv, -⟩ := (Berth.presenceLaw_present hp).1 h
    refine (Berth.presenceLaw_present ?_).2 ⟨hv, Nat.zero_le _⟩
    exact hp

theorem advanceMissing (s : State) (b : BerthIx) : KeepsBut [] s (s.advanceMissing b) := by
  unfold State.advanceMissing
  split
  · exact refl s
  · exact enterAbsent s b
  · next hp =>
    split
    · next h15 =>
      refine modBerth s b ⟨⟨rfl, fun h => ?_, id⟩, rfl, rfl⟩
      obtain ⟨hv, -⟩ := (Berth.presenceLaw_present hp).1 h
      refine (Berth.presenceLaw_present ?_).2 ⟨hv, h15⟩
      exact hp
    · exact enterAbsent s b

/-- R35, R36: headphone and unit fault of a berth that is not ABSENT. -/
theorem recordStatus {s : State} {b : BerthIx} (hp : s.berths[b].presence ≠ .absent) (x y : Bool) :
    KeepsBut [] s (s.recordStatus b x y) := by
  unfold State.recordStatus
  refine (modBerth s b ⟨⟨rfl, fun h => ?_, id⟩, rfl, rfl⟩).trans (countChain _ _ _)
  cases hq : s.berths[b].presence with
  | absent => exact absurd hq hp
  | joining =>
    refine (Berth.presenceLaw_joining ?_).2 ((Berth.presenceLaw_joining hq).1 h)
    rfl
  | present =>
    refine (Berth.presenceLaw_present ?_).2 ((Berth.presenceLaw_present hq).1 h)
    rfl

/-- R33: a selection after a key is what it was, or a step from it. -/
theorem keyed_audio (s : State) (k : Key) (r : Berth) :
    (s.keyed k r).audio = r.audio ∨ (s.keyed k r).audio = stepNext (s.choices .programAudio r.config.allowed) r.audio ∨
      (s.keyed k r).audio = stepPrev (s.choices .programAudio r.config.allowed) r.audio := by
  by_cases h : r.awake = .asleep
  · rw [s.keyed_asleep k h]
    cases k <;> simp [State.keyOnAsleep, r.woken_selections]
  · rw [s.keyed_awake k h]
    cases k <;> simp [State.keyOnAwake]

theorem keyed_video (s : State) (k : Key) (r : Berth) :
    (s.keyed k r).video = r.video ∨ (s.keyed k r).video = stepNext (s.choices .programVideo r.config.allowed) r.video ∨
      (s.keyed k r).video = stepPrev (s.choices .programVideo r.config.allowed) r.video := by
  by_cases h : r.awake = .asleep
  · rw [s.keyed_asleep k h]
    cases k <;> simp [State.keyOnAsleep, r.woken_selections]
  · rw [s.keyed_awake k h]
    cases k <;> simp [State.keyOnAwake]

/-- R33: a step leads to a choice. -/
theorem stepped_open {s : State} {kind : StreamKind} {allowed : BitVec 32} {cur x : Option StreamIx} {v : StreamIx}
    (h : x = stepNext (s.choices kind allowed) cur ∨ x = stepPrev (s.choices kind allowed) cur) (hv : x = some v) :
    s.streams[v].kind = some kind ∧ allowed.getLsbD v.val = true := by
  have hs := s.choices_ascending kind allowed
  refine (s.mem_choices kind _ v).1 (h.elim (fun h => ?_) fun h => ?_)
  · exact ((stepNext_some hs cur v).1 (h.symm.trans hv)).1
  · exact ((stepPrev_some hs cur v).1 (h.symm.trans hv)).1

/-- R33: a key leaves selections that are open, of their kind and allowed. -/
theorem keyed_selects (s : State) (k : Key) {r : Berth} (h : r.Selects s) : (s.keyed k r).Selects s := by
  intro v
  rw [show (s.keyed k r).config = r.config by rw [s.keyed_only k r]]
  refine ⟨fun hv => ?_, fun hv => ?_⟩
  · exact (keyed_audio s k r).elim (fun e => (h v).1 (e.symm.trans hv)) fun e => stepped_open e hv
  · exact (keyed_video s k r).elim (fun e => (h v).2 (e.symm.trans hv)) fun e => stepped_open e hv

/-- R30, R31: a key on a PRESENT berth. -/
theorem keyed_stays (s : State) (k : Key) {r : Berth} (hp : r.presence = .present) :
    Berth.Stays s r (s.keyed k r) ∧ (s.keyed k r).regime = r.regime ∧
      (s.keyed k r).config.quietSource = r.config.quietSource := by
  have h := s.keyed_only k r
  refine ⟨.of_present hp ?_ ?_ ?_ (keyed_selects s k), ?_, ?_⟩ <;> rw [h]

/-- R37: a PRESENT berth appended to the call list. -/
theorem placeCall {s : State} {b : BerthIx} (hp : s.berths[b].presence = .present) : KeepsBut [] s (s.placeCall b) := by
  unfold State.placeCall
  split
  · exact refl s
  · next hm =>
    refine trans ?_ (countChain { s with calls := s.calls ++ [b] } (chainOf b) _)
    intro l _ hs
    cases l with
    | presence => exact hs
    | calls =>
      obtain ⟨h1, h2⟩ := hs
      refine ⟨List.Nodup.append h1 (List.nodup_singleton b) (by simpa using hm), fun b' h' => ?_⟩
      obtain h' | h' := List.mem_append.1 h'
      · exact h2 b' h'
      · rw [List.mem_singleton.1 h']
        exact hp
    | selection => exact hs
    | regime => exact hs
    | chains => exact hs

/-- R26: a key code of a return; only a PRESENT berth takes keys. -/
theorem takeKey {s : State} {b : BerthIx} {w : Bool} (hw : w = true → s.berths[b].presence = .present) (code : Byte) :
    KeepsBut [] s (s.takeKey b w code) := by
  unfold State.takeKey
  refine ite (refl s) ?_
  split
  · next k hk =>
    have hp : s.berths[b].presence = .present := by
      cases w with
      | true => exact hw rfl
      | false => cases hk
    have h1 : KeepsBut [] s (s.modBerth b (s.keyed k)) := modBerth s b (keyed_stays s k hp)
    have hp1 : ((s.modBerth b (s.keyed k)).countChain (chainOf b)
        fun n => { n with keysApplied := bump n.keysApplied }).berths[b].presence = .present := by
      show (s.modBerth b (s.keyed k)).berths[b].presence = .present
      rw [State.modBerth_get, if_pos rfl]
      exact (keyed_stays s k hp).1.presence.trans hp
    exact ite ((h1.trans (countChain _ _ _)).trans (placeCall hp1)) (h1.trans (countChain _ _ _))
  · exact countChain s _ _

/-- R26: a key changes no presence. -/
theorem takeKey_presence (s : State) (b : BerthIx) (w : Bool) (code : Byte) :
    (s.takeKey b w code).berths[b].presence = s.berths[b].presence := by
  unfold State.takeKey
  split
  · rfl
  · split
    · next k _ =>
      have h1 : (s.modBerth b (s.keyed k)).berths[b].presence = s.berths[b].presence := by
        rw [State.modBerth_get, if_pos rfl, s.keyed_only k]
      have h2 : (s.applyKey b k).berths = (s.modBerth b (s.keyed k)).berths := by
        unfold State.applyKey
        dsimp only
        split
        · exact (State.placeCall_same _ b).berths (by decide)
        · rfl
      exact (congrArg (fun x : Vector Berth 48 => x[b].presence) h2).trans h1
    · rfl

/-- R35, R36: a status recorded changes no presence. -/
theorem recordStatus_presence (s : State) (b : BerthIx) (x y : Bool) :
    (s.recordStatus b x y).berths[b].presence = s.berths[b].presence := by
  unfold State.recordStatus
  rw [State.countChain_berths, State.modBerth_get, if_pos rfl]

/-- R21: a PRESENT berth stays PRESENT with a valid return. -/
theorem advanceValid_present {s : State} {b : BerthIx} (h : s.present b = true) :
    (s.advanceValid b).berths[b].presence = .present := by
  have hp : s.berths[b].presence = .present := by simpa [State.present] using h
  unfold State.advanceValid
  rw [hp]
  dsimp only
  rw [State.modBerth_get, if_pos rfl]
  exact hp

theorem noted (s : State) (b : BerthIx) (r : ReturnData) : KeepsBut [.chains] s (s.noted b r) := by
  refine (advanceValid s b).trans (widen _ ?_)
  unfold State.noted
  split
  · exact refl _
  · next hp => exact recordStatus hp _ _

theorem noted_presence (s : State) (b : BerthIx) (r : ReturnData) :
    (s.noted b r).berths[b].presence = (s.advanceValid b).berths[b].presence := by
  unfold State.noted
  split
  · rfl
  · exact recordStatus_presence _ b _ _

/-- R26: the steps of a valid return. -/
theorem takeReturn (s : State) (b : BerthIx) (j : Bool) (r : ReturnData) : KeepsBut [.chains] s (s.takeReturn b j r) := by
  have hw : s.present b = true → (s.noted b r).berths[b].presence = .present := fun h =>
    (noted_presence s b r).trans (advanceValid_present h)
  have h1 := takeKey hw r.key1
  have h2 := takeKey (fun h => (takeKey_presence _ b (s.present b) r.key1).trans (hw h)) r.key2
  exact (noted s b r).trans (widen _ ((h1.trans h2).trans (takeToken _ _ _ _ _ _)))

/-! ### Windows (R134) -/

theorem takeSlot (s : State) (c : ChainIx) (j : Bool) (p : PosIx) (x : Option SlotBytes) :
    KeepsBut [.chains] s (s.takeSlot c j p x) := by
  unfold State.takeSlot
  split
  · exact widen _ ((countChain s c _).trans (advanceMissing _ _))
  · exact widen _ ((countChain s c _).trans (advanceMissing _ _))
  · exact (widen _ (countChain s c _)).trans (takeReturn _ _ _ _)

theorem returnWindow (s : State) (c : ChainIx) (x : ReturnSlots) : KeepsBut [] s (s.returnWindow c x) := by
  cases hw : s.chains[c].windows with
  | nil =>
    unfold State.returnWindow
    rw [hw]
    exact refl s
  | cons w ws =>
    rw [returnWindow_cons x hw]
    have hpop : KeepsBut [] s (s.modChain c fun ch => { ch with windows := ws }) :=
      modChain s c rfl rfl fun _ _ h => absurd (hw.symm.trans h.windows) nofun
    have hclose : KeepsBut [.chains] s ((s.modChain c fun ch => { ch with windows := ws }).closeWindow c w.judges x) :=
      ((widen _ hpop).trans (foldl (fun s p => takeSlot s c _ p x[p]) _ _)).trans (widen _ (countWindow _ c _))
    refine hclose.but fun hs => ?_
    have hrun : ¬ s.chains[c].Stopped := StoppedChainLaw.open hs (by rw [hw]; exact nofun)
    refine (Within.closeWindow _ c w.judges x).stoppedChainLaw (fun _ e => e) ?_ (hpop .chains List.not_mem_nil hs)
    rw [State.modChain_get, if_pos rfl]
    exact hrun

theorem closeSuperseded (s : State) (c : ChainIx) : KeepsBut [] s (s.closeSuperseded c) :=
  foldl (fun s _ => returnWindow s c _) _ s

theorem closeWith (s : State) (r : WindowReturn) : KeepsBut [] s (s.closeWith r) := ite (returnWindow s _ _) (refl s)

theorem closeAllSuperseded (s : State) (rs : List WindowReturn) : KeepsBut [] s (s.closeAllSuperseded rs) :=
  (foldl closeWith rs s).trans (foldl closeSuperseded _ _)

end KeepsBut
end Sys2Proof.Machine
end

section
/-! PROOF. The laws of the berths and of the stopped chains under media, cycle starts and time (R1 to R4, R8, R34, R41, R43,
R97, R113 to R116, R130). -/

namespace Sys2Proof.Machine
namespace KeepsBut

/-! ### Streams (ch. 4) -/

/-- What writes streams, and keeps the kind of each. -/
theorem of_streams {fs : List StateField} {s t : State} (h : Same fs s t)
    (hf : ∀ f ∈ [StateField.berths, .calls, .chains, .mgmt, .timer], f ∉ fs)
    (hk : ∀ v : StreamIx, t.streams[v].kind = s.streams[v].kind) : KeepsBut [] s t :=
  of_chains h (fun f hm => hf f (by simp at hm ⊢; tauto)) hk fun c => by
    rw [h.chains (hf _ (by decide))]
    exact ⟨rfl, rfl, fun _ _ => id⟩

theorem countStream (s : State) (v : StreamIx) (f : StreamCounts → StreamCounts) : KeepsBut [] s (s.countStream v f) :=
  of_streams (State.countStream_same s v f) (by decide) fun w => by
    rw [State.countStream_get]
    split
    · next e => rw [e]
    · rfl

theorem countPart (s : State) (f : PartCounts → PartCounts) : KeepsBut [] s (s.countPart f) :=
  of_same (State.countPart_same s f) (by decide)

theorem presentRings (s : State) (n : Word16) : KeepsBut [] s (s.presentRings n) :=
  of_streams (State.presentRings_same s n) (by decide) fun v => by
    show (Vector.ofFn (s.presentedEntry n))[v].kind = _
    rw [get_ofFn_fin]
    unfold State.presentedEntry
    dsimp only
    split
    · rfl
    · split <;> rfl

theorem takeProgramAudio (s : State) (payload : List Byte) : KeepsBut [] s (s.takeProgramAudio payload) := by
  have block : ∀ (s : State) (v : StreamIx) (r : RingIx) (d : Word16) (blk : ProgramBlock),
      KeepsBut [] s (s.takeProgramBlock v r d blk) := by
    intro s v r d blk
    refine ite (countStream s v _) (ite (countStream s v _) ?_)
    split
    · exact countStream s v _
    · refine trans ?_ (countStream { s with rings := s.rings.set r (s.rings[r].set (ringSlot d) (some (d, blk))) } v _)
      exact of_same (fs := [.rings]) (by simp [Same]) (by decide)
  unfold State.takeProgramAudio
  split
  · exact countU s _
  · exact ite (foldl (fun s j => block s _ _ _ _) _ s) (countU s _)

/-! ### Video (ch. 7) -/

/-- R113, R114: a stopped chain demands nothing, so nothing is placed in its queues (R115). -/
theorem placed_stopped {s : State} {c : ChainIx} (h : s.chains[c].Stopped) (caption : Bool) (v : StreamIx) (len : Nat)
    (e : Option VideoEntry) : s.chains[c].placed caption (s.placement caption v len c) e = s.chains[c] := by
  have hcaption : s.demandsCaption c v = false := by
    unfold State.demandsCaption
    obtain h | h := h <;> rw [h] <;> simp
  have hprogram : s.demandsProgram c v = false := by
    unfold State.demandsProgram
    obtain h | h := h <;> rw [h] <;> simp
  have hp : s.placement caption v len c = .noDemand := by
    unfold State.placement
    rw [hcaption, hprogram]
    exact if_pos (by cases caption <;> rfl)
  rw [hp]
  rfl

/-- R115: a placement writes neither enable nor link. -/
theorem placed_links (ch : Chain) (k : Bool) (p : Placement) (e : Option VideoEntry) :
    (ch.placed k p e).enabled = ch.enabled ∧ (ch.placed k p e).link = ch.link := by
  unfold Chain.placed
  split
  · exact ⟨rfl, rfl⟩
  · exact ⟨rfl, rfl⟩
  · unfold Chain.append
    split <;> exact ⟨rfl, rfl⟩
  · exact ⟨rfl, rfl⟩
  · exact ⟨rfl, rfl⟩

theorem replicate (s : State) (caption : Bool) (v : StreamIx) (due : Word16) (bytes : List Byte) :
    KeepsBut [] s (s.replicate caption v due bytes) := by
  have place : ∀ e : Option VideoEntry, KeepsBut [] s
      (s.mapChains fun c ch => ch.placed caption (s.placement caption v bytes.length c) e) := fun e =>
    of_chains (State.mapChains_same s _) (by decide) (fun _ => rfl) fun c => by
      rw [State.mapChains_get]
      refine ⟨(placed_links _ _ _ _).1, (placed_links _ _ _ _).2, fun hst _ hh => ?_⟩
      rw [placed_stopped hst]
      exact hh
  refine ite (countPart s _) (ite ((place none).trans (countPart _ _)) ?_)
  split
  · exact (place none).trans (countPart _ _)
  · exact ((place _).trans (of_same (same_set_store _ _) (by decide))).trans (countStream _ v _)

theorem takeVideoSegment (s : State) (payload : List Byte) : KeepsBut [] s (s.takeVideoSegment payload) := by
  refine ite (countU s _) ?_
  split
  · exact countU s _
  · exact ite (countStream s _ _) (ite (countStream s _ _) (replicate s _ _ _ _))

theorem flush (s : State) (c : ChainIx) : KeepsBut [] s (s.flush c) :=
  of_chains (State.flush_same s c) (by decide) (fun _ => rfl) fun c' => by
    rw [State.flush_get]
    split
    · next e =>
      subst e
      exact ⟨rfl, rfl, fun _ _ h => ⟨rfl, rfl, rfl, h.windows, h.waiting, h.inFlight⟩⟩
    · exact ⟨rfl, rfl, fun _ _ => id⟩

/-! ### Frames (R130, R134) -/

/-- R130: a chain that is not stopped, whatever becomes of its record. -/
theorem modRunning (s : State) (c : ChainIx) {f : Chain → Chain} (hr : ¬ s.chains[c].Stopped)
    (he : (f s.chains[c]).enabled = s.chains[c].enabled) (hl : (f s.chains[c]).link = s.chains[c].link) :
    KeepsBut [] s (s.modChain c f) :=
  modChain s c he hl fun hs => absurd hs hr

theorem sendFrame_links (ch : Chain) (f : ChainFrame) :
    (ch.placeQuery.sendFrame f).enabled = ch.enabled ∧ (ch.placeQuery.sendFrame f).link = ch.link := by
  unfold Chain.sendFrame
  split <;> exact ⟨rfl, rfl⟩

theorem chainCycle (s : State) (n : Word16) (c : ChainIx) : KeepsBut [] s (s.chainCycle n c) := by
  unfold State.chainCycle
  dsimp only
  split
  · exact refl s
  · next hr =>
    refine ite (countChain s c _) ?_
    have h1 : KeepsBut [] s (s.assembleVideo c n) :=
      (of_same (same_set_store s _) (by decide)).trans (modRunning _ c hr rfl rfl)
    refine h1.trans (modRunning _ c ?_ (sendFrame_links _ _).1 (sendFrame_links _ _).2)
    unfold State.assembleVideo
    dsimp only
    rw [State.modChain_get, if_pos rfl]
    exact hr

theorem chainsCycle (s : State) (n : Word16) : KeepsBut [] s (s.chainsCycle n) := foldl (fun s c => chainCycle s n c) _ s

theorem frameDone (s : State) (r : WindowReturn) : KeepsBut [] s (s.frameDone r) := by
  unfold State.frameDone
  split
  · exact refl s
  · exact modChain s _ rfl rfl fun _ _ h => ⟨h.priority, h.program, h.wait, h.windows, h.waiting, h.inFlight⟩
  · next f _ hw =>
    refine (trans ?_ (closeWith _ r)).trans (closeSuperseded _ _)
    exact modChain s _ rfl rfl fun _ _ h => absurd (hw.symm.trans h.waiting) nofun

/-! ### Idle timer and mixer (R34, R97) -/

theorem ticked_stays (s : State) {r : Berth} (hp : r.presence = .present) (ha : r.awake ≠ .asleep) :
    Berth.Stays s r r.ticked ∧ r.ticked.regime = r.regime ∧ r.ticked.config.quietSource = r.config.quietSource := by
  rw [Berth.ticked_eq ha]
  exact ⟨.of_present hp rfl rfl rfl id, rfl, rfl⟩

theorem idleTick (s : State) : KeepsBut [] s s.idleTick := by
  refine ite (mapBerths s fun b r => ?_) (refl s)
  split
  · next h =>
    obtain ⟨hp, ha, -⟩ := (State.idleRuns_iff s r).1 h
    exact ticked_stays s hp ha
  · exact ⟨.refl s r, rfl, rfl⟩

theorem mix (s : State) : KeepsBut [] s s.mix := by
  have hs := State.mix_same s
  have hstay : ∀ b : BerthIx, Berth.Stays s s.berths[b] s.mix.berths[b] ∧
      s.mix.berths[b].regime = s.berths[b].regime ∧
      s.mix.berths[b].config.quietSource = s.berths[b].config.quietSource := by
    intro b
    rw [State.mix_get]
    split
    · next h =>
      exact ⟨.of_present (by simpa [State.present] using h.2) rfl rfl rfl id, rfl, rfl⟩
    · exact ⟨.refl s _, rfl, rfl⟩
  refine (of_stays (fun b => (hstay b).1) (hs.calls (by decide)) (fun v => by rw [hs.streams (by decide)]) fun c => ?_).but
    fun hr => RegimeLaw.congr hr (fun b => (hstay b).2.1) (fun b => (hstay b).2.2) (hs.levelled (by decide) (by decide))
  unfold State.mix
  split
  · rw [get_ofFn_fin]
    exact ⟨rfl, rfl, fun _ _ h => ⟨h.priority, h.program, h.wait, h.windows, h.waiting, h.inFlight⟩⟩
  · exact ⟨rfl, rfl, fun _ _ => id⟩

theorem mixAndRelease (s : State) : KeepsBut [] s s.mixAndRelease :=
  (mix s).trans (ite (evaluateReleases _) (refl _))

theorem tickAndChannels (s : State) (t f : Bool) : KeepsBut [] s (s.tickAndChannels t f) :=
  ite (ite ((idleTick s).trans (channelsCycle _)) ((channelsCycle s).trans (idleTick _))) (channelsCycle s)

/-! ### Cycle starts (R1, R41) -/

/-- The blocks of a cycle start keep every law but that of regimes, which looks at the hand-over. -/
theorem cycleWork (s : State) (n : Word16) (t qa qb : Bool) (p : Fin 5) (f : Bool) :
    KeepsBut [.regime] s (s.cycleWork n t qa qb p f) := by
  have quiet : ∀ (s : State) (c : Prop) [Decidable c], KeepsBut [.regime] s (if c then s.quietHandOver qa qb else s) :=
    fun s c _ => .ite (quietHandOver s qa qb) (widen _ (refl s))
  have h1 := (quiet s (p = 0)).trans (widen _ ((presentRings _ n).trans (tickAndChannels _ (t && p != 2) f)))
  have h2 := (h1.trans (quiet _ (p = 1))).trans (widen _ (mixAndRelease _))
  have h3 := (h2.trans (quiet _ (p = 2 ∨ p = 3))).trans
    (widen _ (ite (c := (t && p == 2) = true) (idleTick _) (refl _)))
  exact (h3.trans (widen _ (chainsCycle _ n))).trans (quiet _ (p = 4))

theorem cycleOpened (s : State) (n : Word16) (k : Bool) (l : LineSample) : KeepsBut [.regime] s (s.cycleOpened n k l) := by
  have h := (State.cycleOpened_fields s n k l).1
  refine of_berths h (by decide) fun b => ?_
  rw [h.berths (by decide)]
  exact .refl s _

/-- R41, R43: a cycle start hands over the levels that it accepts. -/
theorem runCycle (s : State) (n : Word16) (k : Bool) (l : LineSample) : KeepsBut [] s (s.runCycle n k l) := by
  rw [State.runCycle_eq]
  refine ((cycleOpened s n k l).trans (cycleWork _ _ _ _ _ _ _)).but fun hr => ?_
  have h := (State.cycleOpened_fields s n k l).1
  obtain ⟨x, hx, hy⟩ := cycleWork_handOver (s.cycleOpened n k l) n (tickDue s.timer.divider) s.effectiveQA s.effectiveQB
    (if tickDue s.timer.divider then Config.tickBeforeChannels s.draws else true)
    (if s.acceptsLevel l then Config.handoverPlace s.draws else 0)
  have hq : RegimeLaw (x.quietHandOver s.effectiveQA s.effectiveQB) := regimeLaw_quietHandOver fun b => by
    rw [hx.regime, hx.config, h.berths (by decide)]
    exact hr b
  exact hq.congr hy.regime (fun b => by rw [hy.config]) (levelled_of hy.part (by rw [hy.timer]) (by rw [hy.timer]))

theorem startCycle (s : State) (n : Word16) (k : Bool) (l : LineSample) : KeepsBut [] s (s.startCycle n k l) :=
  (runCycle s n k l).trans (closeAllSuperseded _ _)

theorem missMark (s : State) : KeepsBut [] s s.missMark :=
  of_level (State.missMark_same s) (by decide) (levelled_of (by rw [(State.missMark_same s).mgmt (by decide)])
    (by rw [State.missMark_timer]) (by rw [State.missMark_timer]))

theorem selfStart (s : State) (l : LineSample) : KeepsBut [] s (s.selfStart l) :=
  ((missMark s).trans (countPart _ _)).trans (startCycle _ _ _ _)

theorem markStarts (s : State) (n : Word16) (l : LineSample) : KeepsBut [] s (s.markStarts n l) := by
  have h1 : KeepsBut [] s (s.modTimer fun t => { t with missedRun := 0, firstMark := false }) :=
    of_level (State.modTimer_same s _) (by decide) ⟨rfl, rfl⟩
  exact (h1.trans (countPart _ _)).trans (startCycle _ _ _ _)

theorem received (s : State) (p : Parcel) : KeepsBut [] s (s.receivedU.queueThrough p) :=
  of_same (State.receivedThrough_same s p) (by decide)

theorem takeMarkParcel (s : State) (h : Header) (l : LineSample) (p : List Byte) :
    KeepsBut [] s (s.takeMarkParcel h l p) :=
  (received s _).trans (ite (ite (markStarts _ _ l) (countPart _ _)) (countU _ _))

/-! ### Time (R4, R14) -/

theorem takeDue (s : State) : KeepsBut [] s s.takeDue := by
  have fails : ∀ s : State, KeepsBut [] s s.backboneFails := fun s => of_same (State.backboneFails_same s) (by decide)
  have drawn : KeepsBut [] s s.drawn := of_same (same_set_draws s _) (by decide)
  obtain ⟨-, -, e⟩ | ⟨-, -, e⟩ | ⟨-, -, e⟩ | ⟨-, -, e | e⟩ := s.takeDue_cases <;> rw [e]
  · exact refl s
  · exact fails s
  · exact selfStart s _
  · exact (drawn.trans (fails _)).trans (selfStart _ _)
  · exact (drawn.trans (selfStart _ _)).trans (fails _)

theorem passTime (s : State) (d : Nat) : KeepsBut [] s (s.passTime d) := by
  have advance : ∀ (s : State) (d : Nat), KeepsBut [] s (s.advanceTime d) := fun s d =>
    of_level (State.advanceTime_same s d) (by decide) ⟨rfl, rfl⟩
  induction s, d using State.passTime_induction with
  | stop s d hd =>
    rw [passTime_free hd]
    exact advance s d
  | due s d hd ih =>
    rw [State.passTime_due hd]
    exact ((advance s _).trans (takeDue _)).trans ih

theorem secondsTick (s : State) (v : Int) : KeepsBut [] s (s.secondsTick v) := by
  have h1 : KeepsBut [] s (s.wrapped v) :=
    of_level (fs := [.timer, .pins]) (by simp [Same, State.wrapped]) (by decide) ⟨rfl, rfl⟩
  exact (h1.trans (of_same (State.readTemperature_same _ v) (by decide))).trans (idleTick _)

/-- R41, R43: levels accepted are handed over. -/
theorem acceptQuiet (s : State) (qa qb : Bool) : KeepsBut [] s (s.acceptQuiet qa qb) := by
  have h := State.acceptQuiet_same s qa qb
  rw [State.acceptQuiet_eq]
  refine (trans ?_ (quietHandOver _ _ _)).but fun hr => regimeLaw_quietHandOver fun b => hr b
  exact of_berths (fs := [.timer, .pins]) (by simp [Same, State.eighthTaken]) (by decide) fun b => .refl s _

theorem signalBack (s : State) : KeepsBut [] s s.signalBack := by
  have fails : KeepsBut [] s (if s.signalLimitReached then s.backboneFails else s) :=
    ite (of_same (State.backboneFails_same s) (by decide)) (refl s)
  exact fails.trans (of_same (fs := [.pins, .faults])
    (((State.setUpstreamLine_same _ true).widen (by decide)).trans ((State.modFaults_same _ _).widen (by decide))) (by decide))

theorem signalGone (s : State) : KeepsBut [] s s.signalGone := by
  unfold State.signalGone
  split
  · exact refl s
  · exact refl s
  · exact (passTime s _).trans (of_same (State.backboneFails_same _) (by decide))

end KeepsBut
end Sys2Proof.Machine
end

section
/-! PROOF. The laws of the berths and of the stopped chains under links, loads and management (R18, R25, R27, R46, R47, R48,
R56 to R58, R127 to R129, R140, R154 to R159, R166). -/

namespace Sys2Proof.Machine

/-! ### A berth reconfigured (R18) -/

/-- R18, R46: the record of a berth after a load of its configured part, before its regime is evaluated. -/
def State.copiedBerth (s : State) (cfg : BerthConfig) (r : Berth) : Berth :=
  if cfg.profile = r.config.profile then reconfigured cfg r else s.copied (reconfigured cfg r)

/-- R18, R43, R46: the record of a berth after a load of its configured part. -/
def State.loadedBerth (s : State) (cfg : BerthConfig) (r : Berth) : Berth :=
  if cfg.quietSource = r.config.quietSource then s.copiedBerth cfg r else s.evaluated (s.copiedBerth cfg r)

theorem State.modBerth_modBerth (s : State) (b : BerthIx) (f g : Berth → Berth) :
    (s.modBerth b f).modBerth b g = s.modBerth b fun r => g (f r) := by
  unfold State.modBerth
  simp only [Fin.getElem_fin, Vector.getElem_set_self, Vector.set_set]

/-- R18: the two writes of a load before the evaluation are one. -/
theorem State.loadBerth_copied (s : State) (b : BerthIx) (cfg : BerthConfig) :
    (if cfg.profile = s.berths[b].config.profile then s.modBerth b (reconfigured cfg)
      else (s.modBerth b (reconfigured cfg)).modBerth b (s.modBerth b (reconfigured cfg)).copied) =
      s.modBerth b fun _ => s.copiedBerth cfg s.berths[b] := by
  unfold State.copiedBerth
  split
  · rfl
  · exact State.modBerth_modBerth s b _ _

theorem State.loadBerth_get (s : State) (b b' : BerthIx) (cfg : BerthConfig) : (s.loadBerth b cfg).berths[b'] =
    if b' = b then s.loadedBerth cfg s.berths[b] else s.berths[b'] := by
  unfold State.loadBerth State.loadedBerth
  dsimp only
  rw [State.loadBerth_copied]
  by_cases h : cfg.quietSource = s.berths[b].config.quietSource
  · rw [if_pos h, if_pos h, State.modBerth_get]
  · rw [if_neg h, if_neg h]
    show ((s.modBerth b fun _ => s.copiedBerth cfg s.berths[b]).modBerth b
      (s.modBerth b fun _ => s.copiedBerth cfg s.berths[b]).evaluated).berths[b'] = _
    rw [State.modBerth_modBerth, State.modBerth_get]
    rfl

/-- R18, R46: what a load writes of the record of a berth. -/
theorem State.copiedBerth_only (s : State) (cfg : BerthConfig) (r : Berth) : s.copiedBerth cfg r =
    { reconfigured cfg r with settings := (s.copiedBerth cfg r).settings } := by
  unfold State.copiedBerth
  split <;> rfl

theorem State.loadedBerth_only (s : State) (cfg : BerthConfig) (r : Berth) : s.loadedBerth cfg r =
    { reconfigured cfg r with
      regime := (s.loadedBerth cfg r).regime, settings := (s.loadedBerth cfg r).settings } := by
  unfold State.loadedBerth
  split
  · rw [s.copiedBerth_only]
  · rw [State.evaluated_eq, s.copiedBerth_only]

/-! ### Links and chain entries (R127 to R129) -/

/-- R25, R129: after the stop of a chain the law holds of it, and of the others where it held before. -/
theorem stoppedChainLaw_chainStops {s : State} {c : ChainIx}
    (h : ∀ c' : ChainIx, c' ≠ c → s.chains[c'].Stopped → s.chains[c'].Halted ∧ s.Vacant c') :
    StoppedChainLaw (s.chainStops c) := by
  obtain ⟨-, hchains, hown, hothers, -⟩ := s.chainStops_spec c
  refine (stoppedChainLaw_iff _).2 fun c' hs => ?_
  by_cases e : c' = c
  · subst e
    refine ⟨?_, fun p => ?_⟩
    · rw [s.chainStops_chain]
      exact ⟨rfl, rfl, rfl, rfl, rfl, rfl⟩
    · obtain ⟨ha, hj, hp⟩ := hown p
      cases hq : s.berths[berthAt c' p].presence with
      | absent => rw [ha hq, hq]
      | joining => rw [hj hq]; rfl
      | present => rw [hp hq]; rfl
  · rw [hchains c' e] at hs ⊢
    obtain ⟨k1, k2⟩ := h c' e hs
    refine ⟨k1, fun p => ?_⟩
    rw [hothers _ fun hb => e ((chainOf_berthAt c' p).symm.trans hb)]
    exact k2 p

namespace KeepsBut

theorem chainStops (s : State) (c : ChainIx) : KeepsBut [] s (s.chainStops c) := by
  have habandon : KeepsBut [] s (s.modChain c Chain.abandon) :=
    modChain s c rfl rfl fun _ _ h => ⟨h.priority, h.program, h.wait, rfl, rfl, h.inFlight⟩
  exact ((habandon.trans (discardQueries _ c)).trans (foldl (fun s p => enterAbsent s _) _ _)).trans (flush _ c)

/-- What writes chains, in any way, keeps the other laws. -/
theorem modAnyChain (s : State) (c : ChainIx) (f : Chain → Chain) : KeepsBut [.chains] s (s.modChain c f) := by
  intro l hl hs
  cases l with
  | presence => exact hs
  | calls => exact hs
  | selection => exact hs
  | regime => exact hs
  | chains => simp at hl

/-- A chain that may only leave its stop keeps the law, where what it holds stays. -/
theorem modStart (s : State) (c : ChainIx) {f : Chain → Chain} (hst : (f s.chains[c]).Stopped → s.chains[c].Stopped)
    (hh : s.chains[c].Halted → (f s.chains[c]).Halted) : KeepsBut [] s (s.modChain c f) :=
  (modAnyChain s c f).but fun h => (stoppedChainLaw_iff _).2 fun c' hs => by
    rw [State.modChain_get] at hs ⊢
    split at hs
    · next e =>
      subst e
      obtain ⟨k1, k2⟩ := (stoppedChainLaw_iff s).1 h c' (hst hs)
      rw [if_pos rfl]
      exact ⟨hh k1, k2⟩
    · next e =>
      rw [if_neg e]
      exact (stoppedChainLaw_iff s).1 h c' hs

/-- R129: a chain that is changed in any way and then stopped. -/
theorem changedAndStopped (s : State) (c : ChainIx) (f : Chain → Chain) :
    KeepsBut [] s ((s.modChain c f).chainStops c) :=
  ((modAnyChain s c f).trans (widen _ (chainStops _ c))).but fun h => stoppedChainLaw_chainStops fun c' hne hs => by
    rw [State.modChain_get, if_neg hne] at hs ⊢
    exact (stoppedChainLaw_iff s).1 h c' hs

theorem setChainLine (s : State) (c : ChainIx) (k : Bool) : KeepsBut [] s (s.setChainLine c k) :=
  of_same (State.setChainLine_same s c k) (by decide)

theorem chainLineLost (s : State) (c : ChainIx) : KeepsBut [] s (s.chainLineLost c) :=
  ite ((setChainLine s c false).trans ((changedAndStopped _ c _).trans (countChain _ c _))) (setChainLine s c false)

theorem chainLineBack (s : State) (c : ChainIx) : KeepsBut [] s (s.chainLineBack c) := by
  refine (setChainLine s c true).trans (modStart _ c (fun h => h.elim .inl fun h => (by cases h)) fun h => ?_)
  exact ⟨h.priority, h.program, h.wait, h.windows, h.waiting, h.inFlight⟩

theorem loadChain (s : State) (c : ChainIx) (e : Bool) (x y : Nat) : KeepsBut [] s (s.loadChain c e x y) := by
  unfold State.loadChain
  dsimp only
  split
  · exact changedAndStopped s c _
  · next h =>
    refine modStart s c (fun hs => hs.elim (fun he => .inl ?_) .inr) fun hh =>
      ⟨hh.priority, hh.program, hh.wait, hh.windows, hh.waiting, hh.inFlight⟩
    have he : e = false := he
    simpa [he] using h

/-! ### Loads (R18, R42, R46, R72, R157) -/

/-- Two records of which the second names no more selections, over a smaller or the same set. -/
theorem reconfigured_selects (s : State) (cfg : BerthConfig) {r : Berth} (h : r.Selects s) :
    (reconfigured cfg r).Selects s := by
  intro v
  refine ⟨fun hv => ?_, fun hv => ?_⟩
  · obtain ⟨hv, ha⟩ := Option.filter_eq_some_iff.1 hv
    exact ⟨((h v).1 hv).1, ha⟩
  · obtain ⟨hv, ha⟩ := Option.filter_eq_some_iff.1 hv
    exact ⟨((h v).2 hv).1, ha⟩

theorem loadBerth (s : State) (b : BerthIx) (cfg : BerthConfig) : KeepsBut [] s (s.loadBerth b cfg) := by
  have hs := State.loadBerth_same s b cfg
  refine (of_berths hs (by decide) fun b' => ?_).but fun hr b' => ?_
  · rw [State.loadBerth_get]
    split
    · next e =>
      subst e
      rw [s.loadedBerth_only]
      exact ⟨rfl, id, reconfigured_selects s cfg⟩
    · exact .refl s _
  · obtain ⟨h1, h2⟩ := hs.levelled (by decide) (by decide)
    rw [h1, h2, State.loadBerth_get]
    split
    · next e =>
      subst e
      unfold State.loadedBerth
      split
      · next hq =>
        rw [s.copiedBerth_only]
        show s.berths[b'].regime = .night ↔ NightUnder cfg.quietSource _ _
        rw [hq]
        exact hr b'
      · exact evaluated_night s _
    · exact hr b'

theorem loadSettings (s : State) (p : PartSettings) : KeepsBut [] s (s.loadSettings p) := by
  have judge : ∀ s : State, KeepsBut [] s s.judgeOverheat := fun s => of_same (State.judgeOverheat_same s) (by decide)
  unfold State.loadSettings
  dsimp only
  split
  · next h =>
    have h1 : KeepsBut [] s (s.modMgmt fun m => { m with settings := p }) := by
      refine of_level (State.modMgmt_same s _) (by decide) ?_
      unfold Levelled State.effectiveQA State.effectiveQB
      rw [← h.1, ← h.2]
      exact ⟨rfl, rfl⟩
    exact h1.trans (judge _)
  · have h1 : KeepsBut [.regime] s (s.modMgmt fun m => { m with settings := p }) :=
      of_berths (State.modMgmt_same s _) (by decide) fun b => .refl s _
    refine KeepsBut.trans (KeepsBut.but (l := .regime) ?_ fun _ => regimeLaw_evaluateAll _) (judge _)
    exact (h1.trans (widen _ (countPart _ _))).trans (evaluateAll _)

theorem loadClass (s : State) (i : Fin 4) (e : ClassEntry) : KeepsBut [] s (s.loadClass i e) := by
  have h1 : KeepsBut [] s { s with classes := s.classes.set i e } := of_same (same_set_classes s _) (by decide)
  refine ite h1 ((h1.trans (mapBerths _ fun b r => ?_)).trans (evaluateReleases _))
  split
  · exact ⟨.unducked _ r, rfl, rfl⟩
  · exact ⟨.refl _ r, rfl, rfl⟩

/-- R159: an entry written. -/
theorem loadEntry (s : State) (t : Table) (i : Nat) (bs : List Byte) : KeepsBut [] s (s.loadEntry t i bs) := by
  unfold State.loadEntry
  cases t with
  | berth =>
    dsimp only
    split
    · exact loadBerth s _ _
    · exact refl s
  | zone =>
    dsimp only
    split
    · exact of_same (same_set_zones s _) (by decide)
    · exact refl s
  | profile =>
    dsimp only
    split
    · exact (of_same (same_set_profiles s _) (by decide)).trans (copyProfile _ _)
    · exact refl s
  | cls =>
    dsimp only
    split
    · exact loadClass s _ _
    · exact refl s
  | chain =>
    dsimp only
    split
    · exact loadChain s _ _ _ _
    · exact refl s
  | settings => exact loadSettings s _
  | stream => exact refl s
  | channel => exact refl s

/-! ### Management (R56 to R58, R154 to R162) -/

theorem clearGroup (s : State) (g : Group) : KeepsBut [] s (s.clearGroup g) := by
  cases g with
  | portU => exact countU s _
  | portT => exact of_same (State.countT_same s _) (by decide)
  | stream v => exact countStream s v _
  | channel a => exact of_same (State.countChannel_same s a _) (by decide)
  | chain c => exact countChain s c _
  | part => exact countPart s _

/-- R27: join initialisation of a PRESENT berth. -/
theorem joined_stays (s : State) {r : Berth} (hp : r.presence = .present) :
    Berth.Stays s r (s.joined r) ∧ (s.joined r).regime = r.regime ∧
      (s.joined r).config.quietSource = r.config.quietSource :=
  ⟨.of_present hp rfl rfl rfl fun _ => joined_selects s r, rfl, rfl⟩

/-- R47: every berth evaluated and copied into. -/
theorem enterServiceSettings (s : State) : KeepsBut [] s s.enterServiceSettings :=
  ((evaluateAll s).but fun _ => regimeLaw_evaluateAll s).trans
    (mapBerths _ fun _ r => ⟨.dressed _ r _ _, rfl, rfl⟩)

/-- R28: every PRESENT berth join-initialised. -/
theorem joinAll (s : State) : KeepsBut [] s s.joinAll :=
  mapBerths s fun b r => by
    split
    · next hp => exact joined_stays s hp
    · exact ⟨.refl s r, rfl, rfl⟩

/-- What writes the mode of operation. -/
theorem setMode (s : State) (m : Mode) : KeepsBut [] s (s.modMgmt fun x => { x with mode := m }) :=
  of_level (State.modMgmt_same s _) (by decide) ⟨rfl, rfl⟩

theorem intoService (s : State) : KeepsBut [] s s.intoService :=
  ((setMode s .service).trans (enterServiceSettings _)).trans (joinAll _)

theorem intoConfiguration (s : State) : KeepsBut [] s s.intoConfiguration := by
  exact ((((setMode s .configuration).trans (idleChannel _ 0)).trans (idleChannel _ 1)).trans
    (of_same (State.emptyRings_same _) (by decide))).trans (foldl flush _ _)

/-- R56: a CLOSED stream is no selection, so it may be opened. -/
theorem openStream {s : State} {v : StreamIx} (hv : s.streams[v].kind = none) (f : StreamEntry → StreamEntry) :
    KeepsBut [] s (s.modStream v f) := by
  intro l _ hs
  cases l with
  | presence => exact hs
  | calls => exact hs
  | selection =>
    intro b w
    obtain ⟨h1, h2⟩ := hs b w
    have other : ∀ {k : StreamKind}, s.streams[w].kind = some k → (s.modStream v f).streams[w].kind = some k := by
      intro k hk
      rw [State.modStream_get, if_neg fun e => ?_]
      · exact hk
      · rw [e, hv] at hk
        cases hk
    exact ⟨fun h => ⟨other (h1 h).1, (h1 h).2⟩, fun h => ⟨other (h2 h).1, (h2 h).2⟩⟩
  | regime => exact hs
  | chains => exact hs

/-- R58: the record of a berth after stream `v` closed. -/
theorem closeStream_get (s : State) (v : StreamIx) (b : BerthIx) : (s.closeStream v).berths[b] = { s.berths[b] with
    audio := if s.berths[b].audio = some v then none else s.berths[b].audio
    video := if s.berths[b].video = some v then none else s.berths[b].video } := by
  unfold State.closeStream State.deselect
  dsimp only
  rw [State.mapBerths_get]
  split <;> rfl

theorem closeStream_kind (s : State) {v w : StreamIx} (hne : w ≠ v) :
    (s.closeStream v).streams[w].kind = s.streams[w].kind := by
  unfold State.closeStream State.deselect
  dsimp only
  rw [(State.mapBerths_same _ _).streams (by decide), State.modStream_get, if_neg hne]
  split <;> rfl

/-- R58: what is selected after stream `v` closed was selected before, and is not `v`. -/
theorem deselected_some {v w : StreamIx} {cur : Option StreamIx} (h : (if cur = some v then none else cur) = some w) :
    w ≠ v ∧ cur = some w := by
  split at h
  · cases h
  · next e => exact ⟨fun k => e (k ▸ h), h⟩

/-- R57, R58: a stream that closes is no selection any more. -/
theorem closeStream (s : State) (v : StreamIx) : KeepsBut [] s (s.closeStream v) := by
  have hs := State.closeStream_same s v
  intro l _ h
  cases l with
  | presence =>
    intro b
    rw [closeStream_get]
    exact h b
  | calls =>
    unfold Law.Holds CallLaw
    rw [hs.calls (by decide)]
    refine ⟨h.1, fun b hm => ?_⟩
    rw [closeStream_get]
    exact h.2 b hm
  | selection =>
    intro b w
    obtain ⟨h1, h2⟩ := h b w
    rw [closeStream_get]
    refine ⟨fun hw => ?_, fun hw => ?_⟩
    · obtain ⟨hne, hw⟩ := deselected_some hw
      rw [closeStream_kind s hne]
      exact h1 hw
    · obtain ⟨hne, hw⟩ := deselected_some hw
      rw [closeStream_kind s hne]
      exact h2 hw
  | regime =>
    exact RegimeLaw.congr h (fun b => by rw [closeStream_get]) (fun b => by rw [closeStream_get])
      (hs.levelled (by decide) (by decide))
  | chains =>
    refine (stoppedChainLaw_iff _).2 fun c hc => ?_
    rw [hs.chains (by decide)] at hc ⊢
    obtain ⟨k1, k2⟩ := (stoppedChainLaw_iff s).1 h c hc
    refine ⟨k1, fun p => ?_⟩
    rw [closeStream_get]
    exact k2 p

/-- R37: calls acknowledged leave the list. -/
theorem acknowledge (s : State) (named : BitVec 48) : KeepsBut [] s (s.acknowledge named) := by
  intro l _ hs
  cases l with
  | presence => exact hs
  | calls => exact ⟨hs.1.filter _, fun b hm => hs.2 b (List.mem_of_mem_filter hm)⟩
  | selection => exact hs
  | regime => exact hs
  | chains => exact hs

end KeepsBut
end Sys2Proof.Machine
end

section
/-! PROOF. Every step keeps the laws of the berths and of the stopped chains (R21, R22, R24, R25, R33, R37, R38, R43, R111,
R129). -/

namespace Sys2Proof.Machine

/-! ### Resets (R19, R44, R93, R166) -/

/-- The values of a reset meet every law. -/
theorem law_afterReset (pins : Pins) (l : Law) : l.Holds (State.afterReset pins) := by
  have hb : ∀ b : BerthIx, (State.afterReset pins).berths[b] = Berth.initial := fun b => get_replicate_fin _ b
  cases l with
  | presence =>
    intro b
    rw [hb]
    exact (Berth.presenceLaw_absent rfl).2 ⟨⟨rfl, rfl, rfl, rfl, rfl, rfl⟩, rfl, rfl, rfl, rfl⟩
  | calls => exact ⟨List.nodup_nil, fun _ h => absurd h List.not_mem_nil⟩
  | selection =>
    intro b v
    rw [hb]
    exact ⟨nofun, nofun⟩
  | regime =>
    intro b
    rw [hb]
    exact ⟨nofun, fun h => by obtain ⟨h, -⟩ | ⟨h, -⟩ | ⟨h, -⟩ := h <;> cases h⟩
  | chains =>
    refine (stoppedChainLaw_iff _).2 fun c _ => ⟨?_, fun p => ?_⟩
    · rw [show (State.afterReset pins).chains[c] = Chain.initial pins.chainLines[c] from get_ofFn_fin _ c]
      exact ⟨rfl, rfl, rfl, rfl, rfl, rfl⟩
    · rw [hb]
      rfl

namespace KeepsBut

/-- A reset leaves the values of a reset, whatever holds the part and waits (R166). -/
theorem of_reset {s t : State} (pins : Pins) (h : Same [.held, .draws, .pending] (State.afterReset pins) t) :
    KeepsBut [] s t :=
  fun l hl _ => of_same h (by decide) l hl (law_afterReset pins l)

theorem resetNow (s : State) : KeepsBut [] s s.resetNow := of_reset s.pins (by simp [Same, State.resetNow])

/-! ### Commands and media -/

/-- R56: OPEN STREAM opens CLOSED streams alone. -/
theorem manageOpenStream (body : List Byte) (s : State) : KeepsBut [] s (Machine.manageOpenStream body s).1 := by
  unfold Machine.manageOpenStream withLength
  split
  · split
    · exact refl s
    · exact refl s
    · next v k _ _ =>
      split
      · exact refl s
      · next hv =>
        have hv : s.streams[v].kind = none := by simpa using hv
        cases k with
        | programVideo => exact openStream hv _
        | captionVideo => exact openStream hv _
        | programAudio =>
          dsimp only
          split
          · exact refl s
          · exact openStream hv _
  · exact refl s

/-- R28, R48: RESET BERTH join-initialises PRESENT berths alone. -/
theorem manageResetBerth (body : List Byte) (s : State) : KeepsBut [] s (Machine.manageResetBerth body s).1 := by
  unfold Machine.manageResetBerth withLength
  split
  · split
    · exact refl s
    · split
      · split
        · next hp => exact modBerth s _ (joined_stays s (by simpa [State.present] using hp))
        · exact refl s
      · exact refl s
  · exact refl s

/-- Management keeps the laws. -/
theorem manageCommand (c : Command) (body : List Byte) (s : State) : KeepsBut [] s (Machine.manageCommand c body s).1 := by
  have append : ∀ (c : ChainIx) (f : Chain → Chain), (∀ ch, (f ch).enabled = ch.enabled) → (∀ ch, (f ch).link = ch.link) →
      (∀ ch : Chain, ch.Halted → (f ch).Halted) → KeepsBut [] s ((s.modChain c f).startQueries c) :=
    fun c f he hl hh => (modChain s c (he _) (hl _) fun _ _ => hh _).trans (startQueries _ c)
  by_cases ho : c = .openStream
  · subst ho
    exact manageOpenStream body s
  by_cases hr : c = .resetBerth
  · subst hr
    exact manageResetBerth body s
  have h := (manageCommand_yields c body s).1
  generalize (Machine.manageCommand c body s).1 = t at h
  cases h with
  | stays => exact refl s
  | loads => exact foldl (fun s j => loadEntry s _ _ _) _ s
  | opensVideo => exact absurd rfl ho
  | opensAudio => exact absurd rfl ho
  | closes v => exact closeStream s v
  | joins => exact absurd rfl hr
  | overlays b => exact modBerth s b ⟨.dressed s _ s.berths[b].regime _, rfl, rfl⟩
  | clearsGroup g => exact clearGroup s g
  | clearsAttention => exact of_level (State.modMgmt_same s _) (by decide) ⟨rfl, rfl⟩
  | acknowledges named => exact acknowledge s named
  | clearsFaults => exact of_same (State.clearFaults_same s) (by decide)
  | entersService => exact intoService s
  | entersConfiguration => exact intoConfiguration s
  | asks c q =>
    exact append c _ (fun _ => rfl) (fun _ => rfl) fun _ h => ⟨h.priority, h.program, h.wait, h.windows, h.waiting, h.inFlight⟩
  | fetches c =>
    exact append c _ (fun _ => rfl) (fun _ => rfl) fun _ h => ⟨h.priority, h.program, h.wait, h.windows, h.waiting, h.inFlight⟩
  | aborts c => exact discardQueries s c

/-- A COMMAND parcel keeps the laws where management does. -/
theorem of_taken {s t : State} {m : State → Managed} (h : Taken s m t) (hm : ∀ s, KeepsBut [] s (m s).1) :
    KeepsBut [] s t := by
  have answered : ∀ {s1 t : State}, Same [.up, .thru] s s1 → Same [.up] (m s1).1 t → KeepsBut [] s t := fun h1 ht =>
    ((of_same h1 (by decide)).trans (hm _)).trans (of_same ht (by decide))
  cases h with
  | forwarded _ h => exact of_same h (by decide)
  | executed s1 _ h _ ht => exact answered h ht
  | resetPending s1 _ h _ ht => exact (answered h ht).trans (of_level (State.modMgmt_same _ _) (by decide) ⟨rfl, rfl⟩)
  | reset s1 _ h _ ht => exact (answered h ht).trans (resetNow _)

theorem managePayload (payload : List Byte) (s : State) : KeepsBut [] s (Machine.managePayload payload s).1 := by
  unfold Machine.managePayload
  split
  · exact refl s
  · split
    · exact refl s
    · exact manageCommand _ _ s

theorem command (s : State) (h : Header) (c : Command) (body : List Byte) : KeepsBut [] s (s.command h c body) :=
  of_taken (takeCommand_taken _ _ _ _) (manageCommand c body)

theorem media {s : State} {p : Parcel} {take : State → State} (h : ∀ s, KeepsBut [] s (take s)) :
    KeepsBut [] s (s.takeMedia p take) :=
  (received s p).trans (ite (h _) (countU _ _))

theorem upstreamSent (s : State) : KeepsBut [] s s.upstreamSent :=
  ite (resetNow s) (of_same (State.modUp_same s _) (by decide))

/-- R23: the row of a berth that becomes PRESENT. -/
theorem joins {s : State} {b : BerthIx} (hj : s.berths[b].presence = .joining) : KeepsBut [] s (s.becomePresent b) :=
  (becomePresent hj).but fun hs => (Within.becomePresent s b).stoppedChainLaw (fun _ e => e ▸ rfl)
    (StoppedChainLaw.running hs (by rw [hj]; exact nofun)) hs

/-- R34: the row of an idle timer. -/
theorem idles (s : State) (b : BerthIx) (h : s.idleRuns s.berths[b] = true) : KeepsBut [] s (s.modBerth b Berth.ticked) := by
  obtain ⟨hp, ha, -⟩ := (State.idleRuns_iff s _).1 h
  exact modBerth s b (ticked_stays s hp ha)

end KeepsBut

/-- Every row keeps the laws. -/
theorem effect_keeps (i : Instr) (s : State) : KeepsBut [] s (effect i s) := by
  cases i with
  | cycleMark hd elapsed lines payload => exact (KeepsBut.passTime s elapsed).trans (.takeMarkParcel _ _ _ _)
  | selfStart lines => exact (KeepsBut.passTime s _).trans (.selfStart _ _)
  | secondsTick sensor => exact .ite (.secondsTick _ _) (.refl _)
  | quietLineAccepted qa qb => exact .acceptQuiet s qa qb
  | markLoss => exact .ite (.missMark s) (.refl _)
  | backboneSignalLost => exact .of_same (State.signalLost_same s) (by decide)
  | backboneDown => exact .signalGone _
  | backboneSignalReturn => exact .signalBack _
  | programAudio hd payload => exact .media fun s => .takeProgramAudio s payload
  | videoSegment hd payload => exact .media fun s => .takeVideoSegment s payload
  | startCue hd cue => exact .media (.startCueTaken cue)
  | endCue hd cue => exact .media (.endCueTaken cue)
  | cancelCue hd cue => exact .media (.cancelCueTaken cue)
  | leadExpiry a => exact .ite (.countLead s a) (.refl _)
  | announceStall a => exact .ite (.presentGap s a) (.refl _)
  | announceAudio hd payload => exact .media fun s => .of_same (State.takeAnnounceAudio_same s _) (by decide)
  | chainFrameComplete r => exact .frameDone s r
  | returnWindowClose c slots => exact .returnWindow s c slots
  | berthPresent b =>
    unfold effect
    dsimp only
    split
    · next h => exact .joins h.1
    · exact .refl _
  | berthAbsent b => exact .ite (.enterAbsent s b) (.refl _)
  | idleDim b =>
    unfold effect
    dsimp only
    split
    · next h => exact .idles s b (by simp [State.dims] at h; tauto)
    · exact .refl _
  | idleSleep b =>
    unfold effect
    dsimp only
    split
    · next h => exact .idles s b (by simp [State.sleeps] at h; tauto)
    · exact .refl _
  | noAnswer c => exact .ite (.endQuery s c _ _ _) (.refl _)
  | chainLinkDown c => exact .chainLineLost s c
  | chainLinkUp c => exact .chainLineBack s c
  | receiveCheckFailure port clean bytes => exact .of_same (State.dropFailed_same s _ _ _) (by decide)
  | wrongDirection hd payload => exact .of_same (State.replyArrives_same s) (by decide)
  | forwardCommand hd payload => exact .of_taken (takeCommand_taken _ _ _ _) (.managePayload payload)
  | throughArrival p => exact .of_same (State.takeThrough_same s p) (by decide)
  | throughLinkDown =>
    exact (KeepsBut.of_same (State.setThroughLine_same s false) (by decide)).trans
      (.of_same (State.modThru_same _ _) (by decide))
  | throughLinkUp =>
    exact (KeepsBut.of_same (State.setThroughLine_same s true) (by decide)).trans
      (.of_same (State.modThru_same _ _) (by decide))
  | throughSendComplete => exact .of_same (State.modThru_same s _) (by decide)
  | upstreamSendComplete => exact .upstreamSent s
  | unknownCommand hd payload => exact .of_taken (takeCommand_taken _ _ _ _) (.managePayload payload)
  | identify hd body => exact .command _ _ _ _
  | loadEntries hd body => exact .command _ _ _ _
  | readEntries hd body => exact .command _ _ _ _
  | openStream hd body => exact .command _ _ _ _
  | closeStream hd body => exact .command _ _ _ _
  | resetBerth hd body => exact .command _ _ _ _
  | setBerthActive hd body => exact .command _ _ _ _
  | readCounters hd body => exact .command _ _ _ _
  | clearCounters hd body => exact .command _ _ _ _
  | readAttention hd body => exact .command _ _ _ _
  | clearAttention hd body => exact .command _ _ _ _
  | readCalls hd body => exact .command _ _ _ _
  | acknowledgeCalls hd body => exact .command _ _ _ _
  | clearFaults hd body => exact .command _ _ _ _
  | enterService hd body => exact .command _ _ _ _
  | enterConfiguration hd body => exact .command _ _ _ _
  | berthQuery hd body => exact .command _ _ _ _
  | fetchQueryResults hd body => exact .command _ _ _ _
  | abortQueries hd body => exact .command _ _ _ _
  | restart hd body => exact .command _ _ _ _
  | powerOnReset => exact .of_reset s.pins (by simp [Same, effect, State.resetNow])
  | resetPin => exact .of_reset s.pins (by simp [Same, effect, State.resetNow])
  | endOfReset pins => exact .of_reset pins (by simp [Same, effect])
  | cueBadPayload hd payload => exact .media fun s => .countU s _

/-- Every step keeps the laws: the idle step and every row. -/
theorem step_keeps {s t : State} (h : step s = .next t) : KeepsBut [] s t := by
  unfold step at h
  split at h
  · obtain rfl := Host.Outcome.next.inj h
    exact .ite ((KeepsBut.passTime s _).trans (.takeDue _)) (.refl s)
  · next i rest _ =>
    rw [exec_eq] at h
    obtain rfl := Host.Outcome.next.inj h
    have h1 : KeepsBut [] s { s with pending := rest } := .of_same (fs := [.pending]) (by simp [Same]) (by decide)
    exact h1.trans (.ite (effect_keeps i _) (.refl _))

/-- A law that holds before a step holds after it. -/
theorem step_law {s t : State} (h : step s = .next t) (l : Law) (hl : l.Holds s) : l.Holds t :=
  step_keeps h l List.not_mem_nil hl

end Sys2Proof.Machine

open Sys2Proof
open Sys2Proof.Machine

/-- Settles O48: the law of absent berths is one of the laws that every step keeps (`step_keeps`). -/
theorem presenceLawKept : Obligations.PresenceLawKept := fun _ _ hs h => step_law h .presence hs

/-- Settles O49: the law of the call list is one of the laws that every step keeps (`step_keeps`). -/
theorem callLawKept : Obligations.CallLawKept := fun _ _ hs h => step_law h .calls hs

/-- Settles O50: the laws of selections and of regimes are two of the laws that every step keeps (`step_keeps`). -/
theorem selectionAndRegimeLawsKept : Obligations.SelectionAndRegimeLawsKept :=
  ⟨fun _ _ hs h => step_law h .selection hs, fun _ _ hs h => step_law h .regime hs⟩

/-- Settles O55: the law of the stopped chains is one of the laws that every step keeps (`step_keeps`). -/
theorem stoppedChainLawKept : Obligations.StoppedChainLawKept := fun _ _ hs h => step_law h .chains hs
end

section
/-! PROOF. The steps of one valid return (R21 to R23, R26, R31, R35 to R37, R138). -/

namespace Sys2Proof.Machine

/-! ### The token (R138) -/

/-- R138: the end of a query writes the record of its chain alone. -/
theorem State.endQuery_frame (s : State) (c : ChainIx) (o : QueryOutcome) (x : Option AnswerBytes)
    (f : ChainCounts → ChainCounts) :
    s.endQuery c o x f = { s with chains := s.chains.set c (s.endQuery c o x f).chains[c] } := by
  cases h : s.chains[c].inFlight with
  | none =>
    rw [State.endQuery_none h]
    simp only [Fin.getElem_fin, Vector.set_getElem_self]
  | some q =>
    rw [State.endQuery_eq h, State.modChain_get, if_pos rfl]
    rfl

/-- R138: what a token does. -/
theorem takeToken_spec (s : State) (c : ChainIx) (p : PosIx) (judges : Bool) (token : Byte) (answer : AnswerBytes) :
    TokenTaken s (s.takeToken c p judges token answer) c p judges token answer := by
  refine ⟨fun h0 => if_pos h0, fun q hq h0 hf => ?_, fun h0 hf => ?_⟩
  · have he : s.takeToken c p judges token answer =
        s.endQuery c .answered (some answer) fun k => { k with answered := bump k.answered } := by
      unfold State.takeToken
      rw [if_neg h0, hq]
      exact if_pos hf
    rw [he]
    exact ⟨s.endQuery_frame c _ _ _, State.endQuery_next hq _ _ _⟩
  · unfold State.takeToken
    rw [if_neg h0]
    split
    · next q hq => exact if_neg (hf q hq)
    · rfl

/-! ### Status and keys (R26, R31, R35 to R37) -/

/-- R35, R36: the record of a chain with a status of a berth counted. -/
def Chain.statusCounted (ch : Chain) (h f : Nat) : Chain :=
  { ch with counts := { ch.counts with
      headphoneChanges := addCount ch.counts.headphoneChanges h, unitFaults := addCount ch.counts.unitFaults f } }

/-- R26, R37: the record of a chain with keys applied and discarded and calls placed counted. -/
def Chain.keysCounted (ch : Chain) (applied discarded placed : Nat) : Chain :=
  { ch with counts := { ch.counts with
      keysApplied := addCount ch.counts.keysApplied applied
      keysDiscarded := addCount ch.counts.keysDiscarded discarded
      callsPlaced := addCount ch.counts.callsPlaced placed } }

theorem Chain.keysCounted_keysCounted (ch : Chain) (a d p a' d' p' : Nat) :
    (ch.keysCounted a d p).keysCounted a' d' p' = ch.keysCounted (a + a') (d + d') (p + p') := by
  unfold Chain.keysCounted
  simp only [addCount_addCount]

theorem Chain.keysCounted_zero (ch : Chain) : ch.keysCounted 0 0 0 = ch := by
  unfold Chain.keysCounted
  simp only [addCount_zero]

/-- R31: the record of a berth after a key code. -/
def State.press (s : State) (code : Byte) (r : Berth) : Berth :=
  match keyOf code with
  | some key => s.keyed key r
  | none => r

/-- R26: how many keys a key code applies. -/
def keyApplied (live : Bool) (code : Byte) : Nat := if live = true ∧ (keyOf code).isSome = true then 1 else 0

/-- R26: how many keys a key code has discarded. -/
def keyDiscarded (live : Bool) (code : Byte) : Nat :=
  if code ≠ 0 ∧ ¬ (live = true ∧ (keyOf code).isSome = true) then 1 else 0

/-- R37: how many calls a key code places. -/
def State.callPlaced (s : State) (b : BerthIx) (live : Bool) (code : Byte) : Nat :=
  if live = true ∧ code = 9 ∧ b ∉ s.calls then 1 else 0

/-- R26, R31, R37: the part after a key code of berth `b`. -/
def State.keyTaken (s : State) (b : BerthIx) (live : Bool) (code : Byte) : State :=
  { s with
    berths := s.berths.set b (if live then s.press code s.berths[b] else s.berths[b])
    calls := s.calls ++ List.replicate (s.callPlaced b live code) b
    chains := s.chains.set (chainOf b) (s.chains[chainOf b].keysCounted (keyApplied live code) (keyDiscarded live code)
      (s.callPlaced b live code)) }

theorem keyOf_call (code : Byte) : keyOf code = some .call ↔ code = 9 := by
  revert code
  decide

theorem keyOf_isSome (code : Byte) : (keyOf code).isSome = true ↔ 1 ≤ code.toNat ∧ code.toNat ≤ 9 := by
  revert code
  decide

/-- A key code that does nothing to the part but to a count. -/
theorem State.keyTaken_idle {s : State} {b : BerthIx} {live : Bool} {code : Byte}
    (h : ¬ (live = true ∧ (keyOf code).isSome = true)) : s.keyTaken b live code =
      s.modChain (chainOf b) fun ch => ch.keysCounted 0 (keyDiscarded live code) 0 := by
  have hb : (if live then s.press code s.berths[b] else s.berths[b]) = s.berths[b] := by
    unfold State.press
    cases live with
    | false => rfl
    | true =>
      cases hk : keyOf code with
      | none => rfl
      | some k => simp [hk] at h
  have hp : s.callPlaced b live code = 0 := if_neg fun k => h ⟨k.1, by rw [k.2.1]; decide⟩
  unfold State.keyTaken
  rw [hb, hp, show keyApplied live code = 0 from if_neg h]
  simp [State.modChain]

theorem State.discardKey_eq (s : State) (c : ChainIx) :
    (s.countChain c fun n => { n with keysDiscarded := bump n.keysDiscarded }) =
      s.modChain c fun ch => ch.keysCounted 0 1 0 := by
  unfold State.countChain Chain.keysCounted
  simp only [addCount_zero]
  rfl

/-- R30, R31, R37: what a key applied does. -/
theorem State.applyKey_eq (s : State) (b : BerthIx) {code : Byte} {k : Key} (hk : keyOf code = some k) :
    s.applyKey b k = s.keyTaken b true code := by
  have hpress : s.press code s.berths[b] = s.keyed k s.berths[b] := by
    unfold State.press
    rw [hk]
  have happ : keyApplied true code = 1 := if_pos ⟨rfl, by rw [hk]; rfl⟩
  have hdis : keyDiscarded true code = 0 := if_neg fun h => h.2 ⟨rfl, by rw [hk]; rfl⟩
  unfold State.applyKey State.keyTaken
  rw [hpress, happ, hdis]
  by_cases hc : k = .call
  · subst hc
    have h9 : code = 9 := (keyOf_call code).1 hk
    by_cases hm : b ∈ s.calls
    · rw [show s.callPlaced b true code = 0 from if_neg fun h => h.2.2 hm]
      simp [State.placeCall, State.modBerth, State.countChain, State.modChain, Chain.keysCounted, addCount_zero, bump, hm]
    · rw [show s.callPlaced b true code = 1 from if_pos ⟨rfl, h9, hm⟩]
      simp [State.placeCall, State.modBerth, State.countChain, State.modChain, Chain.keysCounted, addCount_zero, bump, hm]
  · have h9 : code ≠ 9 := fun h => hc (Option.some.inj (hk.symm.trans ((keyOf_call code).2 h)))
    rw [show s.callPlaced b true code = 0 from if_neg fun h => h9 h.2.1]
    simp [State.modBerth, State.countChain, State.modChain, Chain.keysCounted, addCount_zero, bump, hc]

/-- R26, R31, R37: what a key code of a valid return does. -/
theorem State.takeKey_eq (s : State) (b : BerthIx) (w : Bool) (code : Byte) :
    s.takeKey b w code = s.keyTaken b (w && s.serving) code := by
  unfold State.takeKey
  by_cases h0 : code = 0
  · subst h0
    rw [if_pos rfl, State.keyTaken_idle (by simp [keyOf])]
    rw [show keyDiscarded (w && s.serving) 0 = 0 from if_neg fun h => h.1 rfl]
    simp [State.modChain, Chain.keysCounted_zero]
  rw [if_neg h0]
  cases hl : w && s.serving with
  | false =>
    rw [State.keyTaken_idle (by simp), show keyDiscarded false code = 1 from if_pos ⟨h0, by simp⟩]
    exact s.discardKey_eq _
  | true =>
    cases hk : keyOf code with
    | none =>
      rw [State.keyTaken_idle (by simp [hk]), show keyDiscarded true code = 1 from if_pos ⟨h0, by simp [hk]⟩]
      exact s.discardKey_eq _
    | some k => exact s.applyKey_eq b hk

/-! ### What a return writes -/

/-- From `s` to `t` only berth `b`, the call list and the chain of `b` change. -/
structure Touches (b : BerthIx) (s t : State) : Prop where
  same : Same [.berths, .calls, .chains] s t
  berths : t.berths = s.berths.set b t.berths[b]
  chains : t.chains = s.chains.set (chainOf b) t.chains[chainOf b]

namespace Touches

theorem trans {b : BerthIx} {s t u : State} (h : Touches b s t) (k : Touches b t u) : Touches b s u := by
  refine ⟨h.same.trans k.same, ?_, ?_⟩
  · rw [k.berths, h.berths]
    simp only [Fin.getElem_fin, Vector.getElem_set_self, Vector.set_set]
  · rw [k.chains, h.chains]
    simp only [Fin.getElem_fin, Vector.getElem_set_self, Vector.set_set]

/-- The frame of a touch, as one equation. -/
theorem eq {b : BerthIx} {c : ChainIx} (hc : chainOf b = c) {s t : State} (h : Touches b s t) : t = { s with
    berths := s.berths.set b t.berths[b], calls := t.calls, chains := s.chains.set c t.chains[c] } := by
  subst hc
  obtain ⟨hs, hb, hc⟩ := h
  rw [← hb, ← hc]
  obtain ⟨h1, h2, h3, h4, h5, h6, -, -, h9, h10, h11, h12, h13, h14, h15, h16, -, h18, h19, h20, h21, h22⟩ := hs
  clear hb hc
  cases s
  cases t
  simp_all

theorem keyTaken (s : State) (b : BerthIx) (live : Bool) (code : Byte) : Touches b s (s.keyTaken b live code) :=
  ⟨by simp [Same, State.keyTaken], by simp [State.keyTaken], by simp [State.keyTaken]⟩

theorem recordStatus (s : State) (b : BerthIx) (h f : Bool) : Touches b s (s.recordStatus b h f) :=
  ⟨by simp [Same, State.recordStatus], by simp [State.recordStatus], by simp [State.recordStatus]⟩

end Touches

theorem State.advanceValid_absent {s : State} {b : BerthIx} (h : s.berths[b].presence = .absent) :
    s.advanceValid b = s.modBerth b fun r => { r with presence := .joining, validRun := 1 } := by
  unfold State.advanceValid
  rw [h]

theorem State.advanceValid_joining {s : State} {b : BerthIx} (h : s.berths[b].presence = .joining)
    (h3 : s.berths[b].validRun < 3) : s.advanceValid b = s.modBerth b fun r => { r with validRun := r.validRun + 1 } := by
  unfold State.advanceValid
  rw [h]
  exact if_pos h3

theorem State.advanceValid_joins {s : State} {b : BerthIx} (h : s.berths[b].presence = .joining)
    (h3 : 3 ≤ s.berths[b].validRun) : s.advanceValid b = s.becomePresent b := by
  unfold State.advanceValid
  rw [h]
  exact if_neg (Nat.not_lt.2 h3)

theorem State.advanceValid_present {s : State} {b : BerthIx} (h : s.berths[b].presence = .present) :
    s.advanceValid b = s.modBerth b fun r => { r with missingRun := 0 } := by
  unfold State.advanceValid
  rw [h]

/-- R23, R79: the berths after one became PRESENT. -/
theorem becomePresent_get (s : State) (b b' : BerthIx) :
    (s.becomePresent b).berths[b'] = (s.entered b).regoverned b' (s.entered b).berths[b'] := by
  rw [(s.becomePresent_settled b).1, State.settleGoverning_get]

/-- R21: a berth of which a valid return was counted is not ABSENT, and its status is recorded after. -/
theorem advanceValid_status (s : State) (b : BerthIx) :
    (s.advanceValid b).berths[b].presence ≠ .absent ∧
    (s.advanceValid b).berths[b].headphone = s.berths[b].headphone ∧
    (s.advanceValid b).berths[b].unitFault = s.berths[b].unitFault := by
  unfold State.advanceValid
  split
  · rw [State.modBerth_get, if_pos rfl]
    exact ⟨nofun, rfl, rfl⟩
  · next hj =>
    split
    · rw [State.modBerth_get, if_pos rfl]
      exact ⟨fun h => (by cases hj.symm.trans h), rfl, rfl⟩
    · rw [becomePresent_get, State.entered_get, if_pos rfl, regoverned_only]
      unfold State.arrived
      split
      · exact ⟨nofun, rfl, rfl⟩
      · exact ⟨nofun, rfl, rfl⟩
  · next hp =>
    rw [State.modBerth_get, if_pos rfl]
    exact ⟨fun h => (by cases hp.symm.trans h), rfl, rfl⟩

theorem State.noted_eq (s : State) (b : BerthIx) (r : ReturnData) :
    s.noted b r = (s.advanceValid b).recordStatus b r.headphone r.unitFault :=
  if_neg (advanceValid_status s b).1

theorem State.press_congr {s t : State} (h : t.streams = s.streams) (code : Byte) (r : Berth) :
    t.press code r = s.press code r := by
  have hc : ∀ k allowed, t.choices k allowed = s.choices k allowed := fun k allowed => by
    unfold State.choices State.choosable
    rw [h]
  unfold State.press State.keyed State.keyOnAsleep State.keyOnAwake
  simp only [hc]

/-- R26: whether berth `b` takes keys: it is PRESENT, in SERVICE. -/
def State.takesKeys (s : State) (b : BerthIx) : Bool := s.present b && s.serving

theorem State.takesKeys_iff (s : State) (b : BerthIx) :
    s.takesKeys b = true ↔ s.berths[b].presence = .present ∧ s.mgmt.mode = .service := by
  unfold State.takesKeys
  rw [Bool.and_eq_true, State.serving_iff]
  unfold State.present
  rw [beq_iff_eq]

/-- R26: the part after presence, status and the two key codes of a valid return, before its token. -/
def State.returned (s : State) (b : BerthIx) (r : ReturnData) : State :=
  ((s.noted b r).keyTaken b (s.takesKeys b) r.key1).keyTaken b (s.takesKeys b) r.key2

theorem State.takeReturn_returned (s : State) {b : BerthIx} {c : ChainIx} {p : PosIx} (hc : chainOf b = c)
    (hp : posOf b = p) (j : Bool) (r : ReturnData) :
    s.takeReturn b j r = (s.returned b r).takeToken c p j r.token r.answer := by
  subst hc hp
  have hm : (s.noted b r).mgmt.mode = s.mgmt.mode := by
    rw [State.noted_eq, (State.recordStatus_same _ b _ _).mgmt (by decide), (Within.advanceValid s b).mgmt]
  have h1 : (s.noted b r).serving = s.serving := congrArg (· == Mode.service) hm
  have h2 : ((s.noted b r).keyTaken b (s.takesKeys b) r.key1).serving = s.serving := congrArg (· == Mode.service) hm
  rw [State.takeReturn_eq, State.takeKey_eq (s.noted b r), h1,
    show (s.present b && s.serving) = s.takesKeys b from rfl, State.takeKey_eq, h2]
  rfl

theorem touches_returned (s : State) (b : BerthIx) (r : ReturnData) : Touches b (s.advanceValid b) (s.returned b r) := by
  unfold State.returned
  rw [State.noted_eq]
  exact ((Touches.recordStatus _ b _ _).trans (.keyTaken _ b _ _)).trans (.keyTaken _ b _ _)

/-- R31, R35, R36: the record of the berth after status and keys. -/
theorem returned_berth (s : State) (b : BerthIx) (r : ReturnData) : (s.returned b r).berths[b] =
    let y := { (s.advanceValid b).berths[b] with headphone := r.headphone, unitFault := r.unitFault }
    if s.takesKeys b then s.press r.key2 (s.press r.key1 y) else y := by
  have hst : (s.noted b r).streams = s.streams := by
    rw [State.noted_eq, (State.recordStatus_same _ b _ _).streams (by decide),
      (State.advanceValid_same s b).streams (by decide)]
  have hn : (s.noted b r).berths[b] =
      { (s.advanceValid b).berths[b] with headphone := r.headphone, unitFault := r.unitFault } := by
    rw [State.noted_eq]
    unfold State.recordStatus
    rw [State.countChain_berths, State.modBerth_get, if_pos rfl]
  have hk : ∀ (t : State) (code : Byte), (t.keyTaken b (s.takesKeys b) code).berths[b] =
      if s.takesKeys b then t.press code t.berths[b] else t.berths[b] := fun t code => by
    unfold State.keyTaken
    rw [get_set_fin, if_pos rfl]
  unfold State.returned
  rw [hk, hk, hn]
  cases s.takesKeys b with
  | false => rfl
  | true =>
    simp only [if_true]
    rw [State.press_congr hst, State.press_congr (t := (s.noted b r).keyTaken b true r.key1) hst]

/-- R37: how many calls the two key codes of a return place. -/
theorem callPlaced_twice (s : State) (b : BerthIx) (live : Bool) (k1 k2 : Byte) :
    s.callPlaced b live k1 + (s.keyTaken b live k1).callPlaced b live k2 =
      if live = true ∧ (k1 = 9 ∨ k2 = 9) ∧ b ∉ s.calls then 1 else 0 := by
  have hcalls : b ∉ (s.keyTaken b live k1).calls ↔ b ∉ s.calls ∧ s.callPlaced b live k1 = 0 := by
    unfold State.keyTaken
    simp [List.mem_append, List.mem_replicate]
  by_cases h1 : live = true ∧ k1 = 9 ∧ b ∉ s.calls
  · have hp : s.callPlaced b live k1 = 1 := if_pos h1
    obtain ⟨hl, h9, hb⟩ := h1
    rw [hp, if_pos ⟨hl, .inl h9, hb⟩, show (s.keyTaken b live k1).callPlaced b live k2 = 0 from
      if_neg fun h => by simp [hcalls, hp] at h]
  · have hp : s.callPlaced b live k1 = 0 := if_neg h1
    rw [hp, Nat.zero_add]
    unfold State.callPlaced
    refine if_congr ?_ rfl rfl
    rw [hcalls, hp]
    tauto

theorem returned_calls (s : State) (b : BerthIx) (r : ReturnData) : (s.returned b r).calls =
    s.calls ++ List.replicate (if s.takesKeys b = true ∧ (r.key1 = 9 ∨ r.key2 = 9) ∧ b ∉ s.calls then 1 else 0) b := by
  have hn : (s.noted b r).calls = s.calls := by
    rw [State.noted_eq, (State.recordStatus_same _ b _ _).calls (by decide),
      (State.advanceValid_same s b).calls (by decide)]
  have h := callPlaced_twice (s.noted b r) b (s.takesKeys b) r.key1 r.key2
  rw [hn] at h
  rw [← h, List.replicate_add, ← List.append_assoc, ← hn]
  rfl

/-- R26, R35, R36, R37: the record of its chain after status and keys. -/
theorem returned_chain (s : State) {b : BerthIx} {c : ChainIx} (hc : chainOf b = c) (r : ReturnData) :
    (s.returned b r).chains[c] = (((s.advanceValid b).chains[c]).statusCounted (if s.berths[b].headphone = r.headphone then 0 else 1)
      (if r.unitFault && !s.berths[b].unitFault then 1 else 0)).keysCounted
      (keyApplied (s.takesKeys b) r.key1 + keyApplied (s.takesKeys b) r.key2)
      (keyDiscarded (s.takesKeys b) r.key1 + keyDiscarded (s.takesKeys b) r.key2)
      (if s.takesKeys b = true ∧ (r.key1 = 9 ∨ r.key2 = 9) ∧ b ∉ s.calls then 1 else 0) := by
  subst hc
  obtain ⟨-, hh, hf⟩ := advanceValid_status s b
  have hn : (s.noted b r).chains[chainOf b] = ((s.advanceValid b).chains[chainOf b]).statusCounted
      (if s.berths[b].headphone = r.headphone then 0 else 1)
      (if r.unitFault && !s.berths[b].unitFault then 1 else 0) := by
    rw [State.noted_eq]
    unfold State.recordStatus
    rw [State.countChain_get, if_pos rfl, hh, hf]
    rfl
  have hk : ∀ (t : State) (code : Byte), (t.keyTaken b (s.takesKeys b) code).chains[chainOf b] =
      t.chains[chainOf b].keysCounted (keyApplied (s.takesKeys b) code) (keyDiscarded (s.takesKeys b) code)
        (t.callPlaced b (s.takesKeys b) code) := fun t code => by
    unfold State.keyTaken
    rw [get_set_fin, if_pos rfl]
  have hc : (s.noted b r).calls = s.calls := by
    rw [State.noted_eq, (State.recordStatus_same _ b _ _).calls (by decide),
      (State.advanceValid_same s b).calls (by decide)]
  have h2 := callPlaced_twice (s.noted b r) b (s.takesKeys b) r.key1 r.key2
  rw [hc] at h2
  unfold State.returned
  rw [hk, hk, hn, Chain.keysCounted_keysCounted, h2]

/-! ### The statement's counts -/

theorem addCount_change (k : Count) (p : Prop) [Decidable p] : addCount k (if p then 0 else 1) = if p then k else bump k := by
  split
  · exact addCount_zero k
  · rfl

theorem addCount_fault (k : Count) (new old : Bool) :
    addCount k (if new && !old then 1 else 0) = if old = false ∧ new = true then bump k else k := by
  cases new <;> cases old <;> simp [addCount_zero, bump]

theorem length_filter_pair (p : Byte → Bool) (x y : Byte) :
    ([x, y].filter p).length = (if p x = true then 1 else 0) + if p y = true then 1 else 0 := by
  cases hx : p x <;> cases hy : p y <;> simp [hx, hy]

theorem keyApplied_pair (x y : Byte) : keyApplied true x + keyApplied true y =
    ([x, y].filter fun k => decide (1 ≤ k.toNat ∧ k.toNat ≤ 9)).length := by
  rw [length_filter_pair]
  simp only [keyApplied, keyOf_isSome, true_and, decide_eq_true_eq]

theorem keyApplied_idle (x : Byte) : keyApplied false x = 0 := if_neg (by simp)

/-- R26: each code but 0 is applied or discarded. -/
theorem keyDiscarded_eq (live : Bool) (x : Byte) :
    keyDiscarded live x + keyApplied live x = if x ≠ 0 then 1 else 0 := by
  unfold keyDiscarded keyApplied
  by_cases h : live = true ∧ (keyOf x).isSome = true
  · have h0 : x ≠ 0 := by
      rintro rfl
      simp [keyOf] at h
    rw [if_neg fun k => k.2 h, if_pos h, if_pos h0]
  · rw [if_neg h, Nat.add_zero]
    exact if_congr (and_iff_left h) rfl rfl

theorem keyDiscarded_pair (live : Bool) (x y : Byte) : keyDiscarded live x + keyDiscarded live y =
    ([x, y].filter fun k => decide (k ≠ 0)).length - (keyApplied live x + keyApplied live y) := by
  have hx := keyDiscarded_eq live x
  have hy := keyDiscarded_eq live y
  rw [length_filter_pair]
  simp only [decide_eq_true_eq]
  omega

end Sys2Proof.Machine

open Sys2Proof
open Sys2Proof.Machine

/-- Settles O28: the part after presence alone is `State.advanceValid`, that before the token `State.returned`, and the
token is taken there (`State.takeReturn_returned`, `takeToken_spec`). -/
theorem returnTaken : Obligations.ReturnTaken := by
  intro c p judges r s b
  have hc : chainOf b = c := chainOf_berthAt c p
  have hp : posOf b = p := posOf_berthAt c p
  intro x live named pressed calls press
  have hlive : s.takesKeys b = true ↔ live := s.takesKeys_iff b
  have hberth := returned_berth s b r
  have hcalls := returned_calls s b r
  have hchain := returned_chain s hc r
  refine ⟨s.advanceValid b, s.returned b r, fun h => ?_, fun h h3 => ?_, fun h h3 => ?_, fun h => ?_,
    (touches_returned s b r).eq hc, fun h => ?_, fun h => ?_, fun h => ?_, fun h => ?_, ?_, ?_⟩
  · exact State.advanceValid_absent h
  · exact State.advanceValid_joining h h3
  · rw [State.advanceValid_joins h h3]
    exact becomePresent_spec s b
  · exact State.advanceValid_present h
  · rw [hberth, hlive.2 h]
    rfl
  · rw [hberth, eq_false_of_ne_true (mt hlive.1 h)]
    rfl
  · rw [hcalls, if_pos ⟨hlive.2 h.1, h.2⟩]
    rfl
  · rw [hcalls, if_neg fun k => h ⟨hlive.1 k.1, k.2⟩, List.replicate_zero, List.append_nil]
  · refine ⟨keyApplied (s.takesKeys b) r.key1 + keyApplied (s.takesKeys b) r.key2,
      if s.takesKeys b = true ∧ (r.key1 = 9 ∨ r.key2 = 9) ∧ b ∉ s.calls then 1 else 0,
      fun h => ?_, fun h => ?_, fun h => if_pos ⟨hlive.2 h.1, h.2⟩, fun h => if_neg fun k => h ⟨hlive.1 k.1, k.2⟩, ?_⟩
    · rw [hlive.2 h]
      exact keyApplied_pair _ _
    · rw [eq_false_of_ne_true (mt hlive.1 h), keyApplied_idle, keyApplied_idle]
    · rw [hchain, keyDiscarded_pair, ← addCount_change, ← addCount_fault]
      rfl
  · rw [State.takeReturn_returned s hc hp]
    exact takeToken_spec _ _ _ _ _ _
end

section
/-! PROOF. The close of a return window, slot by slot (R20 to R22, R134, R138). -/

namespace Sys2Proof.Machine

/-! ### Slots judged (R134) -/

/-- R20, R134: what a valid slot carries. -/
def slotReturn (v : SlotBytes) : ReturnData :=
  { headphone := v[1].getLsbD 0, unitFault := v[1].getLsbD 1, key1 := v[2], key2 := v[3], token := v[4]
    answer := Vector.ofFn fun i => v[i.val + 5] }

theorem judgeSlot_valid {v : SlotBytes} (h : ValidSlot (some v)) : judgeSlot (some v) = .valid (slotReturn v) := by
  obtain ⟨v', e, h0, hsum⟩ := h
  obtain rfl := Option.some.inj e
  unfold judgeSlot
  dsimp only
  rw [if_neg (not_not.2 h0), if_neg (not_not.2 hsum)]
  rfl

theorem judgeSlot_invalid {v : SlotBytes} (h : ¬ ValidSlot (some v)) : judgeSlot (some v) = .invalid := by
  unfold judgeSlot
  dsimp only
  by_cases h0 : v[0] = 0x5A
  · have hsum : (v.toList.map BitVec.toNat).sum % 256 ≠ 0 := fun hs => h ⟨v, rfl, h0, hs⟩
    rw [if_neg (not_not.2 h0), if_pos hsum]
  · rw [if_pos h0]

theorem not_validSlot_none : ¬ ValidSlot none := fun ⟨_, h, _⟩ => nomatch h

theorem length_filter_cons {α : Type} (P : α → Bool) (x : α) (l : List α) :
    ((x :: l).filter P).length = (if P x = true then 1 else 0) + (l.filter P).length := by
  rw [List.filter_cons]
  split
  · rw [List.length_cons, Nat.add_comm]
  · rw [Nat.zero_add]

/-- R39, R134: how one slot counts. -/
theorem slotCounted_eq {slot : Option SlotBytes} {valid : Bool} (hv : valid = true ↔ ValidSlot slot) :
    slotCounted slot = (if valid = true then 1 else 0, if decide (slot = none) = true then 1 else 0,
      if decide (slot ≠ none ∧ valid = false) = true then 1 else 0) := by
  cases slot with
  | none =>
    obtain rfl : valid = false := eq_false_of_ne_true fun h => not_validSlot_none (hv.1 h)
    rfl
  | some v =>
    unfold slotCounted
    cases valid with
    | true =>
      rw [judgeSlot_valid (hv.1 rfl)]
      simp
    | false =>
      rw [judgeSlot_invalid fun h => Bool.false_ne_true (hv.2 h)]
      simp

/-- R39, R134: how the slots of a window count. -/
theorem slotCounted_sum {slots : ReturnSlots} {valid : PosIx → Bool} (hv : ∀ p, valid p = true ↔ ValidSlot slots[p])
    (l : List PosIx) : (l.map fun p => slotCounted slots[p]).sum = ((l.filter valid).length,
      (l.filter fun p => slots[p] = none).length, (l.filter fun p => slots[p] ≠ none ∧ valid p = false).length) := by
  induction l with
  | nil => rfl
  | cons p l ih =>
    rw [List.map_cons, List.sum_cons, ih, slotCounted_eq (hv p), length_filter_cons, length_filter_cons, length_filter_cons]
    rfl

/-! ### One slot taken -/

/-- R20, R134: a valid slot is a return. -/
theorem State.takeSlot_valid (s : State) (c : ChainIx) (j : Bool) (p : PosIx) {v : SlotBytes} (h : ValidSlot (some v)) :
    s.takeSlot c j p (some v) = (s.countChain c fun k => { k with returnsValid := bump k.returnsValid }).takeReturn
      (berthAt c p) j (slotReturn v) := by
  unfold State.takeSlot
  rw [judgeSlot_valid h]

/-- R134: the part after a slot that is missing or invalid was counted. -/
def State.slotLost (s : State) (c : ChainIx) (slot : Option SlotBytes) : State :=
  s.countChain c fun k => if slot = none then { k with returnsMissing := bump k.returnsMissing }
    else { k with returnsInvalid := bump k.returnsInvalid }

theorem State.takeSlot_lost (s : State) (c : ChainIx) (j : Bool) (p : PosIx) {slot : Option SlotBytes}
    (h : ¬ ValidSlot slot) : s.takeSlot c j p slot = (s.slotLost c slot).advanceMissing (berthAt c p) := by
  unfold State.takeSlot
  cases slot with
  | none => rfl
  | some v =>
    rw [judgeSlot_invalid h]
    rfl

theorem State.advanceMissing_absent {s : State} {b : BerthIx} (h : s.berths[b].presence = .absent) :
    s.advanceMissing b = s := by
  unfold State.advanceMissing
  rw [h]

theorem State.advanceMissing_joining {s : State} {b : BerthIx} (h : s.berths[b].presence = .joining) :
    s.advanceMissing b = s.modBerth b joiningLeft := by
  unfold State.advanceMissing
  rw [h]
  exact State.enterAbsent_joining h

theorem State.advanceMissing_present {s : State} {b : BerthIx} (h : s.berths[b].presence = .present)
    (h15 : s.berths[b].missingRun < 15) :
    s.advanceMissing b = s.modBerth b fun r => { r with missingRun := r.missingRun + 1 } := by
  unfold State.advanceMissing
  rw [h]
  exact if_pos h15

theorem State.advanceMissing_leaves {s : State} {b : BerthIx} (h : s.berths[b].presence = .present)
    (h15 : 15 ≤ s.berths[b].missingRun) : s.advanceMissing b = s.enterAbsent b := by
  unfold State.advanceMissing
  rw [h]
  exact if_neg (Nat.not_lt.2 h15)

/-! ### Presence and runs (R21, R22) -/

/-- R21, R22: presence and runs of a berth. -/
def Berth.runs (r : Berth) : Presence × Nat × Nat := (r.presence, r.validRun, r.missingRun)

theorem presenceAfter_congr {r r' : Berth} (h : r'.runs = r.runs) (valid : Bool) :
    presenceAfter r' valid = presenceAfter r valid := by
  obtain ⟨h1, h2⟩ := Prod.mk.inj h
  obtain ⟨h2, h3⟩ := Prod.mk.inj h2
  unfold presenceAfter
  rw [h1, h2, h3]

theorem advanceValid_runs (s : State) (b : BerthIx) :
    (s.advanceValid b).berths[b].runs = presenceAfter s.berths[b] true := by
  unfold presenceAfter
  cases hp : s.berths[b].presence with
  | absent =>
    rw [State.advanceValid_absent hp, State.modBerth_get, if_pos rfl]
    rfl
  | joining =>
    dsimp only
    by_cases h3 : s.berths[b].validRun < 3
    · rw [if_pos h3, State.advanceValid_joining hp h3, State.modBerth_get, if_pos rfl]
      exact Prod.ext hp rfl
    · rw [if_neg h3, State.advanceValid_joins hp (Nat.not_lt.1 h3), becomePresent_get, State.entered_get, if_pos rfl,
        regoverned_only]
      unfold State.arrived
      split <;> rfl
  | present =>
    rw [State.advanceValid_present hp, State.modBerth_get, if_pos rfl]
    exact Prod.ext hp rfl

theorem advanceMissing_runs (s : State) (b : BerthIx) :
    (s.advanceMissing b).berths[b].runs = presenceAfter s.berths[b] false := by
  unfold presenceAfter
  cases hp : s.berths[b].presence with
  | absent =>
    rw [State.advanceMissing_absent hp]
    exact Prod.ext hp rfl
  | joining =>
    rw [State.advanceMissing_joining hp, State.modBerth_get, if_pos rfl]
    rfl
  | present =>
    dsimp only
    by_cases h15 : s.berths[b].missingRun < 15
    · rw [if_pos h15, State.advanceMissing_present hp h15, State.modBerth_get, if_pos rfl]
      exact Prod.ext hp rfl
    · rw [if_neg h15, State.advanceMissing_leaves hp (Nat.not_lt.1 h15), (enterAbsent_spec hp).2.1]
      rfl

theorem press_runs (s : State) (code : Byte) (r : Berth) : (s.press code r).runs = r.runs := by
  unfold State.press
  split
  · rw [State.keyed_only]
    rfl
  · rfl

theorem takeReturn_runs (s : State) (b : BerthIx) (j : Bool) (r : ReturnData) :
    (s.takeReturn b j r).berths[b].runs = presenceAfter s.berths[b] true := by
  rw [State.takeReturn_returned s rfl rfl, (State.takeToken_same _ _ _ _ _ _).berths (by decide), returned_berth,
    ← advanceValid_runs]
  dsimp only
  split
  · rw [press_runs, press_runs]
    rfl
  · rfl

theorem takeSlot_runs (s : State) (c : ChainIx) (j : Bool) (p : PosIx) {slot : Option SlotBytes} {valid : Bool}
    (hv : valid = true ↔ ValidSlot slot) :
    (s.takeSlot c j p slot).berths[berthAt c p].runs = presenceAfter s.berths[berthAt c p] valid := by
  cases valid with
  | true =>
    obtain ⟨v, rfl, h⟩ := hv.1 rfl
    rw [s.takeSlot_valid c j p (hv.1 rfl), takeReturn_runs]
    rfl
  | false =>
    rw [s.takeSlot_lost c j p fun h => Bool.false_ne_true (hv.2 h), advanceMissing_runs]
    rfl

theorem Within.runs {c : ChainIx} {B : BerthIx → Prop} {d : Nat × Nat × Nat} {s t : State} (h : Within c B d s t)
    {b : BerthIx} (hb : ¬ B b) : t.berths[b].runs = s.berths[b].runs := by
  rw [h.berths b hb]
  rfl

/-- R21, R22, R134: each slot of a window moves its own berth once. -/
theorem takeSlots_runs (c : ChainIx) (j : Bool) (slots : ReturnSlots) {p : PosIx} {valid : Bool}
    (hv : valid = true ↔ ValidSlot slots[p]) (l : List PosIx) (hn : l.Nodup) (s : State) :
    (l.foldl (fun s p => s.takeSlot c j p slots[p]) s).berths[berthAt c p].runs =
      if p ∈ l then presenceAfter s.berths[berthAt c p] valid else s.berths[berthAt c p].runs := by
  induction l generalizing s with
  | nil => rfl
  | cons q l ih =>
    obtain ⟨hq, hn⟩ := List.nodup_cons.1 hn
    rw [List.foldl_cons, ih hn]
    by_cases e : p = q
    · subst e
      rw [if_neg hq, if_pos List.mem_cons_self, takeSlot_runs s c j p hv]
    · have hr := (Within.takeSlot s c j q slots[q]).runs (b := berthAt c p) fun k => e (berthAt_inj k)
      rw [presenceAfter_congr hr, hr]
      refine if_congr ?_ rfl rfl
      rw [List.mem_cons]
      exact (or_iff_right e).symm

/-! ### Superseded windows (R134) -/

/-- R134: what the close of the oldest window leaves outside its chain. -/
theorem returnWindow_within {s : State} {c : ChainIx} {w : Window} {ws : List Window} (slots : ReturnSlots)
    (h : s.chains[c].windows = w :: ws) :
    Within c (chainOf · = c) ((List.finRange 8).map fun p => slotCounted slots[p]).sum
      (s.modChain c fun ch => { ch with windows := ws }) (s.returnWindow c slots) := by
  rw [returnWindow_cons slots h]
  exact .closeWindow _ c _ slots

theorem foldl_closeSuperseded_none {s : State} (l : List ChainIx) (h : ∀ c ∈ l, s.chains[c].windows.length ≤ 1) :
    l.foldl State.closeSuperseded s = s := by
  induction l with
  | nil => rfl
  | cons c l ih =>
    rw [List.foldl_cons, closeSuperseded_none (h c List.mem_cons_self), ih fun c' hc => h c' (List.mem_cons_of_mem _ hc)]

/-- R134: the first chain with a superseded window closes it first. -/
theorem closeAllSuperseded_first {s : State} {c : ChainIx} (h2 : s.chains[c].windows.length = 2)
    (hlow : ∀ c' < c, s.chains[c'].windows.length ≤ 1) :
    s.closeAllSuperseded [] = (s.returnWindow c missingSlots).closeAllSuperseded [] := by
  obtain ⟨w, ws, hw⟩ := List.exists_cons_of_length_pos (h2.symm ▸ Nat.two_pos : 0 < s.chains[c].windows.length)
  have hwin := returnWindow_within missingSlots hw
  obtain ⟨before, after, hl⟩ := List.append_of_mem (List.mem_finRange c)
  have hlt : ∀ c' ∈ before, c' < c := fun c' hc => by
    have hs := List.pairwise_lt_finRange 6
    rw [hl] at hs
    exact (List.pairwise_append.1 hs).2.2 c' hc c List.mem_cons_self
  have hother : ∀ c' : ChainIx, c' ≠ c → (s.returnWindow c missingSlots).chains[c'] = s.chains[c'] := fun c' hne => by
    rw [hwin.others c' hne, State.modChain_get, if_neg hne]
  have hone : (s.returnWindow c missingSlots).chains[c].windows.length = 1 := by
    have h1 := congrArg List.length hwin.chain.windows
    rw [List.length_map, List.length_map, State.modChain_get, if_pos rfl] at h1
    rw [hw] at h2
    exact h1.trans (Nat.succ.inj h2)
  have hfirst : ∀ c' ∈ before, s.chains[c'].windows.length ≤ 1 := fun c' hc => hlow c' (hlt c' hc)
  have hagain : ∀ c' ∈ before, (s.returnWindow c missingSlots).chains[c'].windows.length ≤ 1 := fun c' hc => by
    rw [hother c' (hlt c' hc).ne]
    exact hfirst c' hc
  unfold State.closeAllSuperseded
  rw [List.foldl_nil, List.foldl_nil, hl, List.foldl_append, List.foldl_append, List.foldl_cons, List.foldl_cons,
    foldl_closeSuperseded_none _ hfirst, foldl_closeSuperseded_none _ hagain, closeSuperseded_one h2,
    closeSuperseded_none hone.le]

/-! ### The window of a query (R138) -/

theorem countWindow_still {s : State} {c : ChainIx} {judges : Bool}
    (h : judges = false ∨ ∀ q, s.chains[c].inFlight = some q → q.placed = false) : s.countWindow c judges = s := by
  unfold State.countWindow
  split
  · rfl
  · next q hq =>
    refine if_neg fun k => ?_
    obtain h | h := h
    · rw [h] at k
      cases k.2
    · rw [h q hq] at k
      cases k.1

theorem countWindow_waits {s : State} {c : ChainIx} {q : InFlight} (hq : s.chains[c].inFlight = some q)
    (hp : q.placed = true) (h7 : q.waited < 7) : s.countWindow c true =
      s.modChain c fun ch => { ch with inFlight := some { q with waited := q.waited + 1 } } := by
  unfold State.countWindow
  rw [hq]
  dsimp only
  rw [if_pos ⟨hp, rfl⟩, if_neg (by omega)]

/-- R138: the eighth window ends the query. -/
theorem countWindow_ends {s : State} {c : ChainIx} {q : InFlight} (hq : s.chains[c].inFlight = some q)
    (hp : q.placed = true) (h7 : 7 ≤ q.waited) : s.countWindow c true =
      { s with chains := s.chains.set c (s.countWindow c true).chains[c] } ∧
    NextQueries s c { queryEnded s.chains[c] c q .noAnswer none with
      counts := { s.chains[c].counts with noAnswer := bump s.chains[c].counts.noAnswer } }
      (s.countWindow c true).chains[c] := by
  have he : s.countWindow c true = s.modChain c fun ch => startLoop (fun p => s.present (berthAt c p)) c ch.queries
      { queryEnded ch c q .noAnswer none with counts := { ch.counts with noAnswer := bump ch.counts.noAnswer } } := by
    have hwaited : (s.modChain c fun ch =>
        { ch with inFlight := some { q with waited := q.waited + 1 } }).chains[c].inFlight =
        some { q with waited := q.waited + 1 } := by
      rw [State.modChain_get, if_pos rfl]
    unfold State.countWindow
    rw [hq]
    dsimp only
    rw [if_pos ⟨hp, rfl⟩, if_pos (by omega)]
    exact (State.endQuery_eq hwaited .noAnswer none fun k => { k with noAnswer := bump k.noAnswer }).trans
      (State.modChain_modChain _ _ _ _)
  rw [he, State.modChain_get, if_pos rfl]
  exact ⟨rfl, startLoop_next s c s.chains[c].queries { queryEnded s.chains[c] c q .noAnswer none with
    counts := { s.chains[c].counts with noAnswer := bump s.chains[c].counts.noAnswer } } rfl⟩

/-! ### The whole close -/

/-- R134: what the close of a window makes of its chain, of the presence of its berths and of the berths elsewhere. -/
theorem returnWindow_spec {s : State} {c : ChainIx} (slots : ReturnSlots) (h : s.chains[c].windows ≠ []) :
    let t := s.returnWindow c slots
    Within c (chainOf · = c) ((List.finRange 8).map fun p => slotCounted slots[p]).sum
      (s.modChain c fun ch => { ch with windows := ch.windows.tail }) t ∧
    ∀ (p : PosIx) (valid : Bool), (valid = true ↔ ValidSlot slots[p]) →
      t.berths[berthAt c p].runs = presenceAfter s.berths[berthAt c p] valid := by
  obtain ⟨w, ws, hw⟩ := List.exists_cons_of_ne_nil h
  obtain rfl : s.chains[c].windows.tail = ws := by rw [hw]; rfl
  refine ⟨returnWindow_within slots hw, fun p valid hv => ?_⟩
  rw [returnWindow_cons slots hw, State.closeWindow, (State.countWindow_same _ _ _).berths (by decide),
    takeSlots_runs c w.judges slots hv _ (List.nodup_finRange 8), if_pos (List.mem_finRange p)]
  rfl

/-- What stands outside a chain when also a part of its own record was changed first. -/
theorem Within.eq_chains {c : ChainIx} {B : BerthIx → Prop} {d : Nat × Nat × Nat} {s t : State} {f : Chain → Chain}
    (h : Within c B d (s.modChain c f) t) :
    t = { s with
      berths := t.berths, calls := t.calls, chains := t.chains, channels := t.channels
      mgmt := { s.mgmt with presence := t.mgmt.presence } } := by
  have he := h.eq
  generalize (s.modChain c f).chains.set c t.chains[c] = chains at he
  have hchains : t.chains = chains := congrArg State.chains he
  rw [hchains]
  exact he

/-- R134: the counts of the slots of a closed window. -/
theorem returnWindow_counts {s : State} {c : ChainIx} {slots : ReturnSlots} {t : State}
    (h : Within c (chainOf · = c) ((List.finRange 8).map fun p => slotCounted slots[p]).sum
      (s.modChain c fun ch => { ch with windows := ch.windows.tail }) t)
    (valid : PosIx → Bool) (hv : ∀ p, valid p = true ↔ ValidSlot slots[p]) :
    t.chains[c].counts.returnsMissing = addCount s.chains[c].counts.returnsMissing
      ((List.finRange 8).filter fun p => slots[p] = none).length ∧
    t.chains[c].counts.returnsValid = addCount s.chains[c].counts.returnsValid
      ((List.finRange 8).filter valid).length ∧
    t.chains[c].counts.returnsInvalid = addCount s.chains[c].counts.returnsInvalid
      ((List.finRange 8).filter fun p => slots[p] ≠ none ∧ valid p = false).length := by
  obtain ⟨-, -, -, hvalid, hmissing, hinvalid⟩ := h.chain
  rw [slotCounted_sum hv, State.modChain_get, if_pos rfl] at hvalid hmissing hinvalid
  exact ⟨hmissing, hvalid, hinvalid⟩

end Sys2Proof.Machine

open Sys2Proof
open Sys2Proof.Machine

/-- Settles O27: a close takes its slots one by one (`State.takeSlot_valid`, `State.takeSlot_lost`, `takeSlots_runs`) and
then counts the window (`countWindow_ends`); what it leaves is `Within.closeWindow`. -/
theorem windowCloses : Obligations.WindowCloses := by
  refine ⟨fun c p => ⟨?_, chainOf_berthAt c p, posOf_berthAt c p⟩, fun c w ws slots s hh hw => ?_, fun r rs s hh => ⟨fun h => ?_, fun h => ?_⟩,
    fun s hh => ⟨fun h => ?_, fun c h2 hlow => ?_⟩, fun c p judges v s hv => ?_, fun c p judges slot s hv => ?_,
    fun c judges s => ?_, fun c slots s hh hw => ?_⟩
  · exact congrArg (· + p.val) (Nat.mul_comm _ _)
  · exact (exec_free hh _).trans (congrArg _ (returnWindow_cons slots hw))
  · rw [closeAllSuperseded_cons, closeWith_none h]
  · exact ⟨_, exec_free hh _, by rw [closeAllSuperseded_cons, closeWith_open h]; rfl⟩
  · exact closeAllSuperseded_none [] h
  · exact ⟨_, exec_free hh _, closeAllSuperseded_first h2 hlow⟩
  · exact ⟨slotReturn v, rfl, rfl, rfl, rfl, rfl, fun i => get_ofFn_fin _ i, s.takeSlot_valid c judges p hv⟩
  · have hl := s.takeSlot_lost c judges p hv
    exact ⟨fun h => hl.trans (State.advanceMissing_absent h), fun h => hl.trans (State.advanceMissing_joining h),
      fun h h15 => hl.trans (State.advanceMissing_present h h15),
      fun h h15 => hl ▸ State.advanceMissing_leaves (s := s.slotLost c slot) h h15 ▸
        enterAbsent_spec (s := s.slotLost c slot) h⟩
  · exact ⟨countWindow_still, fun q hq hp hj => hj ▸ ⟨countWindow_waits hq hp, countWindow_ends hq hp⟩⟩
  · obtain ⟨hwin, hruns⟩ := returnWindow_spec slots hw
    obtain ⟨valid, hvalid⟩ : ∃ valid : PosIx → Bool, ∀ p, valid p = true ↔ ValidSlot slots[p] := by
      classical
      exact ⟨fun p => decide (ValidSlot slots[p]), fun p => decide_eq_true_iff⟩
    refine ⟨s.returnWindow c slots, exec_free hh _, Within.eq_chains hwin, ?_, fun c' hne => ?_, hruns, fun b hb => hwin.berths b hb,
      (returnWindow_counts hwin valid hvalid).1, fun valid hvalid => (returnWindow_counts hwin valid hvalid).2⟩
    · have hc := hwin.chain.windows
      rw [State.modChain_get, if_pos rfl, List.map_tail] at hc
      exact hc
    · rw [hwin.others c' hne, State.modChain_get, if_neg hne]
end

section
/-! PROOF. LOAD ENTRIES executed: what a load writes does not read the ports, and a good load is answered (R146, R158,
R159). -/

namespace Sys2Proof.Machine

/-- R72: the part with the marks cleared of the berths that class `i` governs. -/
def State.unduck (s : State) (i : Fin 4) : State := s.mapBerths fun _ b =>
  if (s.governingClass b).map Class.index = some i then { b with ducked := false } else b

/-! ### Operations that leave the ports alone -/

/-- What an operation does neither reads the ports nor writes them. -/
def Portless (f : State → State) : Prop := ∀ s x y, f (s.withPorts x y) = (f s).withPorts x y

namespace Portless

theorem id : Portless fun s => s := fun _ _ _ => rfl

theorem andThen {f g k : State → State} (hf : Portless f) (hg : Portless g) (h : ∀ s, k s = g (f s) := by intro _; rfl) :
    Portless k := fun s x y => by
  rw [h, h, hf, hg]

theorem ite {p : State → Prop} [∀ s, Decidable (p s)] {f g : State → State} (hp : ∀ s x y, p (s.withPorts x y) = p s)
    (hf : Portless f) (hg : Portless g) : Portless fun s => if p s then f s else g s := fun s x y => by
  dsimp only
  by_cases h : p s
  · rw [if_pos h, if_pos ((hp s x y).mpr h), hf]
  · rw [if_neg h, if_neg fun k => h ((hp s x y).mp k), hg]

theorem foldl {α : Type} {f : State → α → State} (h : ∀ a, Portless (f · a)) (l : List α) :
    Portless fun s => l.foldl f s := by
  induction l with
  | nil => exact id
  | cons a l ih => exact (h a).andThen ih

/-! ### Governing and releases -/

theorem recomputeGoverning : Portless State.recomputeGoverning := fun _ _ _ => rfl

theorem enterPlaying (a : ChannelIx) : Portless (State.enterPlaying · a) := fun _ _ _ => rfl

theorem enterLead (a : ChannelIx) : Portless (State.enterLead · a) :=
  ite (fun _ _ _ => rfl) (enterPlaying a) fun _ _ _ => rfl

theorem evaluateRelease (a : ChannelIx) : Portless (State.evaluateRelease · a) :=
  ite (fun _ _ _ => rfl) (enterLead a) id

theorem evaluateReleases : Portless State.evaluateReleases := (evaluateRelease 0).andThen (evaluateRelease 1)

theorem settleGoverning : Portless State.settleGoverning := by
  unfold State.settleGoverning
  exact recomputeGoverning.andThen evaluateReleases

/-! ### Chains -/

theorem endQuery (c : ChainIx) (o : QueryOutcome) (a : Option AnswerBytes) (f : ChainCounts → ChainCounts) :
    Portless (State.endQuery · c o a f) := fun s x y => by
  have he : (s.withPorts x y).chains = s.chains := rfl
  show (s.withPorts x y).endQuery c o a f = (s.endQuery c o a f).withPorts x y
  unfold State.endQuery
  rw [he]
  cases s.chains[c].inFlight with
  | none => rfl
  | some q => rfl

theorem queryTargetAbsent (c : ChainIx) (p : PosIx) : Portless (State.queryTargetAbsent · c p) := fun s x y => by
  have he : (s.withPorts x y).chains = s.chains := rfl
  show (s.withPorts x y).queryTargetAbsent c p = (s.queryTargetAbsent c p).withPorts x y
  unfold State.queryTargetAbsent
  rw [he]
  cases s.chains[c].inFlight with
  | none => rfl
  | some q => exact ite (p := fun _ => q.query.pos = p) (fun _ _ _ => rfl) (endQuery c _ _ _) id s x y

theorem enterAbsent (b : BerthIx) : Portless (State.enterAbsent · b) := fun s x y => by
  have he : (s.withPorts x y).berths = s.berths := rfl
  have hcount : Portless fun s => (s.latchPresence (chainOf b)).countChain (chainOf b)
      fun k => { k with presenceLost := bump k.presenceLost } := fun _ _ _ => rfl
  have hleave : Portless fun s => ((s.settleGoverning.queryTargetAbsent (chainOf b) (posOf b)).latchPresence
      (chainOf b)).countChain (chainOf b) fun k => { k with presenceLost := bump k.presenceLost } :=
    (andThen (k := fun s => s.settleGoverning.queryTargetAbsent _ _) settleGoverning (queryTargetAbsent _ _)).andThen hcount
  show (s.withPorts x y).enterAbsent b = (s.enterAbsent b).withPorts x y
  cases h : s.berths[b].presence with
  | absent => rw [State.enterAbsent_absent h, State.enterAbsent_absent (s := s.withPorts x y) h]
  | joining =>
    rw [State.enterAbsent_joining h, State.enterAbsent_joining (s := s.withPorts x y) h]
    rfl
  | present =>
    rw [State.enterAbsent_present h, State.enterAbsent_present (s := s.withPorts x y) h]
    rw [show (s.withPorts x y).vacated b = (s.vacated b).withPorts x y from rfl]
    exact hleave (s.vacated b) x y

theorem chainAbsent (c : ChainIx) : Portless (State.chainAbsent · c) := foldl (fun p => enterAbsent (berthAt c p)) _

theorem flush (c : ChainIx) : Portless (State.flush · c) := fun _ _ _ => rfl

theorem dismissing (c : ChainIx) : Portless (State.dismissing · c) := fun _ _ _ => rfl

theorem chainStops (c : ChainIx) : Portless (State.chainStops · c) := fun s x y => by
  simp only [State.chainStops_eq]
  have habsent : Portless fun s => (s.dismissing c).chainAbsent c := (dismissing c).andThen (chainAbsent c)
  have hstops : Portless fun s => ((s.dismissing c).chainAbsent c).flush c := habsent.andThen (flush c)
  exact hstops s x y

/-! ### Entries -/

theorem loadBerth (b : BerthIx) (cfg : BerthConfig) : Portless (State.loadBerth · b cfg) := by
  have hcopy : Portless fun s => if cfg.profile = s.berths[b].config.profile then s.modBerth b (reconfigured cfg)
      else (s.modBerth b (reconfigured cfg)).modBerth b (s.modBerth b (reconfigured cfg)).copied :=
    ite (fun _ _ _ => rfl) (fun _ _ _ => rfl) fun _ _ _ => rfl
  have hevaluate : Portless (State.evaluateBerth · b) := fun _ _ _ => rfl
  exact ite (fun _ _ _ => rfl) hcopy (hcopy.andThen hevaluate)

theorem unduck (i : Fin 4) : Portless (State.unduck · i) := fun _ _ _ => rfl

theorem loadClass (i : Fin 4) (e : ClassEntry) : Portless (State.loadClass · i e) := by
  have hset : Portless fun s => { s with classes := s.classes.set i e } := fun _ _ _ => rfl
  have hmarks : Portless fun s => (State.unduck { s with classes := s.classes.set i e } i).evaluateReleases :=
    (hset.andThen (unduck i) fun _ => rfl).andThen evaluateReleases
  exact ite (fun _ _ _ => rfl) hset hmarks

theorem loadChain (c : ChainIx) (e : Bool) (budget ratio : Nat) : Portless (State.loadChain · c e budget ratio) := by
  have hentry : Portless fun s => s.modChain c fun ch =>
      { ch with enabled := e, budget := clampBudget budget, ratio := clampRatio ratio } := fun _ _ _ => rfl
  have hstops : Portless fun s => (s.modChain c fun ch =>
      { ch with enabled := e, budget := clampBudget budget, ratio := clampRatio ratio }).chainStops c :=
    hentry.andThen (chainStops c)
  unfold State.loadChain
  exact ite (p := fun s => (s.chains[c].enabled && !e) = true) (fun _ _ _ => rfl) hstops hentry

theorem copyProfile (p : Fin 4) : Portless (State.copyProfile · p) := fun _ _ _ => rfl

theorem loadProfile (k : Fin 4) (p : Profile) :
    Portless fun s => State.copyProfile { s with profiles := s.profiles.set k p } k :=
  andThen (f := fun s => { s with profiles := s.profiles.set k p }) (fun _ _ _ => rfl) (copyProfile k)

theorem judgeOverheat : Portless State.judgeOverheat := by
  have hraise : Portless State.raiseOverheat := ite (fun _ _ _ => rfl) id fun _ _ _ => rfl
  have hjudge : Portless fun s => s.modFaults fun f => { f with
      overheat := overheatAfter s.mgmt.settings.threshold s.faults.overheat s.faults.temperature } := fun _ _ _ => rfl
  exact ite (fun _ _ _ => rfl) (hjudge.andThen hraise) hjudge

theorem loadSettings (p : PartSettings) : Portless (State.loadSettings · p) := by
  have hset : Portless fun s => s.modMgmt fun m => { m with settings := p } := fun _ _ _ => rfl
  have hlevels : Portless fun s => ((s.modMgmt fun m => { m with settings := p }).countLevelChanges s.effectiveQA
      s.effectiveQB).evaluateAll := fun _ _ _ => rfl
  exact andThen (ite (p := fun s => p.modeQA = s.mgmt.settings.modeQA ∧ p.modeQB = s.mgmt.settings.modeQB)
    (fun _ _ _ => rfl) hset hlevels) judgeOverheat

/-- R159: what an entry writes. -/
theorem loadEntry (tb : Table) (i : Nat) (bs : List Byte) : Portless (State.loadEntry · tb i bs) := by
  have bounded : ∀ {n : Nat} {f : Fin n → State → State}, (∀ k, Portless (f k)) →
      Portless fun s => if h : i < n then f ⟨i, h⟩ s else s := by
    intro n f hf
    by_cases h : i < n
    · simp only [dif_pos h]
      exact hf _
    · simp only [dif_neg h]
      exact id
  cases tb with
  | berth => exact bounded (f := fun b s => s.loadBerth b (berthConfigOf bs)) fun b => loadBerth b _
  | zone =>
    exact bounded (f := fun z s => { s with zones := s.zones.set z (BitVec.ofNat 48 (fieldAt bs 0 6)) })
      fun z _ _ _ => rfl
  | profile =>
    exact bounded (f := fun k s => State.copyProfile
      { s with profiles := s.profiles.set k { day := settingsOf bs, night := settingsOf (bs.drop 9) } } k)
      fun k => loadProfile k _
  | cls => exact bounded (f := fun k s => s.loadClass k (classEntryOf bs)) fun k => loadClass k _
  | chain =>
    exact bounded (f := fun c s => s.loadChain c (byteAt bs 0 == 1) (fieldAt bs 1 2) (byteAt bs 3).toNat)
      fun c => loadChain c _ _ _
  | settings => exact loadSettings _
  | stream => exact id
  | channel => exact id

theorem loadAll (tb : Table) (first : Nat) (entries : List Byte) (count : Nat) :
    Portless (State.loadAll · tb first entries count) :=
  foldl (fun j => loadEntry tb (first + j) (loadedEntry tb entries j)) _

end Portless

/-! ### The node stays -/

theorem State.loadEntry_node (s : State) (tb : Table) (i : Nat) (bs : List Byte) : (s.loadEntry tb i bs).node = s.node := by
  unfold State.loadEntry
  cases tb with
  | berth =>
    dsimp only
    split
    · exact (State.loadBerth_same s _ _).node (by decide)
    · rfl
  | zone => dsimp only; split <;> rfl
  | profile =>
    dsimp only
    split
    · exact (State.copyProfile_same _ _).node (by decide)
    · rfl
  | cls =>
    dsimp only
    split
    · exact (State.loadClass_same s _ _).node (by decide)
    · rfl
  | chain =>
    dsimp only
    split
    · exact (State.loadChain_same s _ _ _ _).node (by decide)
    · rfl
  | settings => exact (State.loadSettings_same s _).node (by decide)
  | stream => rfl
  | channel => rfl

theorem State.loadAll_node (s : State) (tb : Table) (first : Nat) (entries : List Byte) (count : Nat) :
    (s.loadAll tb first entries count).node = s.node := by
  unfold State.loadAll
  induction List.range count generalizing s with
  | nil => rfl
  | cons j l ih => exact (ih _).trans (s.loadEntry_node _ _ _)

/-! ### A load answered (R158) -/

/-- R158: whether all entries of a load are valid. -/
theorem firstBadEntry_none {tb : Table} {entries : List Byte} {count : Nat} :
    firstBadEntry tb entries count = none ↔ ∀ j < count, entryGood tb (loadedEntry tb entries j) = true := by
  unfold firstBadEntry
  simp

/-- R158: the first checks that a load passes: table, length and range. -/
structure LoadFits (tb : Table) (code first count : Byte) (entries : List Byte) : Prop where
  table : tableOf code = some tb
  loadable : tb.loadable = true
  nonempty : 1 ≤ count.toNat
  length : entries.length = count.toNat * tb.loadSize
  inside : first.toNat + count.toNat ≤ tb.entries

namespace LoadFits

variable {tb : Table} {code first count : Byte} {entries : List Byte}

/-- R158: a load that passes the first checks is judged by zone 0 and by its entries. -/
theorem manage_eq (h : LoadFits tb code first count entries) (s : State) :
    manageLoadEntries ([code, first, count] ++ entries) s =
      if tb = .zone ∧ first.toNat = 0 then refuse s 0x02 .readOnly 0
      else match firstBadEntry tb entries count.toNat with
        | some j => refuse s 0x02 .badValue (BitVec.ofNat 8 (first.toNat + j))
        | none => accept (s.loadAll tb first.toNat entries count.toNat) 0x02 := by
  obtain ⟨ht, hl, hc, hlen, hin⟩ := h
  have hcode : tableOf (byteAt ([code, first, count] ++ entries) 0) = some tb := ht
  have hout : outside tb.entries (byteAt ([code, first, count] ++ entries) 1).toNat
      (byteAt ([code, first, count] ++ entries) 2).toNat = none := if_pos (.inl hin)
  have hlong : ¬ (count.toNat = 0 ∨ entries.length ≠ count.toNat * tb.loadSize) := fun k => k.elim (by omega) (· hlen)
  unfold manageLoadEntries
  dsimp only
  rw [if_neg (by simp), hcode]
  dsimp only
  rw [if_neg (by simp [hl])]
  refine (if_neg hlong).trans ?_
  rw [hout]
  rfl

theorem manage_zone (h : LoadFits tb code 0 count entries) (hz : tb = .zone) (s : State) :
    manageLoadEntries ([code, 0, count] ++ entries) s = refuse s 0x02 .readOnly 0 :=
  (h.manage_eq s).trans (if_pos ⟨hz, rfl⟩)

/-- R158: zone 0 apart, a load is judged by its entries. -/
theorem not_zone (hz : tb ≠ .zone ∨ first ≠ 0) : ¬ (tb = .zone ∧ first.toNat = 0) :=
  fun k => hz.elim (· k.1) fun h => h (BitVec.eq_of_toNat_eq k.2)

theorem manage_bad (h : LoadFits tb code first count entries) (hz : tb ≠ .zone ∨ first ≠ 0) {j : Nat}
    (hb : firstBadEntry tb entries count.toNat = some j) (s : State) :
    manageLoadEntries ([code, first, count] ++ entries) s =
      refuse s 0x02 .badValue (BitVec.ofNat 8 (first.toNat + j)) := by
  rw [h.manage_eq s, if_neg (not_zone hz), hb]

theorem manage_good (h : LoadFits tb code first count entries) (hz : tb ≠ .zone ∨ first ≠ 0)
    (hg : ∀ j < count.toNat, entryGood tb (loadedEntry tb entries j) = true) (s : State) :
    manageLoadEntries ([code, first, count] ++ entries) s =
      accept (s.loadAll tb first.toNat entries count.toNat) 0x02 := by
  rw [h.manage_eq s, if_neg (not_zone hz), firstBadEntry_none.2 hg]

end LoadFits

/-- R158: a load into a table that is not loadable. -/
theorem manageLoadEntries_readOnly {tb : Table} {code : Byte} (ht : tableOf code = some tb) (hl : tb.loadable = false)
    {rest : List Byte} (hr : 2 ≤ rest.length) (s : State) :
    manageLoadEntries (code :: rest) s = refuse s 0x02 .readOnly code := by
  have hcode : tableOf (byteAt (code :: rest) 0) = some tb := ht
  have hlen : ¬ (code :: rest).length < 3 := by
    rw [List.length_cons]
    omega
  unfold manageLoadEntries
  dsimp only
  rw [if_neg hlen, hcode]
  exact if_pos hl

section
variable {s : State} {h : Header} {tb : Table} {code first count : Byte} {entries : List Byte}

/-- R153: a load refused. -/
theorem loadEntries_refuses (hh : s.held = none) (ha : Addressed s h) {body : List Byte} {v : Verdict} {d : Byte}
    (hm : ∀ s, manageLoadEntries body s = refuse s 0x02 v d) :
    ∃ t, exec (.loadEntries h body) s = .next t ∧ Refuses s t h (0x02 :: body) (verdictCode v) d :=
  ⟨_, exec_free hh _, takeCommand_answers (u := s) ha (a := (refuse s 0x02 v d).2) (fun _ _ => hm _) rfl rfl rfl⟩

/-- R158, R159: a load executed. -/
theorem LoadFits.accepted (hf : LoadFits tb code first count entries) (hz : tb ≠ .zone ∨ first ≠ 0) (hh : s.held = none)
    (ha : Addressed s h) (hg : ∀ j < count.toNat, entryGood tb (loadedEntry tb entries j) = true) :
    ∃ x y, exec (.loadEntries h ([code, first, count] ++ entries)) s =
        .next ((s.loadAll tb first.toNat entries count.toNat).withPorts x y) ∧
      Answers s ((s.loadAll tb first.toNat entries count.toNat).withPorts x y) h ([0x02, code, first, count] ++ entries)
        0 0 [] := by
  obtain ⟨e, hans⟩ := takeCommand_answers (payload := [0x02, code, first, count] ++ entries)
    (manage := manageLoadEntries ([code, first, count] ++ entries)) ha (a := (accept s 0x02).2)
    (fun x y => (hf.manage_good hz hg _).trans (Prod.ext (Portless.loadAll tb _ _ _ s x y) rfl)) rfl
    (s.loadAll_node _ _ _ _) rfl
  rw [e] at hans
  exact ⟨_, _, (exec_free hh _).trans (congrArg _ e), hans⟩

/-! ### A load of one entry -/

theorem loadedEntry_whole {entry : List Byte} (hl : entry.length = tb.loadSize) : loadedEntry tb entry 0 = entry := by
  unfold loadedEntry
  rw [Nat.zero_mul, List.drop_zero, ← hl, List.take_length]

theorem toNat_index {n i : Nat} (hi : i < n) (hn : n ≤ 48) : (BitVec.ofNat 8 i).toNat = i := by
  rw [BitVec.toNat_ofNat]
  omega

/-- R158: a load of one entry passes the first checks. -/
theorem LoadFits.one (ht : tableOf code = some tb) (hl : tb.loadable = true) {entry : List Byte}
    (hlen : entry.length = tb.loadSize) {i : Nat} (hi : i < tb.entries) : LoadFits tb code (BitVec.ofNat 8 i) 1 entry := by
  have hn : tb.entries ≤ 48 := by cases tb <;> decide
  refine ⟨ht, hl, le_rfl, hlen.trans (Nat.one_mul _).symm, ?_⟩
  rw [toNat_index hi hn]
  exact hi

/-- R158: a load of one entry that is invalid. -/
theorem loadOne_refuses (ht : tableOf code = some tb) (hl : tb.loadable = true) (hz : tb ≠ .zone) {entry : List Byte}
    (hlen : entry.length = tb.loadSize) {i : Nat} (hi : i < tb.entries) (hb : entryGood tb entry = false)
    (hh : s.held = none) (ha : Addressed s h) :
    ∃ t, exec (.loadEntries h ([code, BitVec.ofNat 8 i, 1] ++ entry)) s = .next t ∧
      Refuses s t h (0x02 :: ([code, BitVec.ofNat 8 i, 1] ++ entry)) 0x04 (BitVec.ofNat 8 i) := by
  have hn : tb.entries ≤ 48 := by cases tb <;> decide
  have hbad : firstBadEntry tb entry (1 : Byte).toNat = some 0 := by
    show List.find? _ [0] = some 0
    rw [List.find?_cons, loadedEntry_whole hlen, hb]
    rfl
  refine loadEntries_refuses (v := .badValue) hh ha fun s => ((LoadFits.one ht hl hlen hi).manage_bad (.inl hz) hbad s).trans ?_
  rw [toNat_index hi hn]
  rfl

/-- R159: a load of one entry executed. -/
theorem loadOne_accepted (ht : tableOf code = some tb) (hl : tb.loadable = true) (hz : tb ≠ .zone) {entry : List Byte}
    (hlen : entry.length = tb.loadSize) {i : Nat} (hi : i < tb.entries) (hg : entryGood tb entry = true)
    (hh : s.held = none) (ha : Addressed s h) :
    ∃ x y, exec (.loadEntries h ([code, BitVec.ofNat 8 i, 1] ++ entry)) s =
        .next ((s.loadEntry tb i entry).withPorts x y) ∧
      Answers s ((s.loadEntry tb i entry).withPorts x y) h (0x02 :: ([code, BitVec.ofNat 8 i, 1] ++ entry)) 0 0 [] := by
  have hn : tb.entries ≤ 48 := by cases tb <;> decide
  have hall : ∀ j < (1 : Byte).toNat, entryGood tb (loadedEntry tb entry j) = true := fun j hj => by
    obtain rfl : j = 0 := Nat.lt_one_iff.1 hj
    rwa [loadedEntry_whole hlen]
  have hone : s.loadAll tb (BitVec.ofNat 8 i).toNat entry (1 : Byte).toNat = s.loadEntry tb i entry := by
    show s.loadEntry tb ((BitVec.ofNat 8 i).toNat + 0) (loadedEntry tb entry 0) = _
    rw [loadedEntry_whole hlen, Nat.add_zero, toNat_index hi hn]
  obtain ⟨x, y, he, hans⟩ := (LoadFits.one ht hl hlen hi).accepted (.inl hz) hh ha hall
  rw [hone] at he hans
  exact ⟨x, y, he, hans⟩

end
end Sys2Proof.Machine
end

section
/-! PROOF. What a load writes of each table, and what follows from it (R18, R42, R45, R46, R53, R72, R127, R129, R157 to
R159). -/

namespace Sys2Proof.Machine

/-! ### Zones -/

theorem fieldAt_loadedZone (entries : List Byte) (j : Nat) :
    fieldAt (loadedEntry .zone entries j) 0 6 = fieldAt entries (6 * j) 6 := by
  unfold fieldAt loadedEntry Table.loadSize
  dsimp only
  rw [List.drop_zero, List.take_take, Nat.min_self, Nat.mul_comm]

/-- R159: a load of zones replaces the zones it names. -/
theorem State.loadAll_zones (s : State) {first count : Nat} (entries : List Byte) (h : first + count ≤ 16) :
    let t := s.loadAll .zone first entries count
    t = { s with zones := t.zones } ∧
    (∀ j < count, ∀ z : Fin 16, z.val = first + j → t.zones[z] = BitVec.ofNat 48 (fieldAt entries (6 * j) 6)) ∧
    ∀ z : Fin 16, z.val < first ∨ first + count ≤ z.val → t.zones[z] = s.zones[z] := by
  induction count with
  | zero => exact ⟨rfl, fun j hj => absurd hj (Nat.not_lt_zero j), fun _ _ => rfl⟩
  | succ n ih =>
    obtain ⟨hframe, hwritten, hkept⟩ := ih (by omega)
    have hstep : s.loadAll .zone first entries (n + 1) = { s.loadAll .zone first entries n with
        zones := (s.loadAll .zone first entries n).zones.set (first + n)
          (BitVec.ofNat 48 (fieldAt (loadedEntry .zone entries n) 0 6)) (by omega) } := by
      unfold State.loadAll
      rw [List.range_succ, List.foldl_append]
      exact dif_pos (by omega)
    have hget : ∀ z : Fin 16, (s.loadAll .zone first entries (n + 1)).zones[z] =
        if z.val = first + n then BitVec.ofNat 48 (fieldAt entries (6 * n) 6)
        else (s.loadAll .zone first entries n).zones[z] := fun z => by
      rw [hstep, ← fieldAt_loadedZone]
      exact (get_set_fin _ ⟨first + n, by omega⟩ z _).trans (if_congr Fin.ext_iff rfl rfl)
    refine ⟨?_, fun j hj z hz => ?_, fun z hz => ?_⟩
    · rw [hstep]
      generalize (s.loadAll .zone first entries n).zones.set _ _ _ = zones
      rw [hframe]
    · rw [hget]
      obtain hj | rfl := Nat.lt_succ_iff_lt_or_eq.1 hj
      · rw [if_neg (by omega), hwritten j hj z hz]
      · rw [if_pos hz]
    · rw [hget, if_neg (by omega), hkept z (by omega)]

/-! ### A berth entry (R18, R43, R45) -/

theorem State.copiedBerth_settings (s : State) (cfg : BerthConfig) (r : Berth) : (s.copiedBerth cfg r).settings =
    if cfg.profile = r.config.profile then r.settings else profileSet s.profiles[cfg.profile] r.regime := by
  unfold State.copiedBerth
  split <;> rfl

theorem State.copiedBerth_regime (s : State) (cfg : BerthConfig) (r : Berth) :
    (s.copiedBerth cfg r).regime = r.regime := by
  rw [s.copiedBerth_only]
  rfl

theorem State.copiedBerth_config (s : State) (cfg : BerthConfig) (r : Berth) : (s.copiedBerth cfg r).config = cfg := by
  rw [s.copiedBerth_only]
  rfl

/-- R43: the regime after a load. -/
theorem State.loadedBerth_regime (s : State) (cfg : BerthConfig) (r : Berth) : (s.loadedBerth cfg r).regime =
    if cfg.quietSource = r.config.quietSource then r.regime
    else formRegime cfg.quietSource s.effectiveQA s.effectiveQB := by
  unfold State.loadedBerth
  split
  · exact s.copiedBerth_regime cfg r
  · rw [State.evaluated_regime, State.formedRegime, s.copiedBerth_config]

/-- R43, R45: the settings after an evaluation. -/
theorem State.evaluated_settings {s : State} {r : Berth} {cfg : BerthConfig} (h : r.config = cfg) :
    (s.evaluated r).settings = if s.formedRegime r = r.regime then r.settings
      else profileSet s.profiles[cfg.profile] (s.formedRegime r) := by
  subst h
  rw [State.evaluated_eq]

/-- R45, R46: the settings after a load. -/
theorem State.loadedBerth_settings (s : State) (cfg : BerthConfig) (r : Berth) : (s.loadedBerth cfg r).settings =
    if cfg.profile = r.config.profile ∧ (s.loadedBerth cfg r).regime = r.regime then r.settings
    else profileSet s.profiles[cfg.profile] (s.loadedBerth cfg r).regime := by
  by_cases hq : cfg.quietSource = r.config.quietSource
  · have e : s.loadedBerth cfg r = s.copiedBerth cfg r := if_pos hq
    rw [e, s.copiedBerth_regime, s.copiedBerth_settings]
    exact if_congr (and_iff_left rfl).symm rfl rfl
  · have e : s.loadedBerth cfg r = s.evaluated (s.copiedBerth cfg r) := if_neg hq
    rw [e, State.evaluated_regime, State.evaluated_settings (s.copiedBerth_config cfg r), s.copiedBerth_regime,
      s.copiedBerth_settings]
    by_cases hf : s.formedRegime (s.copiedBerth cfg r) = r.regime
    · simp only [hf, and_true, if_true]
    · simp only [hf, and_false, if_false]

/-- R18, R53: a load of a berth writes its record and counts a change of its regime. -/
theorem State.loadBerth_eq (s : State) (b : BerthIx) (cfg : BerthConfig) : s.loadBerth b cfg =
    (s.modBerth b (s.loadedBerth cfg)).countPart fun k => { k with
      regimeChanges := addCount k.regimeChanges
        (if (s.loadedBerth cfg s.berths[b]).regime = s.berths[b].regime then 0 else 1) } := by
  unfold State.loadBerth
  dsimp only
  rw [State.loadBerth_copied]
  by_cases hq : cfg.quietSource = s.berths[b].config.quietSource
  · have e : s.loadedBerth cfg s.berths[b] = s.copiedBerth cfg s.berths[b] := if_pos hq
    rw [if_pos hq, if_pos (e ▸ s.copiedBerth_regime cfg _)]
    simp only [addCount_zero]
    unfold State.modBerth
    rw [e]
    rfl
  · have e : s.loadedBerth cfg s.berths[b] = s.evaluated (s.copiedBerth cfg s.berths[b]) := if_neg hq
    have hown : (s.modBerth b fun _ => s.copiedBerth cfg s.berths[b]).berths[b] = s.copiedBerth cfg s.berths[b] := by
      rw [State.modBerth_get, if_pos rfl]
    rw [if_neg hq]
    unfold State.evaluateBerth
    rw [State.modBerth_modBerth, hown, e, State.evaluated_regime, s.copiedBerth_regime]
    unfold State.modBerth
    rw [e]
    rfl

/-! ### A chain entry (R127, R129) -/

/-- R127: the record of a chain whose entry was loaded. -/
def Chain.loaded (ch : Chain) (e : Bool) (budget ratio : Nat) : Chain :=
  { ch with enabled := e, budget := clampBudget budget, ratio := clampRatio ratio }

theorem State.loadChain_writes {s : State} {c : ChainIx} {e : Bool} (h : e = true ∨ s.chains[c].enabled = false)
    (budget ratio : Nat) : s.loadChain c e budget ratio = s.modChain c fun ch => ch.loaded e budget ratio := by
  refine if_neg ?_
  obtain rfl | h := h
  · simp
  · rw [h]
    exact Bool.false_ne_true

theorem State.loadChain_stops {s : State} {c : ChainIx} (h : s.chains[c].enabled = true) (budget ratio : Nat) :
    s.loadChain c false budget ratio = (s.modChain c fun ch => ch.loaded false budget ratio).chainStops c :=
  if_pos (by rw [h]; rfl)

/-! ### A profile entry (R46) -/

theorem State.copyProfile_get (s : State) (i : Fin 4) (p : Profile) (b : BerthIx) :
    (State.copyProfile { s with profiles := s.profiles.set i p } i).berths[b] =
      if s.berths[b].config.profile = i then { s.berths[b] with settings := profileSet p s.berths[b].regime }
      else s.berths[b] := by
  unfold State.copyProfile
  rw [State.mapBerths_get]
  refine ite_congr rfl (fun h => ?_) fun _ => rfl
  have hp : (s.profiles.set i p)[s.berths[b].config.profile] = p := by
    rw [get_set_fin, if_pos h]
  show { s.berths[b] with settings := profileSet (s.profiles.set i p)[s.berths[b].config.profile] s.berths[b].regime } = _
  rw [hp]

/-! ### A class entry (R72) -/

theorem State.unduck_get (s : State) (i : Fin 4) (b : BerthIx) : (s.unduck i).berths[b] = { s.berths[b] with
    ducked := s.berths[b].ducked &&
      decide ((s.berths[b].governing.bind fun a => s.channels[a].cls.map Machine.Class.index) ≠ some i) } := by
  have hclass : (s.governingClass s.berths[b]).map Class.index =
      s.berths[b].governing.bind fun a => s.channels[a].cls.map Machine.Class.index := Option.map_bind
  unfold State.unduck
  rw [State.mapBerths_get, hclass]
  by_cases h : (s.berths[b].governing.bind fun a => s.channels[a].cls.map Machine.Class.index) = some i
  · rw [if_pos h, decide_eq_false (not_not.2 h), Bool.and_false]
  · rw [if_neg h, decide_eq_true h, Bool.and_true]

theorem Governed.unduck {s : State} (h : Governed s) (i : Fin 4) : Governed (s.unduck i) := fun b hp => by
  have hchannels : (s.unduck i).channels = s.channels := (State.mapBerths_same s _).channels (by decide)
  have hchoice : (s.unduck i).chooseGoverning b = s.chooseGoverning b :=
    chooseGoverning_congr (fun a _ => by rw [hchannels]) b
  rw [State.unduck_get] at hp ⊢
  exact (h b hp).trans hchoice.symm

theorem State.loadClass_changes {s : State} {i : Fin 4} {e : ClassEntry} (h : e.duckTarget ≠ s.classes[i].duckTarget) :
    s.loadClass i e = (State.unduck { s with classes := s.classes.set i e } i).evaluateReleases := if_neg h

theorem State.loadClass_keeps {s : State} {i : Fin 4} {e : ClassEntry} (h : e.duckTarget = s.classes[i].duckTarget) :
    s.loadClass i e = { s with classes := s.classes.set i e } := if_pos h

/-- R81: only a channel in DUCKING moves when releases are evaluated. -/
theorem State.evaluateReleases_still {s : State} {a : ChannelIx} (h : s.channels[a].state ≠ .ducking) :
    s.evaluateReleases.channels[a] = s.channels[a] := by
  have hfirst : (s.evaluateRelease 0).channels[a] = s.channels[a] := by
    by_cases e : a = 0
    · subst e
      exact (evaluateRelease_spec s 0).2 0 (.inr h)
    · exact (evaluateRelease_spec s 0).2 a (.inl e)
  refine Eq.trans ?_ hfirst
  by_cases e : a = 1
  · subst e
    exact (evaluateRelease_spec _ 1).2 1 (.inr (by rwa [hfirst]))
  · exact (evaluateRelease_spec _ 1).2 a (.inl e)

end Sys2Proof.Machine
end

section
/-! PROOF. The part settings loaded (R11, R13, R42, R43, R53, R157). -/

namespace Sys2Proof.Machine

/-! ### The bytes of the entry -/

theorem fieldAt_word {bs : List Byte} {off : Nat} (h : off + 2 ≤ bs.length) :
    fieldAt bs off 2 = (byteAt bs off).toNat * 256 + (byteAt bs (off + 1)).toNat := by
  have h0 : off < bs.length := by omega
  have h1 : off + 1 < bs.length := by omega
  have e : (bs.drop off).take 2 = [bs[off], bs[off + 1]] := by
    rw [List.drop_eq_getElem_cons h0, List.drop_eq_getElem_cons h1]
    rfl
  unfold fieldAt byteAt
  rw [e, List.getD_eq_getElem _ _ h0, List.getD_eq_getElem _ _ h1]
  simp [beNat]

/-- R158, R168: the three codes of a quiet mode. -/
theorem quietModeOf_spec {b : Byte} (h : b.toNat < 3) : ∃ m, quietModeOf b = some m ∧ quietModeByte m = b := by
  have hb : b = 0 ∨ b = 1 ∨ b = 2 := by bv_omega
  obtain rfl | rfl | rfl := hb
  · exact ⟨.follow, rfl, rfl⟩
  · exact ⟨.forceOn, rfl, rfl⟩
  · exact ⟨.forceOff, rfl, rfl⟩

/-- R168: an entry of the part settings with two valid modes is valid. -/
theorem entryGood_settings {entry : List Byte} (h5 : (byteAt entry 5).toNat < 3) (h6 : (byteAt entry 6).toNat < 3) :
    entryGood .settings entry = true := by
  obtain ⟨m, hm, -⟩ := quietModeOf_spec h5
  obtain ⟨m', hm', -⟩ := quietModeOf_spec h6
  unfold entryGood
  dsimp only
  rw [hm, hm']
  rfl

/-- R157: the mode that a loaded byte names. -/
theorem quietModeByte_loaded {b : Byte} (h : b.toNat < 3) : quietModeByte ((quietModeOf b).getD .follow) = b := by
  obtain ⟨m, hm, hb⟩ := quietModeOf_spec h
  rw [hm]
  exact hb

/-! ### Regimes (R42, R43, R53) -/

/-- R157: the part with other settings. -/
def State.withSettings (s : State) (p : PartSettings) : State := s.modMgmt fun m => { m with settings := p }

/-- R42, R157: the part after a load of its settings, before OVERHEAT is judged. -/
def State.resettled (s : State) (p : PartSettings) : State :=
  if p.modeQA = s.mgmt.settings.modeQA ∧ p.modeQB = s.mgmt.settings.modeQB then s.withSettings p
  else ((s.withSettings p).countLevelChanges s.effectiveQA s.effectiveQB).evaluateAll

theorem State.loadSettings_eq (s : State) (p : PartSettings) : s.loadSettings p = (s.resettled p).judgeOverheat := rfl

/-- R42: modes that stay leave the levels. -/
theorem State.withSettings_levelled {s : State} {p : PartSettings}
    (h : p.modeQA = s.mgmt.settings.modeQA ∧ p.modeQB = s.mgmt.settings.modeQB) : Levelled s (s.withSettings p) := by
  obtain ⟨ha, hb⟩ := h
  unfold Levelled State.effectiveQA State.effectiveQB
  rw [← ha, ← hb]
  exact ⟨rfl, rfl⟩

/-- R53: level changes and regime changes counted, and every berth evaluated. -/
theorem State.evaluateLevels_counts (s : State) (qa qb : Bool) : ((s.countLevelChanges qa qb).evaluateAll).counts =
    { s.counts with
      qaChanges := if s.effectiveQA = qa then s.counts.qaChanges else bump s.counts.qaChanges
      qbChanges := if s.effectiveQB = qb then s.counts.qbChanges else bump s.counts.qbChanges
      regimeChanges := addCount s.counts.regimeChanges ((List.finRange 48).filter fun b =>
        ((s.countLevelChanges qa qb).evaluateAll).berths[b].regime ≠ s.berths[b].regime).length } := by
  have add_ite : ∀ (k : Count) (p : Prop) [Decidable p], addCount k (if p then 0 else 1) = if p then k else bump k := by
    intro k p _
    split
    · exact addCount_zero k
    · rfl
  have hregime : ∀ b : BerthIx, ((s.countLevelChanges qa qb).evaluateAll).berths[b].regime =
      s.formedRegime s.berths[b] := fun b => by
    rw [State.evaluateAll_get, State.evaluated_regime]
    rfl
  simp only [hregime]
  unfold State.evaluateAll State.countLevelChanges
  simp only [State.countPart_counts, State.mapBerths_counts, State.countPart_berths, add_ite]
  rfl

theorem State.resettled_same (s : State) (p : PartSettings) : Same [.mgmt, .counts, .berths] (s.withSettings p)
    (s.resettled p) :=
  Same.ite (.refl _ _) (((State.countPart_same _ _).widen (by decide)).trans ((State.evaluateAll_same _).widen (by decide)))

theorem State.resettled_mgmt (s : State) (p : PartSettings) : (s.resettled p).mgmt = { s.mgmt with settings := p } := by
  have h : Same [.counts, .berths] (s.withSettings p) (s.resettled p) :=
    Same.ite (.refl _ _) (((State.countPart_same _ _).widen (by decide)).trans ((State.evaluateAll_same _).widen (by decide)))
  exact h.mgmt (by decide)

theorem State.resettled_levelled (s : State) (p : PartSettings) : Levelled (s.withSettings p) (s.resettled p) := by
  refine levelled_of ?_ ?_ ?_
  · rw [s.resettled_mgmt]
    rfl
  · rw [(s.resettled_same p).timer (by decide)]
  · rw [(s.resettled_same p).timer (by decide)]

/-- R42, R43: the berths after a load of the part settings. -/
theorem State.resettled_get (s : State) (p : PartSettings) (b : BerthIx) : (s.resettled p).berths[b] =
    if p.modeQA = s.mgmt.settings.modeQA ∧ p.modeQB = s.mgmt.settings.modeQB then s.berths[b]
    else (s.withSettings p).evaluated s.berths[b] := by
  unfold State.resettled
  split
  · rfl
  · rw [State.evaluateAll_get]
    rfl

/-- R53: what a load of the part settings counts. -/
theorem State.resettled_counts (s : State) (p : PartSettings) :
    (s.resettled p).counts = regimesCounted s (s.resettled p) := by
  obtain ⟨ha, hb⟩ := s.resettled_levelled p
  unfold regimesCounted
  rw [ha, hb]
  by_cases h : p.modeQA = s.mgmt.settings.modeQA ∧ p.modeQB = s.mgmt.settings.modeQB
  · obtain ⟨ha, hb⟩ := State.withSettings_levelled h
    have e : s.resettled p = s.withSettings p := if_pos h
    have hnone : ((List.finRange 48).filter fun b => (s.resettled p).berths[b].regime ≠ s.berths[b].regime) = [] :=
      List.filter_eq_nil_iff.2 fun b _ => by
        rw [e]
        exact (decide_eq_true_iff.1 · rfl)
    rw [hnone, ha, hb, if_pos rfl, if_pos rfl, List.length_nil, addCount_zero, e]
    rfl
  · have e : s.resettled p = ((s.withSettings p).countLevelChanges s.effectiveQA s.effectiveQB).evaluateAll := if_neg h
    rw [e]
    exact State.evaluateLevels_counts _ _ _

/-! ### OVERHEAT judged (R11, R13) -/

/-- R11: the raise of OVERHEAT at a judgement is the only count that moves. -/
theorem judgeOverheat_overheatCount (s : State) : s.judgeOverheat.counts =
    { s.counts with overheatRaises := overheatCount s s.judgeOverheat } := by
  rw [State.judgeOverheat_counts]
  unfold overheatCount
  rw [State.judgeOverheat_faults]
  dsimp only
  cases s.faults.flags.overheat <;> simp

/-- R11, R13: the OVERHEAT flag is raised when the condition comes to hold. -/
theorem judgeOverheat_flag (s : State) : s.judgeOverheat.faults.flags.overheat = true ↔
    s.faults.flags.overheat = true ∨ (s.faults.overheat = false ∧ s.judgeOverheat.faults.overheat = true) := by
  simp only [State.judgeOverheat_faults, Bool.or_eq_true, Bool.and_eq_true, Bool.not_eq_true']
  rw [and_comm (a := s.faults.overheat = false)]

theorem State.resettled_faults (s : State) (p : PartSettings) : (s.resettled p).faults = s.faults :=
  (s.resettled_same p).faults (by decide)

theorem State.loadSettings_berths (s : State) (p : PartSettings) :
    (s.loadSettings p).berths = (s.resettled p).berths := (State.judgeOverheat_same _).berths (by decide)

theorem State.loadSettings_mgmt (s : State) (p : PartSettings) :
    (s.loadSettings p).mgmt = { s.mgmt with settings := p } :=
  ((State.judgeOverheat_same _).mgmt (by decide)).trans (s.resettled_mgmt p)

theorem State.loadSettings_levelled (s : State) (p : PartSettings) : Levelled (s.resettled p) (s.loadSettings p) :=
  (State.judgeOverheat_same _).levelled (by decide) (by decide)

/-- R13: OVERHEAT after a load of the part settings. -/
theorem State.loadSettings_overheat (s : State) (p : PartSettings) : (s.loadSettings p).faults.overheat =
    overheatAfter p.threshold s.faults.overheat s.faults.temperature := by
  rw [State.loadSettings_eq, State.judgeOverheat_faults, State.hotAt, s.resettled_faults, s.resettled_mgmt]

theorem State.loadSettings_flag (s : State) (p : PartSettings) : (s.loadSettings p).faults.flags.overheat = true ↔
    s.faults.flags.overheat = true ∨ (s.faults.overheat = false ∧ (s.loadSettings p).faults.overheat = true) := by
  have h := judgeOverheat_flag (s.resettled p)
  rwa [s.resettled_faults] at h

/-- R11, R53: what a load of the part settings counts in all. -/
theorem State.loadSettings_counts (s : State) (p : PartSettings) : (s.loadSettings p).counts =
    { regimesCounted s (s.loadSettings p) with overheatRaises := overheatCount s (s.loadSettings p) } := by
  obtain ⟨ha, hb⟩ := s.loadSettings_levelled p
  have hregimes : regimesCounted s (s.loadSettings p) = (s.resettled p).counts := by
    rw [s.resettled_counts]
    unfold regimesCounted
    rw [s.loadSettings_berths, ha, hb]
  have hraises : overheatCount s (s.loadSettings p) = overheatCount (s.resettled p) (s.loadSettings p) := by
    unfold overheatCount
    rw [s.resettled_faults, s.resettled_counts]
    rfl
  rw [hregimes, hraises]
  exact judgeOverheat_overheatCount _

/-- R157: what a load of the part settings writes. -/
theorem State.loadSettings_frame (s : State) (p : PartSettings) : s.loadSettings p = { s with
    mgmt := { s.mgmt with settings := p }
    faults := { s.faults with
      overheat := (s.loadSettings p).faults.overheat
      flags := { s.faults.flags with overheat := (s.loadSettings p).faults.flags.overheat } }
    counts := (s.loadSettings p).counts, berths := (s.loadSettings p).berths } := by
  have hf : (s.loadSettings p).faults = { s.faults with
      overheat := (s.loadSettings p).faults.overheat
      flags := { s.faults.flags with overheat := (s.loadSettings p).faults.flags.overheat } } := by
    rw [State.loadSettings_eq, State.judgeOverheat_faults, s.resettled_faults]
  have h := State.loadSettings_same s p
  rw [← hf, ← s.loadSettings_mgmt]
  obtain ⟨h1, h2, h3, -, -, -, -, h8, h9, h10, h11, h12, h13, h14, h15, h16, h17, h18, h19, h20, h21, h22⟩ := h
  clear hf
  generalize s.loadSettings p = t at *
  cases s
  cases t
  simp_all

end Sys2Proof.Machine
end

section
/-! PROOF. LOAD ENTRIES of each table (R18, R42, R45, R46, R53, R72, R127, R129, R157 to R159). -/

namespace Sys2Proof.Machine

/-- R18, R43, R45, R53: what a load of a berth makes of the part. -/
theorem loadBerth_spec (s : State) (b : BerthIx) (cfg : BerthConfig) :
    let t := s.loadBerth b cfg
    let r := s.berths[b]
    t = { s with berths := s.berths.set b t.berths[b], counts := t.counts } ∧
    t.berths[b].config = cfg ∧
    t.berths[b].audio = r.audio.filter (fun v => cfg.allowed.getLsbD v.val) ∧
    t.berths[b].video = r.video.filter (fun v => cfg.allowed.getLsbD v.val) ∧
    t.berths[b] = { r with
      config := cfg, audio := t.berths[b].audio, video := t.berths[b].video
      regime := t.berths[b].regime, settings := t.berths[b].settings } ∧
    t.counts = { s.counts with
      regimeChanges := addCount s.counts.regimeChanges (if t.berths[b].regime = r.regime then 0 else 1) } ∧
    (cfg.quietSource = r.config.quietSource → t.berths[b].regime = r.regime) ∧
    (cfg.quietSource ≠ r.config.quietSource →
      (t.berths[b].regime = .night ↔ NightUnder cfg.quietSource s.effectiveQA s.effectiveQB)) ∧
    (cfg.profile = r.config.profile → t.berths[b].regime = r.regime → t.berths[b].settings = r.settings) ∧
    (cfg.profile ≠ r.config.profile ∨ t.berths[b].regime ≠ r.regime →
      t.berths[b].settings = profileSet s.profiles[cfg.profile] t.berths[b].regime) := by
  intro t r
  have hown : t.berths[b] = s.loadedBerth cfg r := by
    rw [State.loadBerth_get, if_pos rfl]
  have honly := s.loadedBerth_only cfg r
  have hsettings := s.loadedBerth_settings cfg r
  rw [hown]
  refine ⟨?_, ?_, ?_, ?_, ?_, ?_, fun hq => ?_, fun hq => ?_, fun hp hr => ?_, fun hpr => ?_⟩
  · show s.loadBerth b cfg = { s with berths := _, counts := (s.loadBerth b cfg).counts }
    rw [State.loadBerth_eq]
    rfl
  · rw [honly]
    rfl
  · rw [honly]
    rfl
  · rw [honly]
    rfl
  · rw [honly]
    rfl
  · show (s.loadBerth b cfg).counts = _
    rw [State.loadBerth_eq]
    rfl
  · rw [State.loadedBerth_regime, if_pos hq]
  · rw [State.loadedBerth_regime, if_neg hq]
    exact formRegime_night _ _ _
  · rw [hsettings, if_pos ⟨hp, hr⟩]
  · rw [hsettings, if_neg (not_and_or.2 hpr)]

/-- R127, R129: what a disabling load of a chain makes of the part. -/
theorem loadChain_stops_spec {s : State} {c : ChainIx} (h : s.chains[c].enabled = true) (budget ratio : Nat) :
    let t := s.loadChain c false budget ratio
    t = { s with
      berths := t.berths, calls := t.calls, channels := t.channels
      chains := t.chains, store := t.store, mgmt := { s.mgmt with presence := t.mgmt.presence } } ∧
    ChainStopped s t c ∧
    t.chains[c] = (s.chains[c].loaded false budget ratio).emptied
      ((List.finRange 8).filter fun p => s.berths[berthAt c p].presence = .present).length := by
  have hs := State.modChain_same s c fun ch => ch.loaded false budget ratio
  have hsame : Same [.pins, .berths, .calls, .channels, .chains, .store, .mgmt, .up, .thru] s
      ((s.modChain c fun ch => ch.loaded false budget ratio).chainStops c) :=
    (hs.widen (by decide)).trans ((State.chainStops_same _ c).widen (by decide))
  have hget : ∀ c' : ChainIx, (s.modChain c fun ch => ch.loaded false budget ratio).chains[c'] =
      if c' = c then s.chains[c].loaded false budget ratio else s.chains[c'] := fun c' => State.modChain_get s c c' _
  dsimp only
  rw [State.loadChain_stops h]
  refine ⟨?_, ?_, ?_⟩
  · have hp := (State.chainStops_same (s.modChain c fun ch => ch.loaded false budget ratio) c).pins (by decide)
    have hup := (State.chainStops_same (s.modChain c fun ch => ch.loaded false budget ratio) c).up (by decide)
    have hthru := (State.chainStops_same (s.modChain c fun ch => ch.loaded false budget ratio) c).thru (by decide)
    have he := hsame.eq_stop (State.chainStops_mgmt _ c)
    rw [hp, hup, hthru] at he
    exact he
  · refine (State.chainStops_spec _ c).congr (hs.widen (by decide)) (.refl _ _) ?_ (fun c' hne => ?_) fun _ _ => rfl
    · rw [hget, if_pos rfl]
      rfl
    · rw [hget, if_neg hne]
  · rw [State.chainStops_chain, State.seated_length, hget, if_pos rfl]
    rfl

/-- R72, R81: what a load of a class entry makes of the part. -/
theorem loadClass_spec (s : State) (i : Fin 4) (e : ClassEntry) :
    let t := s.loadClass i e
    t = { s with classes := s.classes.set i e, berths := t.berths, channels := t.channels } ∧
    (e.duckTarget = s.classes[i].duckTarget → t.berths = s.berths ∧ t.channels = s.channels) ∧
    (e.duckTarget ≠ s.classes[i].duckTarget →
      (∀ a : ChannelIx, s.channels[a].state ≠ .ducking → t.channels[a] = s.channels[a]) ∧
      (GoverningLaw s → ∀ a : ChannelIx, Released t a s.channels[a]) ∧
      (GoverningLaw s → ∀ b : BerthIx, t.berths[b] = { s.berths[b] with
        ducked := s.berths[b].ducked &&
          decide ((s.berths[b].governing.bind fun a => s.channels[a].cls.map Machine.Class.index) ≠ some i) })) := by
  by_cases h : e.duckTarget = s.classes[i].duckTarget
  · dsimp only
    rw [State.loadClass_keeps h]
    exact ⟨rfl, fun _ => ⟨rfl, rfl⟩, fun k => absurd h k⟩
  · have hu : Same [.berths] { s with classes := s.classes.set i e } (State.unduck { s with classes := s.classes.set i e } i) :=
      State.mapBerths_same _ _
    have hchannels : (State.unduck { s with classes := s.classes.set i e } i).channels = s.channels := hu.channels (by decide)
    have governed : GoverningLaw s → Governed (State.unduck { s with classes := s.classes.set i e } i) := fun hg =>
      ((governed_of_law hg).congr (t := { s with classes := s.classes.set i e }) rfl rfl).unduck i
    dsimp only
    rw [State.loadClass_changes h]
    refine ⟨?_, fun k => absurd k h, fun _ => ⟨fun a hd => ?_, fun hg a => ?_, fun hg b => ?_⟩⟩
    · have hsame : Same [.berths, .channels] { s with classes := s.classes.set i e }
          (State.unduck { s with classes := s.classes.set i e } i).evaluateReleases :=
        (hu.widen (by decide)).trans (State.evaluateReleases_same _)
      exact hsame.eq_governing
    · rw [State.evaluateReleases_still (by rwa [hchannels]), hchannels]
    · have hr := (governed hg).evaluateReleases_spec.2.2 a
      rwa [hchannels] at hr
    · rw [(governed hg).evaluateReleases_spec.1, State.unduck_get]

/-- R157: the fields of the part settings that an entry holds. -/
theorem partSettingsOf_spec {entry : List Byte} (hlen : entry.length = 10) (h5 : (byteAt entry 5).toNat < 3)
    (h6 : (byteAt entry 6).toNat < 3) :
    let p := partSettingsOf entry
    p.recoveryStep.val = (byteAt entry 0).toNat ∧ p.threshold = max 60 (min 125 (byteAt entry 1).toNat) ∧
    p.faultMask.markLoss = (byteAt entry 2).getLsbD 0 ∧ p.faultMask.overheat = (byteAt entry 2).getLsbD 1 ∧
    p.faultMask.backboneDown = (byteAt entry 2).getLsbD 2 ∧
    p.attentionMask.toNat = (byteAt entry 3).toNat * 256 + (byteAt entry 4).toNat ∧
    quietModeByte p.modeQA = byteAt entry 5 ∧ quietModeByte p.modeQB = byteAt entry 6 := by
  have h0 := (byteAt entry 0).isLt
  have h3 := (byteAt entry 3).isLt
  have h4 := (byteAt entry 4).isLt
  refine ⟨Nat.mod_eq_of_lt h0, rfl, rfl, rfl, rfl, ?_, quietModeByte_loaded h5, quietModeByte_loaded h6⟩
  show (BitVec.ofNat 16 (fieldAt entry 3 2)).toNat = _
  rw [fieldAt_word (by omega), BitVec.toNat_ofNat, Nat.mod_eq_of_lt (by omega)]

/-- R42, R43, R45: what a load of the part settings makes of the berths. -/
theorem loadSettings_regimes (s : State) (p : PartSettings) :
    let t := s.loadSettings p
    (p.modeQA = s.mgmt.settings.modeQA ∧ p.modeQB = s.mgmt.settings.modeQB → t.berths = s.berths) ∧
    (p.modeQA ≠ s.mgmt.settings.modeQA ∨ p.modeQB ≠ s.mgmt.settings.modeQB → ∀ b : BerthIx,
      (t.berths[b].regime = .night ↔ NightUnder s.berths[b].config.quietSource t.effectiveQA t.effectiveQB) ∧
      t.berths[b] = { s.berths[b] with
        regime := t.berths[b].regime
        settings := if t.berths[b].regime = s.berths[b].regime then s.berths[b].settings
          else profileSet s.profiles[s.berths[b].config.profile] t.berths[b].regime }) := by
  intro t
  have hberths : t.berths = (s.resettled p).berths := s.loadSettings_berths p
  obtain ⟨ha, hb⟩ := s.loadSettings_levelled p
  obtain ⟨ha', hb'⟩ := s.resettled_levelled p
  refine ⟨fun h => ?_, fun h b => ?_⟩
  · rw [hberths]
    refine berths_ext fun b => ?_
    rw [State.resettled_get, if_pos h]
  · have hget : t.berths[b] = (s.withSettings p).evaluated s.berths[b] := by
      rw [hberths, State.resettled_get, if_neg (not_and_or.2 h)]
    have hqa : t.effectiveQA = (s.withSettings p).effectiveQA := ha.trans ha'
    have hqb : t.effectiveQB = (s.withSettings p).effectiveQB := hb.trans hb'
    rw [hget, hqa, hqb]
    refine ⟨?_, ?_⟩
    · rw [State.evaluated_regime]
      exact formRegime_night _ _ _
    · rw [State.evaluated_regime]
      exact (s.withSettings p).evaluated_eq s.berths[b]

/-- R159: the part with other ports. -/
theorem State.withPorts_eq {u v : State} (e : u = v) (x : UpstreamPort) (y : ThroughPort) :
    u.withPorts x y = { v with up := (u.withPorts x y).up, thru := (u.withPorts x y).thru } := by
  rw [e]
  rfl

theorem State.copyProfile_frame (s : State) (i : Fin 4) (p : Profile) :
    State.copyProfile { s with profiles := s.profiles.set i p } i = { s with
      profiles := s.profiles.set i p
      berths := (State.copyProfile { s with profiles := s.profiles.set i p } i).berths } := rfl

theorem State.withPorts_same (s : State) (x : UpstreamPort) (y : ThroughPort) :
    Same [.chains, .pins, .up, .thru] s (s.withPorts x y) := by
  simp [Same, State.withPorts]

/-! ### The commands -/

section
variable {s : State} {h : Header} (hh : s.held = none) (ha : Addressed s h)
include hh ha

/-- R158, R159: a load of zones. -/
theorem loadZones {first count : Byte} {entries : List Byte} (hc : 1 ≤ count.toNat)
    (hlen : entries.length = count.toNat * 6) (hin : first.toNat + count.toNat ≤ 16) :
    ∃ t, exec (.loadEntries h ([0x02, first, count] ++ entries)) s = .next t ∧
      (first = 0 → Refuses s t h ([0x02, 0x02, first, count] ++ entries) 0x08 0) ∧
      (first ≠ 0 →
        t = { s with zones := t.zones, up := t.up, thru := t.thru } ∧
        Answers s t h ([0x02, 0x02, first, count] ++ entries) 0 0 [] ∧
        (∀ j < count.toNat, ∀ z : Fin 16, z.val = first.toNat + j →
          t.zones[z] = BitVec.ofNat 48 (fieldAt entries (6 * j) 6)) ∧
        ∀ z : Fin 16, z.val < first.toNat ∨ first.toNat + count.toNat ≤ z.val → t.zones[z] = s.zones[z]) := by
  have hf : LoadFits .zone 0x02 first count entries := ⟨rfl, rfl, hc, hlen, hin⟩
  by_cases h0 : first = 0
  · subst h0
    obtain ⟨t, he, hr⟩ := loadEntries_refuses hh ha (hf.manage_zone rfl)
    exact ⟨t, he, fun _ => hr, fun k => absurd rfl k⟩
  · obtain ⟨x, y, he, hans⟩ := hf.accepted (.inr h0) hh ha fun _ _ => rfl
    obtain ⟨hframe, hwritten, hkept⟩ := s.loadAll_zones entries hin
    exact ⟨_, he, fun k => absurd k h0, fun _ => ⟨congrArg (State.withPorts · x y) hframe, hans, hwritten, hkept⟩⟩

/-- R158: a load of the stream table or of the channel table. -/
theorem loadReadOnly {code : Byte} {rest : List Byte} (hr : 2 ≤ rest.length) (hcode : code = 0x07 ∨ code = 0x08) :
    ∃ t, exec (.loadEntries h (code :: rest)) s = .next t ∧ Refuses s t h (0x02 :: code :: rest) 0x08 code := by
  have hm : ∀ s, manageLoadEntries (code :: rest) s = refuse s 0x02 .readOnly code := by
    obtain rfl | rfl := hcode
    · exact manageLoadEntries_readOnly (tb := .stream) rfl rfl hr
    · exact manageLoadEntries_readOnly (tb := .channel) rfl rfl hr
  obtain ⟨t, he, hrefuses⟩ := loadEntries_refuses hh ha hm
  exact ⟨t, he, hrefuses⟩

/-- R158, R159: a load of a berth, valid or not. -/
theorem loadBerth_executed (b : BerthIx) {entry : List Byte} (hlen : entry.length = 10) :
    let body := [0x01, BitVec.ofNat 8 b.val, 1] ++ entry
    ∃ t, exec (.loadEntries h body) s = .next t ∧
      (entryGood .berth entry = false → Refuses s t h (0x02 :: body) 0x04 (BitVec.ofNat 8 b.val)) ∧
      (entryGood .berth entry = true → ∃ x y, t = (s.loadBerth b (berthConfigOf entry)).withPorts x y ∧
        Answers s t h (0x02 :: body) 0 0 []) := by
  cases hg : entryGood .berth entry with
  | false =>
    obtain ⟨t, he, hr⟩ := loadOne_refuses (tb := .berth) (code := 0x01) rfl rfl (by decide) hlen b.isLt hg hh ha
    exact ⟨t, he, fun _ => hr, nofun⟩
  | true =>
    obtain ⟨x, y, he, hans⟩ := loadOne_accepted (tb := .berth) (code := 0x01) rfl rfl (by decide) hlen b.isLt hg hh ha
    have e : s.loadEntry .berth b.val entry = s.loadBerth b (berthConfigOf entry) := dif_pos b.isLt
    rw [e] at he hans
    exact ⟨_, he, nofun, fun _ => ⟨x, y, rfl, hans⟩⟩

/-- R159: a load of a chain. -/
theorem loadChain_executed (c : ChainIx) {entry : List Byte} (hlen : entry.length = 11) (hb : (byteAt entry 0).toNat < 2) :
    let body := [0x05, BitVec.ofNat 8 c.val, 1] ++ entry
    let u := s.loadChain c (byteAt entry 0 == 1) (fieldAt entry 1 2) (byteAt entry 3).toNat
    ∃ x y, exec (.loadEntries h body) s = .next (u.withPorts x y) ∧
      Answers s (u.withPorts x y) h (0x02 :: body) 0 0 [] := by
  obtain ⟨x, y, he, hans⟩ := loadOne_accepted (tb := .chain) (code := 0x05) rfl rfl (by decide) hlen c.isLt
    (decide_eq_true hb) hh ha
  have e : s.loadEntry .chain c.val entry =
      s.loadChain c (byteAt entry 0 == 1) (fieldAt entry 1 2) (byteAt entry 3).toNat := dif_pos c.isLt
  rw [e] at he hans
  exact ⟨x, y, he, hans⟩

/-- R159: a load of a profile. -/
theorem loadProfile_executed (i : Fin 4) {entry : List Byte} (hlen : entry.length = 18)
    (hg : entryGood .profile entry = true) :
    let body := [0x03, BitVec.ofNat 8 i.val, 1] ++ entry
    let u := State.copyProfile
      { s with profiles := s.profiles.set i { day := settingsOf entry, night := settingsOf (entry.drop 9) } } i
    ∃ x y, exec (.loadEntries h body) s = .next (u.withPorts x y) ∧
      Answers s (u.withPorts x y) h (0x02 :: body) 0 0 [] := by
  obtain ⟨x, y, he, hans⟩ := loadOne_accepted (tb := .profile) (code := 0x03) rfl rfl (by decide) hlen i.isLt hg hh ha
  have e : s.loadEntry .profile i.val entry = State.copyProfile { s with
      profiles := s.profiles.set i { day := settingsOf entry, night := settingsOf (entry.drop 9) } } i := dif_pos i.isLt
  rw [e] at he hans
  exact ⟨x, y, he, hans⟩

/-- R159: a load of a class entry. -/
theorem loadClass_executed (i : Fin 4) {entry : List Byte} (hlen : entry.length = 5) (hg : entryGood .cls entry = true) :
    let body := [0x04, BitVec.ofNat 8 i.val, 1] ++ entry
    let u := s.loadClass i (classEntryOf entry)
    ∃ x y, exec (.loadEntries h body) s = .next (u.withPorts x y) ∧
      Answers s (u.withPorts x y) h (0x02 :: body) 0 0 [] := by
  obtain ⟨x, y, he, hans⟩ := loadOne_accepted (tb := .cls) (code := 0x04) rfl rfl (by decide) hlen i.isLt hg hh ha
  have e : s.loadEntry .cls i.val entry = s.loadClass i (classEntryOf entry) := dif_pos i.isLt
  rw [e] at he hans
  exact ⟨x, y, he, hans⟩

/-- R159: a load of the part settings. -/
theorem loadSettings_executed {entry : List Byte} (hlen : entry.length = 10) (h5 : (byteAt entry 5).toNat < 3)
    (h6 : (byteAt entry 6).toNat < 3) :
    let body := [0x06, 0, 1] ++ entry
    let u := s.loadSettings (partSettingsOf entry)
    ∃ x y, exec (.loadEntries h body) s = .next (u.withPorts x y) ∧
      Answers s (u.withPorts x y) h (0x02 :: body) 0 0 [] :=
  loadOne_accepted (tb := .settings) (code := 0x06) rfl rfl (by decide) hlen Nat.zero_lt_one (entryGood_settings h5 h6) hh ha

end
end Sys2Proof.Machine

open Sys2Proof
open Sys2Proof.Machine

/-- Settles O41: a load that passes its checks is `State.loadAll` (`LoadFits.accepted`), of one entry `State.loadEntry`
(`loadOne_accepted`), and each table says what its entry writes (`loadBerth_spec`, `loadChain_stops_spec`,
`State.copyProfile_get`, `loadClass_spec`, `loadSettings_spec`). -/
theorem loadEntriesRule : Obligations.LoadEntriesRule := by
  refine fun h s hh ha => ⟨fun first count entries hc hlen hin => loadZones hh ha hc hlen hin,
    fun tb code first count entries ht hl hz hc hlen hin hg => ?_, fun code rest hr hcode => ?_, fun b entry hlen => ?_,
    fun c entry hlen hb => ?_, fun i entry hlen hg => ?_, fun i entry hlen hg => ?_, fun entry hlen h5 h6 => ?_⟩
  · obtain ⟨x, y, he, hans⟩ := LoadFits.accepted ⟨ht, hl, hc, hlen, hin⟩ hz hh ha hg
    exact ⟨_, he, hans, State.withPorts_eq rfl x y⟩
  · exact loadReadOnly hh ha hr hcode
  · obtain ⟨t, he, hbad, hgood⟩ := loadBerth_executed hh ha b hlen
    refine ⟨t, he, hbad, fun hg => ?_⟩
    obtain ⟨x, y, rfl, hans⟩ := hgood hg
    obtain ⟨hframe, hrest⟩ := loadBerth_spec s b (berthConfigOf entry)
    exact ⟨congrArg (State.withPorts · x y) hframe, hans, hrest⟩
  · obtain ⟨x, y, he, hans⟩ := loadChain_executed hh ha c hlen hb
    refine ⟨_, he, hans, fun hw => ?_, fun h0 hen => ?_⟩
    · rw [State.loadChain_writes (hw.imp_left fun h1 => by rw [h1]; rfl)]
      rfl
    · have hoff : (byteAt entry 0 == 1) = false := by rw [h0]; rfl
      obtain ⟨hframe, hstop, hchain⟩ := loadChain_stops_spec hen (fieldAt entry 1 2) (byteAt entry 3).toNat
      rw [hoff]
      refine ⟨congrArg (State.withPorts · x y) hframe, ?_, hchain⟩
      exact hstop.congr (.refl _ _) (State.withPorts_same _ x y) rfl (fun _ _ => rfl) fun _ _ => rfl
  · obtain ⟨x, y, he, hans⟩ := loadProfile_executed hh ha i hlen hg
    have hframe := s.copyProfile_frame i { day := settingsOf entry, night := settingsOf (entry.drop 9) }
    have hget := s.copyProfile_get i { day := settingsOf entry, night := settingsOf (entry.drop 9) }
    generalize State.copyProfile _ i = u at *
    exact ⟨_, he, hans, congrArg (State.withPorts · x y) hframe, hget⟩
  · obtain ⟨x, y, he, hans⟩ := loadClass_executed hh ha i hlen hg
    obtain ⟨hframe, hkept, hchanged⟩ := loadClass_spec s i (classEntryOf entry)
    refine ⟨_, he, hans, congrArg (State.withPorts · x y) hframe, hkept, fun hne => ?_⟩
    obtain ⟨hstill, hreleased, hducked⟩ := hchanged hne
    exact ⟨hstill, fun hg a => (hreleased hg a).congr rfl rfl rfl, hducked⟩
  · obtain ⟨x, y, he, hans⟩ := loadSettings_executed hh ha hlen h5 h6
    have hfields := partSettingsOf_spec hlen h5 h6
    have hframe := s.loadSettings_frame (partSettingsOf entry)
    have hmgmt := s.loadSettings_mgmt (partSettingsOf entry)
    have hhot := s.loadSettings_overheat (partSettingsOf entry)
    have hflag := s.loadSettings_flag (partSettingsOf entry)
    have hcounts := s.loadSettings_counts (partSettingsOf entry)
    obtain ⟨hkept, hevaluated⟩ := loadSettings_regimes s (partSettingsOf entry)
    generalize s.loadSettings (partSettingsOf entry) = u at *
    generalize partSettingsOf entry = p at *
    obtain rfl : u.mgmt.settings = p := congrArg Management.settings hmgmt
    refine ⟨_, he, hans, congrArg (State.withPorts · x y) hframe, hfields, fun h0 => ?_, fun h1 => ?_, hflag, hcounts, hkept,
      hevaluated⟩
    · rw [h0] at hhot
      exact hhot ▸ overheatAfter_rises _ _
    · rw [h1] at hhot
      exact hhot ▸ overheatAfter_falls _ _
end

section
/-! PROOF. RESET BERTH and SET BERTH ACTIVE (R28, R44, R48, R154, R168): the checks that the two commands share, and what each
writes. -/

namespace Sys2Proof.Machine

/-! ### A command refused or accepted (R146, R153) -/

section
variable {s u : State} {h : Header} {code : Byte} {body : List Byte} {manage : State → Managed}

/-- R153: a command that management refuses whatever the ports hold. -/
theorem takeCommand_refuses {v : Verdict} {d : Byte} (ha : Addressed s h)
    (hm : ∀ x y, manage (s.withPorts x y) = refuse (s.withPorts x y) code v d) :
    Refuses s (s.takeCommand h (code :: body) manage) h (code :: body) (verdictCode v) d :=
  takeCommand_answers (u := s) ha (a := (refuse s code v d).2) hm rfl rfl rfl

/-- R146: a command that management accepts, with the same effect whatever the ports hold and an empty reply body. -/
theorem takeCommand_accepts (ha : Addressed s h)
    (hm : ∀ x y, manage (s.withPorts x y) = accept (u.withPorts x y) code) (hn : u.node = s.node) :
    (∃ x y, s.takeCommand h (code :: body) manage = u.withPorts x y) ∧
    Answers s (s.takeCommand h (code :: body) manage) h (code :: body) 0 0 [] := by
  obtain ⟨e, hans⟩ := takeCommand_answers (payload := code :: body) ha (a := (accept u code).2) hm rfl hn rfl
  exact ⟨⟨_, _, e⟩, hans⟩

end

/-! ### The checks of a command that names a berth (R28, R48) -/

/-- R28, R48: a command on the berth that a byte names, refused in CONFIGURATION and where no berth has that number. -/
def State.onBerth (s : State) (code num : Byte) (act : BerthIx → Managed) : Managed :=
  if s.serving = false then refuse s code .wrongMode 0
  else if h : num.toNat < 48 then act ⟨num.toNat, h⟩
  else refuse s code .badIndex num

/-- R28, R48: an effect on the record of a berth that is PRESENT, refused on any other. -/
def State.onPresent (s : State) (code num : Byte) (f : Berth → Berth) (b : BerthIx) : Managed :=
  if s.present b then accept (s.modBerth b f) code else refuse s code .absent num

section
variable {s : State} {code num : Byte}

theorem State.onBerth_configuration (h : s.mgmt.mode = .configuration) (act : BerthIx → Managed) :
    s.onBerth code num act = refuse s code .wrongMode 0 :=
  if_pos (by simp [State.serving, h])

/-- R154: in SERVICE a command on a berth is judged by the berth's number. -/
theorem State.onBerth_service (h : s.mgmt.mode = .service) (act : BerthIx → Managed) :
    s.onBerth code num act =
      if h : num.toNat < 48 then act ⟨num.toNat, h⟩ else refuse s code .badIndex num :=
  if_neg (by simp [State.serving, h])

theorem State.onBerth_badIndex (h : s.mgmt.mode = .service) (hn : 48 ≤ num.toNat) (act : BerthIx → Managed) :
    s.onBerth code num act = refuse s code .badIndex num :=
  (State.onBerth_service h act).trans (dif_neg hn.not_gt)

theorem State.onBerth_index (h : s.mgmt.mode = .service) {b : BerthIx} (hb : num.toNat = b.val) (act : BerthIx → Managed) :
    s.onBerth code num act = act b := by
  have hlt : num.toNat < 48 := hb ▸ b.isLt
  have e : (⟨num.toNat, hlt⟩ : BerthIx) = b := Fin.ext hb
  rw [State.onBerth_service h, dif_pos hlt, e]

theorem State.onPresent_absent {b : BerthIx} (h : s.berths[b].presence ≠ .present) (f : Berth → Berth) :
    s.onPresent code num f b = refuse s code .absent num :=
  if_neg (by simpa [State.present] using h)

theorem State.onPresent_present {b : BerthIx} (h : s.berths[b].presence = .present) (f : Berth → Berth) :
    s.onPresent code num f b = accept (s.modBerth b f) code :=
  if_pos (by simpa [State.present] using h)

end

/-! ### The fields of a settings set (R44, R48, R168) -/

theorem settingsFieldGood_iff (fields : List Byte) (i : Fin 7) : settingsFieldGood fields i = true ↔
    (i.val < 4 → (byteAt fields i.val).toNat ≤ 15) ∧ (i.val = 5 → fieldAt fields 5 2 ≤ 1023) ∧
      (i.val = 6 → fieldAt fields 7 2 ≤ 1023) := by
  have hi := i.isLt
  unfold settingsFieldGood
  split
  · rw [decide_eq_true_iff]
    omega
  · split
    · exact iff_of_true rfl (by omega)
    · split
      · rw [decide_eq_true_iff]
        omega
      · rw [decide_eq_true_iff]
        omega

/-- R48: no selected field lies outside its range. -/
theorem firstBadField_none {sel : Byte} {fields : List Byte} : firstBadField sel fields = none ↔
    ∀ i : Fin 7, sel.getLsbD i.val = true → settingsFieldGood fields i = true := by
  simp [firstBadField]

/-- R48: the first selected field that lies outside its range. -/
theorem firstBadField_some {sel : Byte} {fields : List Byte} {i : Fin 7} (hs : sel.getLsbD i.val = true)
    (hb : settingsFieldGood fields i = false)
    (hbefore : ∀ j < i, sel.getLsbD j.val = true → settingsFieldGood fields j = true) :
    firstBadField sel fields = some i := by
  refine List.find?_eq_some_iff_getElem.2 ⟨by simp [hs, hb], i.val, by simp, by simp, fun j hj => ?_⟩
  have hgood := hbefore ⟨j, hj.trans i.isLt⟩ hj
  simpa [← imp_iff_not_or, ← Bool.not_eq_true] using hgood

/-- A number written where a bit selects it, and in the range of its field there. -/
theorem val_ite_ofNat {n : Nat} [NeZero n] (c : Bool) {v : Nat} (o : Fin n) (h : c = true → v < n) :
    (if c then Fin.ofNat n v else o).val = if c then v else o.val := by
  cases c with
  | false => rfl
  | true => exact Nat.mod_eq_of_lt (h rfl)

/-- R44, R48: the settings after a write of selected fields that lie in their ranges. -/
theorem overlaySettings_spec {sel : Byte} {fields : List Byte}
    (good : ∀ i : Fin 7, sel.getLsbD i.val = true → settingsFieldGood fields i = true) (o : Settings) :
    let x := overlaySettings sel o (settingsOf fields)
    x.headphoneCeiling.val = (if sel.getLsbD 0 then (byteAt fields 0).toNat else o.headphoneCeiling.val) ∧
    x.speakerCeiling.val = (if sel.getLsbD 1 then (byteAt fields 1).toNat else o.speakerCeiling.val) ∧
    x.onBrightness.val = (if sel.getLsbD 2 then (byteAt fields 2).toNat else o.onBrightness.val) ∧
    x.dimBrightness.val = (if sel.getLsbD 3 then (byteAt fields 3).toNat else o.dimBrightness.val) ∧
    x.glideStep.val = (if sel.getLsbD 4 then (byteAt fields 4).toNat else o.glideStep.val) ∧
    x.idleToDim.val = (if sel.getLsbD 5 then fieldAt fields 5 2 else o.idleToDim.val) ∧
    x.idleToSleep.val = (if sel.getLsbD 6 then fieldAt fields 7 2 else o.idleToSleep.val) := by
  have level : ∀ i : Fin 7, i.val < 4 → sel.getLsbD i.val = true → (byteAt fields i.val).toNat < 16 := fun i hi hs =>
    Nat.lt_succ_of_le (((settingsFieldGood_iff fields i).1 (good i hs)).1 hi)
  have dim : sel.getLsbD 5 = true → fieldAt fields 5 2 < 1024 := fun hs =>
    Nat.lt_succ_of_le (((settingsFieldGood_iff fields 5).1 (good 5 hs)).2.1 rfl)
  have sleep : sel.getLsbD 6 = true → fieldAt fields 7 2 < 1024 := fun hs =>
    Nat.lt_succ_of_le (((settingsFieldGood_iff fields 6).1 (good 6 hs)).2.2 rfl)
  exact ⟨val_ite_ofNat _ _ (level 0 (by decide)), val_ite_ofNat _ _ (level 1 (by decide)),
    val_ite_ofNat _ _ (level 2 (by decide)), val_ite_ofNat _ _ (level 3 (by decide)),
    val_ite_ofNat _ _ fun _ => (byteAt fields 4).isLt, val_ite_ofNat _ _ dim, val_ite_ofNat _ _ sleep⟩

/-! ### The two commands, case by case (R28, R48) -/

theorem manageResetBerth_eq (num : Byte) (s : State) :
    manageResetBerth [num] s = s.onBerth 0x06 num (s.onPresent 0x06 num s.joined) := rfl

/-- R48: the record of a berth with the selected fields of its active settings written. -/
def Berth.overlaid (sel : Byte) (fields : List Byte) (r : Berth) : Berth :=
  { r with settings := overlaySettings sel r.settings (settingsOf fields) }

theorem manageSetBerthActive_eq (num sel : Byte) {fields : List Byte} (hl : fields.length = 9) (s : State) :
    manageSetBerthActive ([num, sel] ++ fields) s = s.onBerth 0x07 num fun b =>
      match firstBadField sel fields with
      | some i => refuse s 0x07 .badValue (BitVec.ofNat 8 i.val)
      | none => s.onPresent 0x07 num (Berth.overlaid sel fields) b := by
  have hlen : ([num, sel] ++ fields).length = 11 := congrArg (· + 2) hl
  unfold manageSetBerthActive withLength
  rw [if_pos hlen]
  rfl

section
variable {s : State} {num : Byte}

theorem manageResetBerth_configuration (hm : s.mgmt.mode = .configuration) :
    manageResetBerth [num] s = refuse s 0x06 .wrongMode 0 := by
  rw [manageResetBerth_eq, State.onBerth_configuration hm]

theorem manageResetBerth_badIndex (hm : s.mgmt.mode = .service) (hn : 48 ≤ num.toNat) :
    manageResetBerth [num] s = refuse s 0x06 .badIndex num := by
  rw [manageResetBerth_eq, State.onBerth_badIndex hm hn]

section
variable {b : BerthIx} (hm : s.mgmt.mode = .service) (hb : num.toNat = b.val)
include hm hb

theorem manageResetBerth_absent (hp : s.berths[b].presence ≠ .present) :
    manageResetBerth [num] s = refuse s 0x06 .absent num := by
  rw [manageResetBerth_eq, State.onBerth_index hm hb, State.onPresent_absent hp]

theorem manageResetBerth_present (hp : s.berths[b].presence = .present) :
    manageResetBerth [num] s = accept (s.modBerth b s.joined) 0x06 := by
  rw [manageResetBerth_eq, State.onBerth_index hm hb, State.onPresent_present hp]

end

variable {sel : Byte} {fields : List Byte} (hl : fields.length = 9)
include hl

theorem manageSetBerthActive_configuration (hm : s.mgmt.mode = .configuration) :
    manageSetBerthActive ([num, sel] ++ fields) s = refuse s 0x07 .wrongMode 0 := by
  rw [manageSetBerthActive_eq num sel hl, State.onBerth_configuration hm]

theorem manageSetBerthActive_badIndex (hm : s.mgmt.mode = .service) (hn : 48 ≤ num.toNat) :
    manageSetBerthActive ([num, sel] ++ fields) s = refuse s 0x07 .badIndex num := by
  rw [manageSetBerthActive_eq num sel hl, State.onBerth_badIndex hm hn]

variable {b : BerthIx} (hm : s.mgmt.mode = .service) (hb : num.toNat = b.val)
include hm hb

theorem manageSetBerthActive_badValue {i : Fin 7} (hi : firstBadField sel fields = some i) :
    manageSetBerthActive ([num, sel] ++ fields) s = refuse s 0x07 .badValue (BitVec.ofNat 8 i.val) := by
  rw [manageSetBerthActive_eq num sel hl, State.onBerth_index hm hb, hi]

theorem manageSetBerthActive_absent (hg : firstBadField sel fields = none) (hp : s.berths[b].presence ≠ .present) :
    manageSetBerthActive ([num, sel] ++ fields) s = refuse s 0x07 .absent num := by
  rw [manageSetBerthActive_eq num sel hl, State.onBerth_index hm hb, hg]
  exact State.onPresent_absent hp _

theorem manageSetBerthActive_present (hg : firstBadField sel fields = none) (hp : s.berths[b].presence = .present) :
    manageSetBerthActive ([num, sel] ++ fields) s = accept (s.modBerth b (Berth.overlaid sel fields)) 0x07 := by
  rw [manageSetBerthActive_eq num sel hl, State.onBerth_index hm hb, hg]
  exact State.onPresent_present hp _

end

/-! ### What the accepted commands write -/

/-- The berth that a command wrote, whatever the ports hold. -/
theorem State.modBerth_withPorts_get (s : State) (b : BerthIx) (f : Berth → Berth) (x : UpstreamPort) (y : ThroughPort) :
    ((s.modBerth b f).withPorts x y).berths[b] = f s.berths[b] :=
  (s.modBerth_get b b f).trans (if_pos rfl)

/-- R27, R28: what RESET BERTH makes of the part. -/
theorem resetBerth_spec (s : State) (b : BerthIx) (x : UpstreamPort) (y : ThroughPort) :
    let t := (s.modBerth b s.joined).withPorts x y
    t = { s with
      berths := s.berths.set b { s.berths[b] with
        audio := t.berths[b].audio, video := t.berths[b].video
        level := s.berths[b].config.defaultLevel
        awake := (if s.berths[b].regime = .day then .awake else .asleep)
        idle := 0, ap := 0, ad := 256, ducked := false }
      up := t.up, thru := t.thru } ∧
    t.berths[b].audio = (s.berths[b].config.defaultAudio.filter fun v =>
      decide (s.streams[v].kind = some .programAudio) && s.berths[b].config.allowed.getLsbD v.val) ∧
    t.berths[b].video = (s.berths[b].config.defaultVideo.filter fun v =>
      decide (s.streams[v].kind = some .programVideo) && s.berths[b].config.allowed.getLsbD v.val) := by
  dsimp only
  rw [State.modBerth_withPorts_get]
  exact ⟨rfl, State.filterDefault_eq _ _ _ _, State.filterDefault_eq _ _ _ _⟩

/-- R48: SET BERTH ACTIVE changes the active settings of its berth alone. -/
theorem setBerthActive_frame (s : State) (b : BerthIx) (sel : Byte) (fields : List Byte) (x : UpstreamPort)
    (y : ThroughPort) :
    let t := (s.modBerth b (Berth.overlaid sel fields)).withPorts x y
    t = { s with
      berths := s.berths.set b { s.berths[b] with settings := t.berths[b].settings }
      up := t.up, thru := t.thru } := by
  dsimp only
  rw [State.modBerth_withPorts_get]
  rfl

end Sys2Proof.Machine

open Sys2Proof
open Sys2Proof.Machine

/-- Settles O43: each command case by case (`manageResetBerth_absent` and its like, the first bad field by
`firstBadField_some`), and what it writes where it is accepted by `resetBerth_spec`, `setBerthActive_frame` and
`overlaySettings_spec`. -/
theorem berthCommands : Obligations.BerthCommands := by
  refine ⟨settingsFieldGood_iff, fun h s num hh ha => ⟨⟨s.takeCommand h [0x06, num] (manageResetBerth [num]),
    exec_free hh _, fun hm => ?_, fun hm hn => ?_, fun b hm hb => ⟨fun hp => ?_, fun hp => ?_⟩⟩,
    fun sel fields hl => ⟨s.takeCommand h (0x07 :: ([num, sel] ++ fields)) (manageSetBerthActive ([num, sel] ++ fields)),
    exec_free hh _, fun hm => ?_, fun hm hn => ?_,
    fun b hm hb => ⟨fun i hs hbad hbefore => ?_, fun good hp => ?_, fun good hp => ?_⟩⟩⟩⟩
  · exact takeCommand_refuses (v := .wrongMode) ha fun x y => manageResetBerth_configuration (s := s.withPorts x y) hm
  · exact takeCommand_refuses (v := .badIndex) ha fun x y => manageResetBerth_badIndex (s := s.withPorts x y) hm hn
  · exact takeCommand_refuses (v := .absent) ha fun x y => manageResetBerth_absent (s := s.withPorts x y) hm hb hp
  · obtain ⟨⟨x, y, e⟩, hans⟩ := takeCommand_accepts (u := s.modBerth b s.joined) ha
      (fun x y => manageResetBerth_present (s := s.withPorts x y) hm hb hp) rfl
    refine ⟨hans, ?_⟩
    rw [e]
    exact resetBerth_spec s b x y
  · exact takeCommand_refuses (v := .wrongMode) ha fun x y =>
      manageSetBerthActive_configuration (s := s.withPorts x y) hl hm
  · exact takeCommand_refuses (v := .badIndex) ha fun x y =>
      manageSetBerthActive_badIndex (s := s.withPorts x y) hl hm hn
  · exact takeCommand_refuses (v := .badValue) ha fun x y =>
      manageSetBerthActive_badValue (s := s.withPorts x y) hl hm hb (firstBadField_some hs hbad hbefore)
  · exact takeCommand_refuses (v := .absent) ha fun x y =>
      manageSetBerthActive_absent (s := s.withPorts x y) hl hm hb (firstBadField_none.2 good) hp
  · obtain ⟨⟨x, y, e⟩, hans⟩ := takeCommand_accepts (u := s.modBerth b (Berth.overlaid sel fields)) ha
      (fun x y => manageSetBerthActive_present (s := s.withPorts x y) hl hm hb (firstBadField_none.2 good) hp) rfl
    refine ⟨hans, ?_⟩
    rw [e]
    refine ⟨setBerthActive_frame s b sel fields x y, ?_⟩
    rw [State.modBerth_withPorts_get]
    exact overlaySettings_spec good s.berths[b].settings
end

section
/-! PROOF. The law of the ring pool (R54, R55): what each operation of ch. 4 keeps of it (R56 to R58, R61, R62, R64,
R66, R67), and the start of a cycle, which brings every block one cycle nearer and presents those that are due. -/

namespace Sys2Proof.Machine

/-! ### The law at a cycle number -/

/-- R54, R55: the law of the ring pool with every block held due `k` to 15 cycles after cycle `n`. -/
structure Pool (s : State) (n : Word16) (k : Int) : Prop where
  owns : ∀ v : StreamIx, s.streams[v].kind = some .programAudio ↔ s.streams[v].ring.isSome = true
  presents : ∀ v : StreamIx, s.streams[v].kind = some .programAudio ↔ s.streams[v].presented ≠ .absent
  apart : ∀ (v w : StreamIx) (r : RingIx), s.streams[v].ring = some r → s.streams[w].ring = some r → v = w
  filed : ∀ (r : RingIx) (i : Fin 16) (d : Word16) (blk : ProgramBlock), s.rings[r][i] = some (d, blk) →
    i.val = d.toNat % 16 ∧ k ≤ cycleDistance d n ∧ cycleDistance d n ≤ 15
  free : ∀ r : RingIx, (∀ v : StreamIx, s.streams[v].ring ≠ some r) → ∀ i : Fin 16, s.rings[r][i] = none

theorem ringLaw_iff (s : State) : RingLaw s ↔ Pool s s.timer.cycle 1 :=
  ⟨fun ⟨h1, h2, h3, h4, h5⟩ => ⟨h1, h2, h3, h4, h5⟩, fun ⟨h1, h2, h3, h4, h5⟩ => ⟨h1, h2, h3, h4, h5⟩⟩

/-- What writes no stream, no ring and no cycle number keeps the law. -/
theorem RingLaw.of_same {s t : State} {fs : List StateField} (h : RingLaw s) (hs : Same fs s t)
    (hf : ∀ f ∈ [StateField.streams, .rings, .timer], f ∉ fs) : RingLaw t := by
  obtain ⟨h1, h2, h3, h4, h5⟩ := h
  unfold RingLaw
  rw [hs.streams (hf _ (by decide)), hs.rings (hf _ (by decide)), hs.timer (hf _ (by decide))]
  exact ⟨h1, h2, h3, h4, h5⟩

/-- R54: an entry with the same kind and ring, that presents something where the other does. -/
structure StreamEntry.Alike (e e' : StreamEntry) : Prop where
  kind : e'.kind = e.kind
  ring : e'.ring = e.ring
  presented : e'.presented ≠ .absent ↔ e.presented ≠ .absent

theorem StreamEntry.Alike.refl (e : StreamEntry) : StreamEntry.Alike e e := ⟨rfl, rfl, .rfl⟩

/-- R55: a ring without an owner holds no block, so a block held names an owner. -/
theorem Pool.owner {s : State} {n : Word16} {k : Int} (h : Pool s n k) {r : RingIx} {i : Fin 16}
    {x : Word16 × ProgramBlock} (hx : s.rings[r][i] = some x) : ∃ v : StreamIx, s.streams[v].ring = some r := by
  by_contra hne
  have hnone := h.free r (fun v hv => hne ⟨v, hv⟩) i
  rw [hx] at hnone
  cases hnone

/-- The law where the streams stay alike, for other rings and another cycle number. -/
theorem Pool.refiled {s t : State} {n m : Word16} {k l : Int} (h : Pool s n k)
    (hv : ∀ v : StreamIx, StreamEntry.Alike s.streams[v] t.streams[v])
    (hfiled : ∀ (r : RingIx) (i : Fin 16) (d : Word16) (blk : ProgramBlock), t.rings[r][i] = some (d, blk) →
      i.val = d.toNat % 16 ∧ l ≤ cycleDistance d m ∧ cycleDistance d m ≤ 15)
    (hfree : ∀ r : RingIx, (∀ v : StreamIx, s.streams[v].ring ≠ some r) → ∀ i : Fin 16, t.rings[r][i] = none) :
    Pool t m l := by
  refine ⟨fun v => ?_, fun v => ?_, fun v w r hr hw => ?_, hfiled, fun r hr => hfree r fun v => ?_⟩
  · rw [(hv v).kind, (hv v).ring]
    exact h.owns v
  · rw [(hv v).kind, (hv v).presented]
    exact h.presents v
  · rw [(hv v).ring] at hr
    rw [(hv w).ring] at hw
    exact h.apart v w r hr hw
  · rw [← (hv v).ring]
    exact hr v

theorem Pool.congr {s t : State} {n : Word16} {k : Int} (h : Pool s n k)
    (hv : ∀ v : StreamIx, StreamEntry.Alike s.streams[v] t.streams[v]) (hr : t.rings = s.rings) : Pool t n k :=
  h.refiled hv (by rw [hr]; exact h.filed) (by rw [hr]; exact h.free)

/-- R66, R67: emptied rings are filed at every cycle number. -/
theorem Pool.emptied {s t : State} {n : Word16} {k : Int} (h : Pool s n k) (hv : t.streams = s.streams)
    (hr : t.rings = Vector.replicate 16 Ring.empty) (m : Word16) (l : Int) : Pool t m l := by
  have hnone : ∀ (r : RingIx) (i : Fin 16), t.rings[r][i] = none := fun r i => by
    rw [hr, get_replicate_fin]
    exact get_replicate_fin _ i
  refine h.refiled (fun v => hv ▸ .refl _) (fun r i d blk hx => ?_) fun r _ => hnone r
  rw [hnone] at hx
  cases hx

/-! ### The start of a cycle (R64) -/

theorem cycleDistance_eq_zero {d n : Word16} (h : cycleDistance d n = 0) : d = n := by
  have hz : d - n = 0 := BitVec.toInt_inj.1 h
  simpa [BitVec.sub_eq_iff_eq_add] using hz

/-- R6: at the next cycle a block due 1 to 15 cycles after this one is due one cycle less after it. -/
theorem cycleDistance_succ {d n : Word16} (h1 : 1 ≤ cycleDistance d n) (h2 : cycleDistance d n ≤ 15) :
    cycleDistance d (n + 1) = cycleDistance d n - 1 := by
  have hd := cycleDistance_spec d n
  have he := cycleDistance_spec d (n + 1)
  rw [BitVec.toNat_add] at he
  have h1' : (1 : Word16).toNat = 1 := rfl
  omega

/-- R64: at its start the next cycle finds every block due then or later. -/
theorem Pool.next {s : State} {n : Word16} (h : Pool s n 1) : Pool s (n + 1) 0 :=
  h.refiled (fun _ => .refl _) (fun r i d blk hx => by
    obtain ⟨hi, h1, h2⟩ := h.filed r i d blk hx
    rw [cycleDistance_succ h1 h2]
    exact ⟨hi, by omega, by omega⟩) h.free

theorem ringBlock_some {g : Ring} {n : Word16} {blk : ProgramBlock} :
    ringBlock g n = some blk ↔ g[ringSlot n] = some (n, blk) := by
  unfold ringBlock
  cases hx : g[ringSlot n] with
  | none => simp
  | some x =>
    obtain ⟨d, y⟩ := x
    by_cases hd : d = n <;> simp [hd]

theorem State.audioRing_some {s : State} {v : StreamIx} {r : RingIx} :
    s.audioRing v = some r ↔ s.streams[v].kind = some .programAudio ∧ s.streams[v].ring = some r := by
  unfold State.audioRing
  split
  · next h => exact ⟨fun hr => ⟨h, hr⟩, fun hr => hr.2⟩
  · next h => exact ⟨nofun, fun hr => absurd hr.1 h⟩

theorem State.ringPlays_iff (s : State) (r : RingIx) :
    s.ringPlays r = true ↔ ∃ v : StreamIx, s.audioRing v = some r := by
  simp [State.ringPlays]

theorem State.presentRings_stream (s : State) (n : Word16) (v : StreamIx) :
    (s.presentRings n).streams[v] = s.presentedEntry n v := get_ofFn_fin _ v

theorem State.presentRings_ring (s : State) (n : Word16) (r : RingIx) :
    (s.presentRings n).rings[r] = s.playedRing n r := get_ofFn_fin _ r

/-- R64: an open program-audio stream presents a block or silence; no other stream presents anew. -/
theorem State.presentedEntry_alike {s : State} {n m : Word16} {k : Int} (h : Pool s n k) (v : StreamIx) :
    StreamEntry.Alike s.streams[v] (s.presentedEntry m v) := by
  unfold State.presentedEntry
  dsimp only
  split
  · exact .refl _
  · next r hr =>
    have hopen : s.streams[v].presented ≠ .absent := (h.presents v).1 (State.audioRing_some.1 hr).1
    split
    · exact ⟨rfl, rfl, iff_of_true nofun hopen⟩
    · exact ⟨rfl, rfl, iff_of_true nofun hopen⟩

/-- R64: a played ring is the ring without the block that is due. -/
theorem State.playedRing_slot {s : State} {n : Word16} {r : RingIx} (h : s.ringPlays r = true) (i : Fin 16) :
    (s.playedRing n r)[i] =
      if i = ringSlot n ∧ (ringBlock s.rings[r] n).isSome = true then none else s.rings[r][i] := by
  unfold State.playedRing
  by_cases hb : (ringBlock s.rings[r] n).isSome = true
  · rw [if_pos ⟨h, hb⟩, get_set_fin]
    exact if_congr (and_iff_left hb).symm rfl rfl
  · rw [if_neg fun k => hb k.2, if_neg fun k => hb k.2]

theorem State.playedRing_unplayed {s : State} {n : Word16} {r : RingIx} (h : s.ringPlays r ≠ true) :
    s.playedRing n r = s.rings[r] := if_neg fun k => h k.1

/-- R64: what cycle `n` presents leaves its slot, so that every block left is due later. -/
theorem Pool.presentRings {s : State} {n : Word16} (h : Pool s n 0) : Pool (s.presentRings n) n 1 := by
  refine h.refiled (fun v => ?_) (fun r i d blk hx => ?_) fun r hr i => ?_
  · rw [State.presentRings_stream]
    exact State.presentedEntry_alike h v
  · rw [State.presentRings_ring] at hx
    by_cases hp : s.ringPlays r = true
    · rw [State.playedRing_slot hp] at hx
      split at hx
      · cases hx
      · next hne =>
        obtain ⟨hi, h0, h15⟩ := h.filed r i d blk hx
        refine ⟨hi, ?_, h15⟩
        by_contra hlt
        obtain rfl : d = n := cycleDistance_eq_zero (by omega)
        have hslot : i = ringSlot d := Fin.ext hi
        subst hslot
        exact hne ⟨rfl, Option.isSome_iff_exists.2 ⟨blk, ringBlock_some.2 hx⟩⟩
    · rw [State.playedRing_unplayed hp] at hx
      obtain ⟨v, hv⟩ := h.owner hx
      refine absurd ((s.ringPlays_iff r).2 ⟨v, State.audioRing_some.2 ⟨(h.owns v).2 ?_, hv⟩⟩) hp
      rw [hv]
      rfl
  · have hp : s.ringPlays r ≠ true := fun hp => by
      obtain ⟨v, hv⟩ := (s.ringPlays_iff r).1 hp
      exact hr v (State.audioRing_some.1 hv).2
    rw [State.presentRings_ring, State.playedRing_unplayed hp]
    exact h.free r hr i

/-- R64, R66: the rings as a cycle start finds them; a number that is not the successor empties them. -/
theorem RingLaw.opened {s : State} (h : RingLaw s) (t : State) (n : Word16) (place : Fin 5) :
    Pool (s.opened t n place) n 0 := by
  have hp := (ringLaw_iff s).1 h
  by_cases hn : n = s.timer.cycle + 1
  · refine Pool.congr (s := s) ?_ (fun _ => .refl _) (if_pos hn)
    rw [hn]
    exact hp.next
  · exact hp.emptied (t := s.opened t n place) rfl (if_neg hn) n 0

/-- R64: the blocks of a cycle start present the rings; channels and mixer leave them. -/
theorem Pool.blocks {u : State} {n : Word16} (h : Pool u n 0) : Pool (u.blocks n) n 1 := by
  have hs : Same [.berths, .channels, .mgmt, .slots, .chains] (u.presentRings n) (u.blocks n) :=
    ((State.channelsCycle_same _).widen (by decide)).trans ((State.mixAndRelease_same _).widen (by decide))
  refine h.presentRings.congr (fun v => ?_) (hs.rings (by decide))
  rw [hs.streams (by decide)]
  exact .refl _

/-- R64, R66: a cycle start keeps the law. -/
theorem RingLaw.runCycle {s : State} (h : RingLaw s) {n : Word16} {broken : Bool}
    (hb : broken = true ↔ n ≠ s.timer.cycle + 1) (lines : LineSample) : RingLaw (s.runCycle n broken lines) := by
  have hs : Precedes s s := ⟨.refl _ _, ⟨rfl, rfl, rfl, rfl⟩, ⟨rfl, rfl, rfl, rfl⟩, ⟨rfl, rfl, rfl⟩, ⟨rfl, rfl, rfl⟩⟩
  obtain ⟨place, hblocks⟩ := hs.cycleBlocks n lines hb
  unfold CycleBlocks at hblocks
  obtain ⟨-, -, -, -, -, -, -, -, v, hv, hstreams, hrings, -⟩ := hblocks
  obtain rfl := hv.eq_blocks
  refine (ringLaw_iff _).2 ?_
  rw [State.runCycle_timer]
  refine (h.opened _ n place).blocks.congr (fun v => ?_) hrings
  rw [hstreams]
  exact .refl _

/-! ### Streams opened and closed (R56, R57) -/

theorem State.ringOwned_iff (s : State) (r : RingIx) :
    s.ringOwned r = true ↔ ∃ v : StreamIx, s.streams[v].ring = some r := by
  simp [State.ringOwned]

theorem State.freeRing_none (s : State) :
    s.freeRing = none ↔ ∀ r : RingIx, ∃ v : StreamIx, s.streams[v].ring = some r := by
  simp [State.freeRing, State.ringOwned_iff]

/-- R56: the free ring with the lowest number. -/
theorem State.freeRing_some {s : State} {r : RingIx} : s.freeRing = some r ↔
    (∀ v : StreamIx, s.streams[v].ring ≠ some r) ∧ ∀ r' < r, ∃ v : StreamIx, s.streams[v].ring = some r' := by
  rw [State.freeRing, List.find?_eq_some_iff_getElem]
  constructor
  · rintro ⟨hr, i, hi, rfl, hbefore⟩
    refine ⟨fun v hv => ?_, fun r' hr' => (s.ringOwned_iff r').1 ?_⟩
    · rw [(s.ringOwned_iff _).2 ⟨v, hv⟩] at hr
      cases hr
    · simpa using hbefore r'.val (by simpa [Fin.lt_def] using hr')
  · rintro ⟨hr, hbefore⟩
    refine ⟨?_, r.val, by simp, by simp, fun j hj => ?_⟩
    · simpa [← Bool.not_eq_true, State.ringOwned_iff] using hr
    · simpa [State.ringOwned_iff] using hbefore ⟨j, hj.trans r.isLt⟩ hj

/-- R54, R55: the law where the entry of one stream changes, whose ring is then its own, and whose old ring is empty. -/
theorem Pool.modStream {s : State} {n : Word16} {k : Int} (h : Pool s n k) {v : StreamIx}
    {f : StreamEntry → StreamEntry}
    (howns : (f s.streams[v]).kind = some .programAudio ↔ (f s.streams[v]).ring.isSome = true)
    (hpresents : (f s.streams[v]).kind = some .programAudio ↔ (f s.streams[v]).presented ≠ .absent)
    (hown : ∀ r, (f s.streams[v]).ring = some r → ∀ w : StreamIx, s.streams[w].ring ≠ some r)
    (hold : ∀ r, s.streams[v].ring = some r → ∀ i : Fin 16, s.rings[r][i] = none) : Pool (s.modStream v f) n k := by
  refine ⟨fun w => ?_, fun w => ?_, fun w x r hw hx => ?_, h.filed, fun r hr => ?_⟩
  · rw [State.modStream_get]
    split
    · exact howns
    · exact h.owns w
  · rw [State.modStream_get]
    split
    · exact hpresents
    · exact h.presents w
  · rw [State.modStream_get] at hw hx
    split at hw
    · next ew =>
      split at hx
      · next ex => rw [ew, ex]
      · exact absurd hx (hown r hw x)
    · split at hx
      · exact absurd hw (hown r hx w)
      · exact h.apart w x r hw hx
  · by_cases hv : s.streams[v].ring = some r
    · exact hold r hv
    · refine h.free r fun w hw => ?_
      refine hr w ?_
      have hne : w ≠ v := by
        rintro rfl
        exact hv hw
      rw [State.modStream_get, if_neg hne]
      exact hw

/-- R56: OPEN STREAM opens CLOSED streams alone, as PROGRAM AUDIO with a free ring. -/
theorem RingLaw.manageOpenStream {s : State} (h : RingLaw s) (body : List Byte) :
    RingLaw (Machine.manageOpenStream body s).1 := by
  have hp := (ringLaw_iff s).1 h
  unfold Machine.manageOpenStream withLength
  split
  · split
    · exact h
    · exact h
    · next v k _ _ =>
      split
      · exact h
      · next hv =>
        have hring : s.streams[v].ring = none := by
          have hn := hp.owns v
          rw [show s.streams[v].kind = none by simpa using hv] at hn
          simpa using hn
        have hold : ∀ r, s.streams[v].ring = some r → ∀ i : Fin 16, s.rings[r][i] = none := fun r hr => by
          rw [hring] at hr
          cases hr
        cases k with
        | programVideo => exact (ringLaw_iff _).2 (hp.modStream (v := v)
            (f := fun e => { e with kind := some _, ring := none, presented := .absent })
            (iff_of_false (by simp) (by simp)) (iff_of_false (by simp) (by simp)) (by simp) hold)
        | captionVideo => exact (ringLaw_iff _).2 (hp.modStream (v := v)
            (f := fun e => { e with kind := some _, ring := none, presented := .absent })
            (iff_of_false (by simp) (by simp)) (iff_of_false (by simp) (by simp)) (by simp) hold)
        | programAudio =>
          dsimp only
          split
          · exact h
          · next r hr =>
            refine (ringLaw_iff _).2 (hp.modStream (v := v)
              (f := fun e => { e with kind := some .programAudio, ring := some r, presented := .silence })
              (iff_of_true rfl rfl) (iff_of_true rfl (by simp)) (fun r' hr' => ?_) hold)
            cases hr'
            exact (State.freeRing_some.1 hr).1
  · exact h

/-- R57: the state of a stream's ring emptied, before its entry is CLOSED. -/
def State.ringCleared (s : State) (v : StreamIx) : State :=
  match s.streams[v].ring with
  | some r => { s with rings := s.rings.set r Ring.empty }
  | none => s

theorem State.closeStream_eq (s : State) (v : StreamIx) : s.closeStream v =
    ((s.ringCleared v).modStream v fun e => { e with kind := none, ring := none, presented := .absent }).deselect v :=
  rfl

/-- R57: the ring of a stream that closes is emptied, and no other. -/
theorem State.ringCleared_slot (s : State) (v : StreamIx) (r : RingIx) (i : Fin 16) :
    (s.ringCleared v).rings[r][i] = if s.streams[v].ring = some r then none else s.rings[r][i] := by
  unfold State.ringCleared
  split
  · next r' hr =>
    show (s.rings.set r' Ring.empty)[r][i] = _
    rw [get_set_fin, hr]
    by_cases e : r = r'
    · rw [if_pos e, if_pos (by rw [e])]
      exact get_replicate_fin _ i
    · rw [if_neg e, if_neg fun k => e (Option.some.inj k).symm]
  · next hr => rw [if_neg (by rw [hr]; exact nofun)]

theorem State.ringCleared_same (s : State) (v : StreamIx) : Same [.rings] s (s.ringCleared v) := by
  unfold State.ringCleared
  split
  · exact same_set_rings s _
  · exact .refl _ s

theorem State.closeStream_rings (s : State) (v : StreamIx) : (s.closeStream v).rings = (s.ringCleared v).rings := by
  rw [State.closeStream_eq, (State.deselect_same _ v).rings (by decide), (State.modStream_same _ v _).rings (by decide)]

/-- R57: a stream that closes leaves its ring empty and free. -/
theorem RingLaw.closeStream {s : State} (h : RingLaw s) (v : StreamIx) : RingLaw (s.closeStream v) := by
  have hp := (ringLaw_iff s).1 h
  have hs := s.ringCleared_same v
  have hcleared : Pool (s.ringCleared v) s.timer.cycle 1 := by
    refine hp.refiled (fun w => hs.streams (by decide) ▸ .refl _) (fun r i d blk hx => ?_) fun r hr i => ?_
    · rw [State.ringCleared_slot] at hx
      split at hx
      · cases hx
      · exact hp.filed r i d blk hx
    · rw [State.ringCleared_slot, if_neg (hr v)]
      exact hp.free r hr i
  have hclosed := hcleared.modStream (v := v)
    (f := fun e => { e with kind := none, ring := none, presented := .absent })
    (iff_of_false nofun nofun) (iff_of_false nofun fun k => k rfl) nofun fun r hr i => by
      rw [hs.streams (by decide)] at hr
      rw [State.ringCleared_slot, if_pos hr]
  refine (ringLaw_iff _).2 ?_
  rw [(State.closeStream_same s v).timer (by decide)]
  exact hclosed.congr (fun _ => .refl _) rfl

/-! ### Blocks that arrive (R61, R62) -/

theorem State.countStream_alike (s : State) (v w : StreamIx) (f : StreamCounts → StreamCounts) :
    StreamEntry.Alike s.streams[w] (s.countStream v f).streams[w] := by
  rw [State.countStream_get]
  split
  · next e => exact e ▸ ⟨rfl, rfl, .rfl⟩
  · exact .refl _

theorem RingLaw.countStream {s : State} (h : RingLaw s) (v : StreamIx) (f : StreamCounts → StreamCounts) :
    RingLaw (s.countStream v f) :=
  (ringLaw_iff _).2 (((ringLaw_iff s).1 h).congr (s.countStream_alike v · f) rfl)

/-- R61, R62: the state with a block filed in ring `r`. -/
def State.fileBlock (s : State) (r : RingIx) (d : Word16) (blk : ProgramBlock) : State :=
  { s with rings := s.rings.set r (s.rings[r].set (ringSlot d) (some (d, blk))) }

theorem State.fileBlock_slot (s : State) (r r' : RingIx) (d : Word16) (blk : ProgramBlock) (i : Fin 16) :
    (s.fileBlock r d blk).rings[r'][i] = if r' = r ∧ i = ringSlot d then some (d, blk) else s.rings[r'][i] := by
  show (s.rings.set r _)[r'][i] = _
  rw [get_set_fin]
  by_cases hr : r' = r
  · subst hr
    rw [if_pos rfl, get_set_fin]
    exact if_congr (and_iff_right rfl).symm rfl rfl
  · rw [if_neg hr, if_neg fun k => hr k.1]

/-- R61, R62: what becomes of one block, by its distance and its slot. -/
theorem State.takeProgramBlock_cases (s : State) (v : StreamIx) (r : RingIx) (d : Word16) (blk : ProgramBlock) :
    (cycleDistance d s.timer.cycle ≤ 0 ∧
      s.takeProgramBlock v r d blk = s.countStream v fun k => { k with late := bump k.late }) ∨
    (16 ≤ cycleDistance d s.timer.cycle ∧
      s.takeProgramBlock v r d blk = s.countStream v fun k => { k with early := bump k.early }) ∨
    ((1 ≤ cycleDistance d s.timer.cycle ∧ cycleDistance d s.timer.cycle ≤ 15) ∧
      ((s.rings[r][ringSlot d].isSome = true ∧
        s.takeProgramBlock v r d blk = s.countStream v fun k => { k with duplicate := bump k.duplicate }) ∨
      (s.rings[r][ringSlot d] = none ∧
        s.takeProgramBlock v r d blk =
          (s.fileBlock r d blk).countStream v fun k => { k with accepted := bump k.accepted }))) := by
  unfold State.takeProgramBlock
  dsimp only
  split
  · next h => exact .inl ⟨h, rfl⟩
  · next h0 =>
    split
    · next h => exact .inr (.inl ⟨h, rfl⟩)
    · next h16 =>
      refine .inr (.inr ⟨by omega, ?_⟩)
      cases hx : s.rings[r][ringSlot d] with
      | some x => exact .inl ⟨rfl, rfl⟩
      | none => exact .inr ⟨rfl, rfl⟩

theorem State.takeProgramBlock_alike (s : State) (v w : StreamIx) (r : RingIx) (d : Word16) (blk : ProgramBlock) :
    StreamEntry.Alike s.streams[w] (s.takeProgramBlock v r d blk).streams[w] := by
  obtain ⟨-, e⟩ | ⟨-, e⟩ | ⟨-, ⟨-, e⟩ | ⟨-, e⟩⟩ := s.takeProgramBlock_cases v r d blk <;> rw [e]
  · exact s.countStream_alike v w _
  · exact s.countStream_alike v w _
  · exact s.countStream_alike v w _
  · exact (s.fileBlock r d blk).countStream_alike v w _

/-- R61, R62: a block is filed in the ring of an open stream, 1 to 15 cycles ahead. -/
theorem RingLaw.takeProgramBlock {s : State} (h : RingLaw s) {v : StreamIx} {r : RingIx}
    (hr : s.streams[v].ring = some r) (d : Word16) (blk : ProgramBlock) : RingLaw (s.takeProgramBlock v r d blk) := by
  obtain ⟨-, e⟩ | ⟨-, e⟩ | ⟨hd, ⟨-, e⟩ | ⟨-, e⟩⟩ := s.takeProgramBlock_cases v r d blk <;> rw [e]
  · exact h.countStream v _
  · exact h.countStream v _
  · exact h.countStream v _
  · have hp := (ringLaw_iff s).1 h
    refine RingLaw.countStream ((ringLaw_iff (s.fileBlock r d blk)).2 (hp.refiled (fun _ => .refl _)
      (fun r' i d' blk' hx => ?_) fun r' hr' i => ?_)) v _
    · rw [State.fileBlock_slot] at hx
      split at hx
      · next k =>
        cases hx
        exact ⟨congrArg Fin.val k.2, hd⟩
      · exact hp.filed r' i d' blk' hx
    · rw [State.fileBlock_slot, if_neg fun k : r' = r ∧ _ => hr' v (k.1 ▸ hr)]
      exact hp.free r' hr' i

/-- R61: the blocks of a parcel, one behind the other. -/
theorem RingLaw.takeProgramBlocks {s : State} (h : RingLaw s) {v : StreamIx} {r : RingIx}
    (hr : s.streams[v].ring = some r) (payload : List Byte) (due : Word16) (k : Nat) :
    RingLaw (s.takeProgramBlocks v r payload due k) := by
  unfold State.takeProgramBlocks
  induction List.range k generalizing s with
  | nil => exact h
  | cons j js ih =>
    refine ih (h.takeProgramBlock hr _ _) ?_
    rw [(s.takeProgramBlock_alike v v r _ _).ring]
    exact hr

theorem RingLaw.takeProgramAudio {s : State} (h : RingLaw s) (payload : List Byte) :
    RingLaw (s.takeProgramAudio payload) := by
  unfold State.takeProgramAudio
  split
  · exact h.of_same (State.countU_same s _) (by decide)
  · next v r ht =>
    dsimp only
    split
    · have hr : s.streams[v].ring = some r := by
        obtain ⟨w, -, hw⟩ := Option.bind_eq_some_iff.1 ht
        obtain ⟨r', hr', e⟩ := Option.map_eq_some_iff.1 hw
        cases e
        exact (State.audioRing_some.1 hr').2
      exact h.takeProgramBlocks hr payload _ _
    · exact h.of_same (State.countU_same s _) (by decide)

end Sys2Proof.Machine
end

section
/-! PROOF. The law of CONFIGURATION (R67, R92, R111): which operations leave the mode, and with it IDLE channels, empty
rings and empty video queues. In SERVICE the law asks nothing. -/

namespace Sys2Proof.Machine

/-! ### What is silent in CONFIGURATION -/

/-- R92: every channel is IDLE. -/
def State.Unvoiced (s : State) : Prop := ∀ a : ChannelIx, s.channels[a].state = .idle

/-- R67: every slot of every ring is empty. -/
def State.Drained (s : State) : Prop := ∀ (r : RingIx) (i : Fin 16), s.rings[r][i] = none

/-- R111: a chain with both video queues empty. -/
def Chain.Bare (ch : Chain) : Prop := ch.priority = [] ∧ ch.program = []

theorem State.Unvoiced.congr {s t : State} (h : t.channels = s.channels) (hs : s.Unvoiced) : t.Unvoiced := by
  unfold State.Unvoiced
  rwa [h]

theorem State.Drained.congr {s t : State} (h : t.rings = s.rings) (hs : s.Drained) : t.Drained := by
  unfold State.Drained
  rwa [h]

theorem configurationLaw_iff (s : State) : ConfigurationLaw s ↔
    (s.mgmt.mode = .configuration → s.Unvoiced ∧ s.Drained ∧ ∀ c : ChainIx, s.chains[c].Bare) := .rfl

/-- In SERVICE the law asks nothing. -/
theorem configurationLaw_of_service {s : State} (h : s.mgmt.mode = .service) : ConfigurationLaw s := fun hc => by
  rw [h] at hc
  cases hc

/-- An operation that changes no mode and keeps the law. -/
structure Hushed (s t : State) : Prop where
  mode : t.mgmt.mode = s.mgmt.mode
  law : ConfigurationLaw s → ConfigurationLaw t

namespace Hushed

theorem refl (s : State) : Hushed s s := ⟨rfl, id⟩

theorem trans {s t u : State} (h : Hushed s t) (k : Hushed t u) : Hushed s u := ⟨k.mode.trans h.mode, k.law ∘ h.law⟩

theorem ite {s t u : State} {c : Prop} [Decidable c] (h : Hushed s t) (k : Hushed s u) :
    Hushed s (if c then t else u) := by
  split
  · exact h
  · exact k

theorem foldl {ι : Type} {f : State → ι → State} (h : ∀ s i, Hushed s (f s i)) (l : List ι) (s : State) :
    Hushed s (l.foldl f s) := by
  induction l generalizing s with
  | nil => exact refl s
  | cons i is ih => exact (h s i).trans (ih _)

/-- What keeps each of the three empty keeps the law. -/
theorem of_parts {s t : State} (hm : t.mgmt.mode = s.mgmt.mode) (hv : s.Unvoiced → t.Unvoiced)
    (hd : s.Drained → t.Drained) (hb : ∀ c : ChainIx, s.chains[c].Bare → t.chains[c].Bare) : Hushed s t :=
  ⟨hm, fun h hc => by
    obtain ⟨h1, h2, h3⟩ := (configurationLaw_iff s).1 h (hm ▸ hc)
    exact ⟨hv h1, hd h2, fun c => hb c (h3 c)⟩⟩

/-- What keeps the mode may do anything in SERVICE. -/
theorem of_service {s t : State} (hm : t.mgmt.mode = s.mgmt.mode) (h : s.mgmt.mode = .service) : Hushed s t :=
  ⟨hm, fun _ => configurationLaw_of_service (hm.trans h)⟩

/-- What writes no channel, ring or chain, and keeps the mode. -/
theorem of_mode {fs : List StateField} {s t : State} (h : Same fs s t)
    (hf : ∀ f ∈ [StateField.channels, .rings, .chains], f ∉ fs) (hm : t.mgmt.mode = s.mgmt.mode) : Hushed s t := by
  refine of_parts hm (.congr (h.channels (hf _ (by decide)))) (.congr (h.rings (hf _ (by decide)))) fun c h1 => ?_
  rwa [h.chains (hf _ (by decide))]

/-- What writes no channel, ring or chain, and nothing of management. -/
theorem of_same {fs : List StateField} {s t : State} (h : Same fs s t)
    (hf : ∀ f ∈ [StateField.mgmt, .channels, .rings, .chains], f ∉ fs) : Hushed s t :=
  of_mode h (fun f hm => hf f (List.mem_cons_of_mem _ hm)) (by rw [h.mgmt (hf _ (by decide))])

/-- What writes channels, and leaves IDLE channels alone. -/
theorem of_channels {fs : List StateField} {s t : State} (h : Same fs s t)
    (hf : ∀ f ∈ [StateField.mgmt, .rings, .chains], f ∉ fs)
    (hi : ∀ a : ChannelIx, s.channels[a].state = .idle → t.channels[a].state = .idle) : Hushed s t := by
  refine of_parts (by rw [h.mgmt (hf _ (by decide))]) (fun h1 a => hi a (h1 a))
    (.congr (h.rings (hf _ (by decide)))) fun c h1 => ?_
  rwa [h.chains (hf _ (by decide))]

/-- What writes chains, and leaves empty queues empty. -/
theorem of_chains {fs : List StateField} {s t : State} (h : Same fs s t)
    (hf : ∀ f ∈ [StateField.mgmt, .channels, .rings], f ∉ fs)
    (hb : ∀ c : ChainIx, s.chains[c].Bare → t.chains[c].Bare) : Hushed s t :=
  of_parts (by rw [h.mgmt (hf _ (by decide))]) (.congr (h.channels (hf _ (by decide))))
    (.congr (h.rings (hf _ (by decide)))) hb

/-- What writes rings, and empties slots alone. -/
theorem of_rings {fs : List StateField} {s t : State} (h : Same fs s t)
    (hf : ∀ f ∈ [StateField.mgmt, .channels, .chains], f ∉ fs)
    (hd : s.Drained → t.Drained) : Hushed s t := by
  refine of_parts (by rw [h.mgmt (hf _ (by decide))]) (.congr (h.channels (hf _ (by decide)))) hd fun c h1 => ?_
  rwa [h.chains (hf _ (by decide))]

theorem modChain (s : State) (c : ChainIx) {f : Chain → Chain} (h : ∀ ch : Chain, ch.Bare → (f ch).Bare) :
    Hushed s (s.modChain c f) :=
  of_chains (State.modChain_same s c f) (by decide) fun c' hc => by
    rw [State.modChain_get]
    split
    · next e => exact h _ (e ▸ hc)
    · exact hc

theorem countChain (s : State) (c : ChainIx) (f : ChainCounts → ChainCounts) : Hushed s (s.countChain c f) :=
  modChain s c fun _ h => h

theorem modBerth (s : State) (b : BerthIx) (f : Berth → Berth) : Hushed s (s.modBerth b f) :=
  of_same (State.modBerth_same s b f) (by decide)

theorem latchPresence (s : State) (c : ChainIx) : Hushed s (s.latchPresence c) :=
  of_mode (State.latchPresence_same s c) (by decide) rfl

/-! ### Channels (ch. 5) -/

theorem evaluateReleases (s : State) : Hushed s s.evaluateReleases :=
  of_channels (State.evaluateReleases_same s) (by decide) fun a ha => by
    rw [(evaluateReleases_spec s).2 a (by rw [ha]; exact nofun)]
    exact ha

theorem settleGoverning (s : State) : Hushed s s.settleGoverning :=
  of_channels (State.settleGoverning_same s) (by decide) fun a ha => by
    rw [(settleGoverning_spec s).2 a (by rw [ha]; exact nofun)]
    exact ha

/-! ### Queries (ch. 8) -/

/-- R137: starting queries writes no video queue. -/
theorem startLoop_bare (present : PosIx → Bool) (c : ChainIx) (qs : List Query) {ch : Chain} (h : ch.Bare) :
    (startLoop present c qs ch).Bare := by
  induction qs generalizing ch with
  | nil => exact h
  | cons q qs ih =>
    unfold startLoop
    split
    · exact h
    · split
      · exact h
      · exact ih h

theorem startQueries (s : State) (c : ChainIx) : Hushed s (s.startQueries c) :=
  modChain s c fun _ h => startLoop_bare _ _ _ h

theorem endQuery (s : State) (c : ChainIx) (o : QueryOutcome) (x : Option AnswerBytes) (f : ChainCounts → ChainCounts) :
    Hushed s (s.endQuery c o x f) := by
  unfold State.endQuery
  split
  · exact refl s
  · refine (modChain s c ?_).trans (startQueries _ c)
    exact fun _ h => h

theorem queryTargetAbsent (s : State) (c : ChainIx) (p : PosIx) : Hushed s (s.queryTargetAbsent c p) := by
  unfold State.queryTargetAbsent
  split
  · exact refl s
  · exact ite (endQuery s c _ _ _) (refl s)

theorem takeToken (s : State) (c : ChainIx) (p : PosIx) (j : Bool) (k : Byte) (x : AnswerBytes) :
    Hushed s (s.takeToken c p j k x) := by
  refine ite (refl s) ?_
  split
  · exact ite (endQuery s c _ _ _) (countChain s c _)
  · exact countChain s c _

theorem countWindow (s : State) (c : ChainIx) (j : Bool) : Hushed s (s.countWindow c j) := by
  unfold State.countWindow
  split
  · exact refl s
  · next q _ =>
    have h : Hushed s (s.modChain c fun ch => { ch with inFlight := some { q with waited := q.waited + 1 } }) :=
      modChain s c fun _ h => h
    exact ite (ite (h.trans (endQuery _ c _ _ _)) h) (refl s)

theorem discardQueries (s : State) (c : ChainIx) : Hushed s (s.discardQueries c) := modChain s c fun _ h => h

/-! ### Berths, returns and windows (ch. 2, 8) -/

theorem becomePresent (s : State) (b : BerthIx) : Hushed s (s.becomePresent b) := by
  unfold State.becomePresent
  exact (((modBerth s b _).trans (latchPresence _ _)).trans (settleGoverning _)).trans (countChain _ _ _)

theorem enterAbsent (s : State) (b : BerthIx) : Hushed s (s.enterAbsent b) := by
  unfold State.enterAbsent
  split
  · exact refl s
  · exact modBerth s b _
  · exact (((((modBerth s b _).trans (of_same (same_set_calls _ _) (by decide))).trans (settleGoverning _)).trans
      (queryTargetAbsent _ _ _)).trans (latchPresence _ _)).trans (countChain _ _ _)

theorem advanceValid (s : State) (b : BerthIx) : Hushed s (s.advanceValid b) := by
  unfold State.advanceValid
  split
  · exact modBerth s b _
  · exact ite (modBerth s b _) (becomePresent s b)
  · exact modBerth s b _

theorem advanceMissing (s : State) (b : BerthIx) : Hushed s (s.advanceMissing b) := by
  unfold State.advanceMissing
  split
  · exact refl s
  · exact enterAbsent s b
  · exact ite (modBerth s b _) (enterAbsent s b)

theorem recordStatus (s : State) (b : BerthIx) (x y : Bool) : Hushed s (s.recordStatus b x y) := by
  unfold State.recordStatus
  exact (modBerth s b _).trans (countChain _ _ _)

theorem placeCall (s : State) (b : BerthIx) : Hushed s (s.placeCall b) :=
  ite (refl s) ((of_same (same_set_calls s _) (by decide)).trans (countChain _ _ _))

theorem takeKey (s : State) (b : BerthIx) (w : Bool) (code : Byte) : Hushed s (s.takeKey b w code) := by
  refine ite (refl s) ?_
  split
  · next k _ =>
    have h : Hushed s ((s.modBerth b (s.keyed k)).countChain (chainOf b)
        fun n => { n with keysApplied := bump n.keysApplied }) := (modBerth s b _).trans (countChain _ _ _)
    exact ite (h.trans (placeCall _ b)) h
  · exact countChain s _ _

theorem takeReturn (s : State) (b : BerthIx) (j : Bool) (r : ReturnData) : Hushed s (s.takeReturn b j r) :=
  ((((advanceValid s b).trans (ite (refl _) (recordStatus _ b _ _))).trans (takeKey _ b _ _)).trans
    (takeKey _ b _ _)).trans (takeToken _ _ _ _ _ _)

theorem takeSlot (s : State) (c : ChainIx) (j : Bool) (p : PosIx) (x : Option SlotBytes) :
    Hushed s (s.takeSlot c j p x) := by
  unfold State.takeSlot
  split
  · exact (countChain s c _).trans (advanceMissing _ _)
  · exact (countChain s c _).trans (advanceMissing _ _)
  · exact (countChain s c _).trans (takeReturn _ _ _ _)

theorem returnWindow (s : State) (c : ChainIx) (x : ReturnSlots) : Hushed s (s.returnWindow c x) := by
  unfold State.returnWindow
  split
  · exact refl s
  · refine Hushed.trans ?_ ((foldl (fun s p => takeSlot s c _ p x[p]) _ _).trans (countWindow _ c _))
    exact modChain s c fun _ h => h

theorem closeSuperseded (s : State) (c : ChainIx) : Hushed s (s.closeSuperseded c) :=
  foldl (fun s _ => returnWindow s c _) _ s

theorem closeWith (s : State) (r : WindowReturn) : Hushed s (s.closeWith r) := ite (returnWindow s _ _) (refl s)

theorem closeAllSuperseded (s : State) (rs : List WindowReturn) : Hushed s (s.closeAllSuperseded rs) :=
  (foldl closeWith rs s).trans (foldl closeSuperseded _ _)

theorem frameDone (s : State) (r : WindowReturn) : Hushed s (s.frameDone r) := by
  unfold State.frameDone
  split
  · exact refl s
  · exact modChain s _ fun _ h => h
  · refine (Hushed.trans ?_ (closeWith _ r)).trans (closeSuperseded _ _)
    exact modChain s _ fun _ h => h

/-! ### Video queues and chains (ch. 7, 8) -/

theorem flush (s : State) (c : ChainIx) : Hushed s (s.flush c) :=
  of_chains (State.flush_same s c) (by decide) fun c' hc => by
    rw [State.flush_get]
    split
    · exact ⟨rfl, rfl⟩
    · exact hc

/-- R118 to R120: empty queues assemble to empty queues. -/
theorem assemble_bare {ch : Chain} (n : Word16) (h : ch.Bare) : (ch.afterAssembly (ch.assemble n)).Bare := by
  obtain ⟨h1, h2⟩ := h
  unfold Chain.afterAssembly Chain.Bare Chain.assemble
  rw [h1, h2]
  dsimp only
  split <;> exact ⟨rfl, rfl⟩

/-- R130: a frame sent writes no video queue. -/
theorem sendFrame_bare {ch : Chain} (f : ChainFrame) (h : ch.Bare) : (ch.placeQuery.sendFrame f).Bare := by
  unfold Chain.sendFrame
  split <;> exact h

theorem chainCycle (s : State) (n : Word16) (c : ChainIx) : Hushed s (s.chainCycle n c) := by
  refine ite (refl s) (ite (countChain s c _) (Hushed.trans ?_ (modChain _ c fun _ => sendFrame_bare _)))
  refine of_chains (State.assembleVideo_same s c n) (by decide) fun c' hc => ?_
  unfold State.assembleVideo
  dsimp only
  rw [State.modChain_get]
  split
  · next e =>
    subst e
    exact assemble_bare n hc
  · exact hc

theorem chainsCycle (s : State) (n : Word16) : Hushed s (s.chainsCycle n) := foldl (fun s c => chainCycle s n c) _ s

theorem chainStops (s : State) (c : ChainIx) : Hushed s (s.chainStops c) := by
  have habandon : Hushed s (s.modChain c Chain.abandon) := modChain s c fun _ h => h
  exact ((habandon.trans (discardQueries _ c)).trans (foldl (fun s _ => enterAbsent s _) _ _)).trans (flush _ c)

theorem setChainLine (s : State) (c : ChainIx) (k : Bool) : Hushed s (s.setChainLine c k) :=
  of_same (State.setChainLine_same s c k) (by decide)

theorem linkDown (s : State) (c : ChainIx) : Hushed s (s.linkDown c) := by
  refine (Hushed.trans ?_ (chainStops _ c)).trans (countChain _ c _)
  exact modChain s c fun _ h => h

theorem chainLineLost (s : State) (c : ChainIx) : Hushed s (s.chainLineLost c) :=
  ite ((setChainLine s c false).trans (linkDown _ c)) (setChainLine s c false)

theorem chainLineBack (s : State) (c : ChainIx) : Hushed s (s.chainLineBack c) := by
  refine (setChainLine s c true).trans ?_
  exact modChain _ c fun _ h => h

/-! ### The start of a cycle (R1) -/

theorem presentRings (s : State) (n : Word16) : Hushed s (s.presentRings n) := by
  refine of_rings (State.presentRings_same s n) (by decide) fun h r i => ?_
  rw [State.presentRings_ring]
  by_cases hp : s.ringPlays r = true
  · rw [State.playedRing_slot hp, h r i, ite_self]
  · rw [State.playedRing_unplayed hp]
    exact h r i

/-- R91: in CONFIGURATION the channels do nothing. -/
theorem channelsCycle (s : State) : Hushed s s.channelsCycle := by
  by_cases h : s.serving = true
  · exact of_service (Calm.channelsCycle s).mode (s.serving_iff.1 h)
  · unfold State.channelsCycle
    rw [if_neg h]
    exact refl s

theorem idleTick (s : State) : Hushed s s.idleTick := of_same (State.idleTick_same s) (by decide)

theorem quietHandOver (s : State) (qa qb : Bool) : Hushed s (s.quietHandOver qa qb) :=
  of_same (State.quietHandOver_same s qa qb) (by decide)

theorem mix (s : State) : Hushed s s.mix := by
  have hs := State.mix_same s
  refine of_parts (by rw [hs.mgmt (by decide)]) (.congr (hs.channels (by decide))) (.congr (hs.rings (by decide)))
    fun c h => ?_
  unfold State.mix
  split
  · rw [get_ofFn_fin]
    exact h
  · exact h

theorem mixAndRelease (s : State) : Hushed s s.mixAndRelease := (mix s).trans (ite (evaluateReleases _) (refl _))

theorem tickAndChannels (s : State) (t f : Bool) : Hushed s (s.tickAndChannels t f) :=
  ite (ite ((idleTick s).trans (channelsCycle _)) ((channelsCycle s).trans (idleTick _))) (channelsCycle s)

theorem cycleWork (s : State) (n : Word16) (t qa qb : Bool) (p : Fin 5) (f : Bool) :
    Hushed s (s.cycleWork n t qa qb p f) := by
  have quiet : ∀ (s : State) (c : Prop) [Decidable c], Hushed s (if c then s.quietHandOver qa qb else s) :=
    fun s _ _ => ite (quietHandOver s qa qb) (refl s)
  have h1 := (quiet s (p = 0)).trans ((presentRings _ n).trans (tickAndChannels _ (t && p != 2) f))
  have h2 := (h1.trans (quiet _ (p = 1))).trans (mixAndRelease _)
  have h3 := (h2.trans (quiet _ (p = 2 ∨ p = 3))).trans (ite (c := (t && p == 2) = true) (idleTick _) (refl _))
  exact (h3.trans (chainsCycle _ n)).trans (quiet _ (p = 4))

/-- R66, R67: emptied rings are empty. -/
theorem emptyRings_drained (s : State) : s.emptyRings.Drained := fun r i => by
  show (Vector.replicate 16 Ring.empty)[r][i] = none
  rw [get_replicate_fin]
  exact get_replicate_fin _ i

theorem runCycle (s : State) (n : Word16) (k : Bool) (l : LineSample) : Hushed s (s.runCycle n k l) := by
  obtain ⟨hs, -, hrings, -, -⟩ := State.cycleOpened_fields s n k l
  have hopen : Hushed s (s.cycleOpened n k l) := by
    refine of_rings hs (by decide) fun h => ?_
    cases k with
    | true => exact .congr (s := s.emptyRings) hrings (emptyRings_drained s)
    | false => exact h.congr hrings
  rw [State.runCycle_eq]
  exact hopen.trans (cycleWork _ _ _ _ _ _ _)

theorem startCycle (s : State) (n : Word16) (k : Bool) (l : LineSample) : Hushed s (s.startCycle n k l) :=
  (runCycle s n k l).trans (closeAllSuperseded _ _)

theorem countPart (s : State) (f : PartCounts → PartCounts) : Hushed s (s.countPart f) :=
  of_same (State.countPart_same s f) (by decide)

theorem missMark (s : State) : Hushed s s.missMark := of_same (State.missMark_same s) (by decide)

theorem selfStart (s : State) (l : LineSample) : Hushed s (s.selfStart l) :=
  ((missMark s).trans (countPart _ _)).trans (startCycle _ _ _ _)

theorem takeMark (s : State) (n : Word16) (l : LineSample) : Hushed s (s.takeMark n l) :=
  ite (((of_same (State.modTimer_same s _) (by decide)).trans (countPart _ _)).trans (startCycle _ _ _ _))
    (countPart _ _)

theorem countU (s : State) (f : UpstreamCounts → UpstreamCounts) : Hushed s (s.countU f) :=
  of_same (State.countU_same s f) (by decide)

theorem received (s : State) (p : Parcel) : Hushed s (s.receivedU.queueThrough p) :=
  of_same (State.receivedThrough_same s p) (by decide)

theorem takeMarkParcel (s : State) (h : Header) (l : LineSample) (p : List Byte) : Hushed s (s.takeMarkParcel h l p) :=
  (received s _).trans (ite (takeMark _ _ l) (countU _ _))

/-! ### Time (R4, R14) -/

theorem backboneFails (s : State) : Hushed s s.backboneFails := of_same (State.backboneFails_same s) (by decide)

theorem takeDue (s : State) : Hushed s s.takeDue := by
  have drawn : Hushed s s.drawn := of_same (same_set_draws s _) (by decide)
  obtain ⟨-, -, e⟩ | ⟨-, -, e⟩ | ⟨-, -, e⟩ | ⟨-, -, e | e⟩ := s.takeDue_cases <;> rw [e]
  · exact refl s
  · exact backboneFails s
  · exact selfStart s _
  · exact (drawn.trans (backboneFails _)).trans (selfStart _ _)
  · exact (drawn.trans (selfStart _ _)).trans (backboneFails _)

theorem passTime (s : State) (d : Nat) : Hushed s (s.passTime d) := by
  have advance : ∀ (s : State) (d : Nat), Hushed s (s.advanceTime d) := fun s d =>
    of_same (State.advanceTime_same s d) (by decide)
  induction s, d using State.passTime_induction with
  | stop s d hd =>
    rw [passTime_free hd]
    exact advance s d
  | due s d hd ih =>
    rw [State.passTime_due hd]
    exact ((advance s _).trans (takeDue _)).trans ih

theorem signalGone (s : State) : Hushed s s.signalGone := by
  unfold State.signalGone
  split
  · exact refl s
  · exact refl s
  · exact (passTime s _).trans (backboneFails _)

/-! ### Loads and counts (R159, R164) -/

theorem loadClass (s : State) (i : Fin 4) (e : ClassEntry) : Hushed s (s.loadClass i e) := by
  have h1 : Hushed s { s with classes := s.classes.set i e } := of_same (same_set_classes s _) (by decide)
  exact ite h1 ((h1.trans (of_same (State.mapBerths_same _ _) (by decide))).trans (evaluateReleases _))

theorem loadChain (s : State) (c : ChainIx) (e : Bool) (x y : Nat) : Hushed s (s.loadChain c e x y) := by
  have h1 : Hushed s (s.modChain c fun ch =>
      { ch with enabled := e, budget := clampBudget x, ratio := clampRatio y }) := modChain s c fun _ h => h
  exact ite (h1.trans (chainStops _ c)) h1

/-- R164: counts cleared leave an IDLE channel IDLE. -/
theorem countChannel (s : State) (a : ChannelIx) (f : ChannelCounts → ChannelCounts) :
    Hushed s (s.countChannel a f) := by
  refine of_channels (State.countChannel_same s a f) (by decide) fun a' h => ?_
  unfold State.countChannel
  rw [State.modChannel_get]
  split
  · next e => exact e ▸ h
  · exact h

/-- R157: settings loaded leave the mode. -/
theorem loadSettings (s : State) (p : PartSettings) : Hushed s (s.loadSettings p) :=
  of_mode (State.loadSettings_same s p) (by decide) (by rw [State.loadSettings_mgmt])

/-- R57: a stream that closes empties a ring. -/
theorem closeStream (s : State) (v : StreamIx) : Hushed s (s.closeStream v) := by
  refine of_rings (State.closeStream_same s v) (by decide) fun h r i => ?_
  rw [State.closeStream_rings, State.ringCleared_slot, h r i, ite_self]

end Hushed

/-! ### The modes (R154 to R156) -/

/-- R92: a channel is IDLE after its entry, and stays so when the other enters IDLE. -/
theorem State.idleChannel_idle (s : State) (a a' : ChannelIx) (h : a' = a ∨ s.channels[a'].state = .idle) :
    (s.idleChannel a).channels[a'].state = .idle := by
  unfold State.idleChannel
  split
  · by_cases e : a' = a
    · rw [e, (enterIdle_spec s a).2.2]
      rfl
    · have hi := h.resolve_left e
      have other : ∀ a a' : ChannelIx, a' ≠ a → a' = otherChannel a := by decide
      obtain rfl := other a a' e
      rw [(enterIdle_spec s a).2.1 (by rw [hi]; exact nofun)]
      exact hi
  · next hb =>
    obtain rfl | hi := h
    · simpa [Channel.busy] using hb
    · exact hi

/-- R123: a chain is bare after a row of flushes that flushes it. -/
theorem flushes_bare (cs : List ChainIx) (s : State) (c : ChainIx) (h : c ∈ cs ∨ s.chains[c].Bare) :
    (cs.foldl State.flush s).chains[c].Bare := by
  induction cs generalizing s with
  | nil => exact h.resolve_left List.not_mem_nil
  | cons x xs ih =>
    refine ih _ ?_
    rw [State.flush_get, List.mem_cons] at *
    by_cases e : c = x
    · exact .inr (by rw [if_pos e]; exact ⟨rfl, rfl⟩)
    · rw [if_neg e]
      exact h.imp_left fun h => h.resolve_left e

/-- R156: ENTER CONFIGURATION silences the part. -/
theorem State.intoConfiguration_law (s : State) : ConfigurationLaw s.intoConfiguration := by
  refine (configurationLaw_iff _).2 fun _ => ?_
  unfold State.intoConfiguration
  generalize (s.modMgmt fun m => { m with mode := .configuration }) = s1
  have hs := State.flushAll_same ((s1.idleChannel 0).idleChannel 1).emptyRings
  refine ⟨.congr (s := (s1.idleChannel 0).idleChannel 1) (hs.channels (by decide)) fun a => ?_,
    (Hushed.emptyRings_drained _).congr (hs.rings (by decide)),
    fun c => flushes_bare _ _ c (.inl (List.mem_finRange c))⟩
  match a with
  | 0 => exact State.idleChannel_idle _ 1 0 (.inr (State.idleChannel_idle s1 0 0 (.inl rfl)))
  | 1 => exact State.idleChannel_idle _ 1 1 (.inl rfl)

end Sys2Proof.Machine
end

section
/-! PROOF. Every step keeps the law of the ring pool and that of CONFIGURATION (R54, R55, R67, R92, R111). -/

namespace Sys2Proof.Machine

/-! ### The law of the ring pool, along cycle starts and time (R1, R4, R14) -/

/-- What writes no stream and no ring, and leaves the cycle number, keeps the law. -/
theorem RingLaw.of_cycle {s t : State} {fs : List StateField} (h : RingLaw s) (hs : Same fs s t)
    (hf : ∀ f ∈ [StateField.streams, .rings], f ∉ fs) (hn : t.timer.cycle = s.timer.cycle) : RingLaw t := by
  refine (ringLaw_iff t).2 ?_
  rw [hn]
  refine ((ringLaw_iff s).1 h).congr (fun v => ?_) (hs.rings (hf _ (by decide)))
  rw [hs.streams (hf _ (by decide))]
  exact .refl _

namespace RingLaw

theorem startCycle {s : State} (h : RingLaw s) {n : Word16} {broken : Bool}
    (hb : broken = true ↔ n ≠ s.timer.cycle + 1) (lines : LineSample) : RingLaw (s.startCycle n broken lines) :=
  (h.runCycle hb lines).of_same (State.closeAllSuperseded_same _ _) (by decide)

theorem missMark {s : State} (h : RingLaw s) : RingLaw s.missMark :=
  h.of_cycle (State.missMark_same s) (by decide) (by rw [State.missMark_timer])

theorem countPart {s : State} (h : RingLaw s) (f : PartCounts → PartCounts) : RingLaw (s.countPart f) :=
  h.of_same (State.countPart_same s f) (by decide)

theorem selfStart {s : State} (h : RingLaw s) (lines : LineSample) : RingLaw (s.selfStart lines) := by
  have hm : RingLaw s.startMissed := h.missMark.countPart _
  have hn : s.successor = s.startMissed.timer.cycle + 1 := by
    show s.timer.cycle + 1 = s.missMark.timer.cycle + 1
    rw [State.missMark_timer]
  rw [State.selfStart_eq]
  exact hm.startCycle (by simp [hn]) lines

theorem takeMark {s : State} (h : RingLaw s) (n : Word16) (lines : LineSample) : RingLaw (s.takeMark n lines) := by
  have hm : RingLaw (s.modTimer fun t => { t with missedRun := 0, firstMark := false }) :=
    h.of_cycle (State.modTimer_same s _) (by decide) rfl
  unfold State.takeMark
  split
  · exact (hm.countPart _).startCycle (n := n) (bne_iff_ne (a := n) (b := s.successor)) lines
  · exact h.countPart _

theorem backboneFails {s : State} (h : RingLaw s) : RingLaw s.backboneFails :=
  h.of_same (State.backboneFails_same s) (by decide)

theorem takeDue {s : State} (h : RingLaw s) : RingLaw s.takeDue := by
  have drawn : RingLaw s.drawn := h.of_same (same_set_draws s _) (by decide)
  obtain ⟨-, -, e⟩ | ⟨-, -, e⟩ | ⟨-, -, e⟩ | ⟨-, -, e | e⟩ := s.takeDue_cases <;> rw [e]
  · exact h
  · exact h.backboneFails
  · exact h.selfStart _
  · exact drawn.backboneFails.selfStart _
  · exact (drawn.selfStart _).backboneFails

theorem passTime {s : State} (h : RingLaw s) (d : Nat) : RingLaw (s.passTime d) := by
  have advance : ∀ {s : State} (d : Nat), RingLaw s → RingLaw (s.advanceTime d) := fun d h =>
    h.of_cycle (State.advanceTime_same _ d) (by decide) rfl
  induction s, d using State.passTime_induction with
  | stop s d hd =>
    rw [passTime_free hd]
    exact advance d h
  | due s d hd ih =>
    rw [State.passTime_due hd]
    exact ih (advance _ h).takeDue

theorem received {s : State} (h : RingLaw s) (p : Parcel) : RingLaw (s.receivedU.queueThrough p) :=
  h.of_same (State.receivedThrough_same s p) (by decide)

theorem countU {s : State} (h : RingLaw s) (f : UpstreamCounts → UpstreamCounts) : RingLaw (s.countU f) :=
  h.of_same (State.countU_same s f) (by decide)

theorem takeMarkParcel {s : State} (h : RingLaw s) (hd : Header) (lines : LineSample) (payload : List Byte) :
    RingLaw (s.takeMarkParcel hd lines payload) := by
  unfold State.takeMarkParcel
  dsimp only
  split
  · exact (h.received _).takeMark _ lines
  · exact (h.received _).countU _

theorem signalGone {s : State} (h : RingLaw s) : RingLaw s.signalGone := by
  unfold State.signalGone
  split
  · exact h
  · exact h
  · exact (h.passTime _).backboneFails

/-! ### Streams and counts -/

theorem takeVideoSegment {s : State} (h : RingLaw s) (payload : List Byte) : RingLaw (s.takeVideoSegment payload) := by
  have hplace : ∀ f : ChainIx → Chain → Chain, RingLaw (s.mapChains f) := fun f =>
    h.of_same (State.mapChains_same s f) (by decide)
  unfold State.takeVideoSegment
  split
  · exact h.countU _
  · split
    · exact h.countU _
    · dsimp only
      split
      · exact h.countStream _ _
      · split
        · exact h.countStream _ _
        · unfold State.replicate
          dsimp only
          split
          · exact h.countPart _
          · split
            · exact (hplace _).countPart _
            · split
              · exact (hplace _).countPart _
              · exact ((hplace _).of_same (same_set_store _ _) (by decide)).countStream _ _

/-- R67: ENTER CONFIGURATION empties every ring. -/
theorem intoConfiguration {s : State} (h : RingLaw s) : RingLaw s.intoConfiguration := by
  have hs := State.intoConfiguration_same s
  refine (ringLaw_iff _).2 (((ringLaw_iff s).1 h).emptied (hs.streams (by decide)) ?_ _ 1)
  unfold State.intoConfiguration
  rw [(State.flushAll_same _).rings (by decide)]
  rfl

end RingLaw

/-! ### Both laws -/

/-- From `s` to `t` the law of the ring pool is kept, and that of CONFIGURATION. -/
structure PlayKept (s t : State) : Prop where
  rings : RingLaw s → RingLaw t
  quiet : ConfigurationLaw s → ConfigurationLaw t

namespace PlayKept

theorem refl (s : State) : PlayKept s s := ⟨id, id⟩

theorem trans {s t u : State} (h : PlayKept s t) (k : PlayKept t u) : PlayKept s u :=
  ⟨k.rings ∘ h.rings, k.quiet ∘ h.quiet⟩

theorem ite {s t u : State} {c : Prop} [Decidable c] (h : c → PlayKept s t) (k : PlayKept s u) :
    PlayKept s (if c then t else u) := by
  split
  · next hc => exact h hc
  · exact k

theorem foldl {ι : Type} {f : State → ι → State} (h : ∀ s i, PlayKept s (f s i)) (l : List ι) (s : State) :
    PlayKept s (l.foldl f s) := by
  induction l generalizing s with
  | nil => exact refl s
  | cons i is ih => exact (h s i).trans (ih _)

/-- What writes no stream, ring or cycle number. -/
theorem of_hushed {fs : List StateField} {s t : State} (h : Same fs s t)
    (hf : ∀ f ∈ [StateField.streams, .rings, .timer], f ∉ fs) (hq : Hushed s t) : PlayKept s t :=
  ⟨fun hr => hr.of_same h hf, hq.law⟩

/-- What writes nothing that the laws read. -/
theorem of_same {fs : List StateField} {s t : State} (h : Same fs s t)
    (hf : ∀ f ∈ [StateField.streams, .rings, .timer, .mgmt, .channels, .chains], f ∉ fs) : PlayKept s t :=
  of_hushed h (fun f hm => hf f (by simp at hm ⊢; tauto)) (.of_same h fun f hm => hf f (by simp at hm ⊢; tauto))

/-! ### Resets (R19) -/

theorem ringLaw_afterReset (pins : Pins) : RingLaw (State.afterReset pins) := by
  have hv : ∀ v : StreamIx, (State.afterReset pins).streams[v] = StreamEntry.initial := get_replicate_fin _
  have hr : ∀ (r : RingIx) (i : Fin 16), (State.afterReset pins).rings[r][i] = none := fun r i => by
    rw [show (State.afterReset pins).rings[r] = Ring.empty from get_replicate_fin _ r]
    exact get_replicate_fin _ i
  refine ⟨fun v => ?_, fun v => ?_, fun v w r h _ => ?_, fun r i d blk h => ?_, fun r _ => hr r⟩
  · rw [hv]
    exact iff_of_false nofun nofun
  · rw [hv]
    exact iff_of_false nofun fun h => h rfl
  · rw [hv] at h
    cases h
  · rw [hr] at h
    cases h

theorem configurationLaw_afterReset (pins : Pins) : ConfigurationLaw (State.afterReset pins) := by
  refine (configurationLaw_iff _).2 fun _ => ⟨fun a => ?_, fun r i => ?_, fun c => ?_⟩
  · rw [show (State.afterReset pins).channels[a] = Channel.initial from get_replicate_fin _ a]
    rfl
  · rw [show (State.afterReset pins).rings[r] = Ring.empty from get_replicate_fin _ r]
    exact get_replicate_fin _ i
  · rw [show (State.afterReset pins).chains[c] = Chain.initial pins.chainLines[c] from get_ofFn_fin _ c]
    exact ⟨rfl, rfl⟩

theorem of_reset {s t : State} (pins : Pins) (h : Same [.held, .draws, .pending] (State.afterReset pins) t) :
    PlayKept s t :=
  ⟨fun _ => (ringLaw_afterReset pins).of_same h (by decide),
    fun _ => (Hushed.of_same h (by decide)).law (configurationLaw_afterReset pins)⟩

theorem resetNow (s : State) : PlayKept s s.resetNow := of_reset s.pins (by simp [Same, State.resetNow])

/-! ### Commands (R56 to R58, R154 to R166) -/

/-- R159: an entry written. -/
theorem loadEntry (s : State) (t : Table) (i : Nat) (bs : List Byte) : PlayKept s (s.loadEntry t i bs) := by
  unfold State.loadEntry
  cases t with
  | berth =>
    dsimp only
    split
    · exact of_same (State.loadBerth_same s _ _) (by decide)
    · exact refl s
  | zone =>
    dsimp only
    split
    · exact of_same (same_set_zones s _) (by decide)
    · exact refl s
  | profile =>
    dsimp only
    split
    · exact (of_same (same_set_profiles s _) (by decide)).trans (of_same (State.copyProfile_same _ _) (by decide))
    · exact refl s
  | cls =>
    dsimp only
    split
    · exact of_hushed (State.loadClass_same s _ _) (by decide) (.loadClass s _ _)
    · exact refl s
  | chain =>
    dsimp only
    split
    · exact of_hushed (State.loadChain_same s _ _ _ _) (by decide) (.loadChain s _ _ _ _)
    · exact refl s
  | settings => exact of_hushed (State.loadSettings_same s _) (by decide) (.loadSettings s _)
  | stream => exact refl s
  | channel => exact refl s

/-- R164: a group of counts cleared. -/
theorem clearGroup (s : State) (g : Group) : PlayKept s (s.clearGroup g) := by
  unfold State.clearGroup
  cases g with
  | portU => exact of_same (State.countU_same s _) (by decide)
  | portT => exact of_same (State.countT_same s _) (by decide)
  | stream v => exact ⟨fun h => h.countStream v _, (Hushed.of_same (State.countStream_same s v _) (by decide)).law⟩
  | channel a => exact of_hushed (State.countChannel_same s a _) (by decide) (.countChannel s a _)
  | chain c => exact of_hushed (State.countChain_same s c _) (by decide) (.countChain s c _)
  | part => exact of_same (State.countPart_same s _) (by decide)

/-- R56: OPEN STREAM writes streams alone, and opens CLOSED ones. -/
theorem manageOpenStream (body : List Byte) (s : State) : PlayKept s (Machine.manageOpenStream body s).1 := by
  refine ⟨fun h => h.manageOpenStream body, ?_⟩
  have h := (manageOpenStream_yields body s).1
  generalize (Machine.manageOpenStream body s).1 = t at h
  cases h with
  | stays => exact id
  | opensVideo v k => exact (Hushed.of_same (State.openVideo_same s v k) (by decide)).law
  | opensAudio v r => exact (Hushed.of_same (State.openAudio_same s v r) (by decide)).law

/-- Management keeps the laws. -/
theorem manageCommand (c : Command) (body : List Byte) (s : State) : PlayKept s (Machine.manageCommand c body s).1 := by
  have restarted : ∀ (c : ChainIx) (f : Chain → Chain), (∀ ch : Chain, ch.Bare → (f ch).Bare) →
      PlayKept s ((s.modChain c f).startQueries c) := fun c f hf =>
    of_hushed ((State.modChain_same s c f).trans (State.startQueries_same _ c)) (by decide)
      ((Hushed.modChain s c hf).trans (.startQueries _ c))
  by_cases ho : c = .openStream
  · subst ho
    exact manageOpenStream body s
  have h := (manageCommand_yields c body s).1
  generalize (Machine.manageCommand c body s).1 = t at h
  cases h with
  | stays => exact refl s
  | loads => exact foldl (fun s j => loadEntry s _ _ _) _ s
  | opensVideo => exact absurd rfl ho
  | opensAudio => exact absurd rfl ho
  | closes v => exact ⟨fun h => h.closeStream v, (Hushed.closeStream s v).law⟩
  | joins b => exact of_same (State.modBerth_same s b _) (by decide)
  | overlays b => exact of_same (State.modBerth_same s b _) (by decide)
  | clearsGroup g => exact clearGroup s g
  | clearsAttention x =>
    exact of_hushed (State.clearAttention_same s x) (by decide)
      (.of_mode (State.clearAttention_same s x) (by decide) rfl)
  | acknowledges x => exact of_same (State.acknowledge_same s x) (by decide)
  | clearsFaults => exact of_same (State.clearFaults_same s) (by decide)
  | entersService =>
    exact ⟨fun h => h.of_same (State.intoService_same s) (by decide), fun _ => configurationLaw_of_service rfl⟩
  | entersConfiguration => exact ⟨fun h => h.intoConfiguration, fun _ => s.intoConfiguration_law⟩
  | asks c q => exact restarted c _ fun _ h => h
  | fetches c => exact restarted c _ fun _ h => h
  | aborts c => exact of_hushed (State.discardQueries_same s c) (by decide) (.discardQueries s c)

/-- A COMMAND parcel keeps the laws where management does. -/
theorem of_taken {s t : State} {m : State → Managed} (h : Taken s m t) (hm : ∀ s, PlayKept s (m s).1) :
    PlayKept s t := by
  have answered : ∀ {s1 t : State}, Same [.up, .thru] s s1 → Same [.up] (m s1).1 t → PlayKept s t := fun h1 ht =>
    ((of_same h1 (by decide)).trans (hm _)).trans (of_same ht (by decide))
  cases h with
  | forwarded _ h => exact of_same h (by decide)
  | executed s1 _ h _ ht => exact answered h ht
  | resetPending s1 _ h _ ht =>
    exact (answered h ht).trans
      (of_hushed (State.modMgmt_same _ _) (by decide) (.of_mode (State.modMgmt_same _ _) (by decide) rfl))
  | reset s1 _ h _ ht => exact (answered h ht).trans (resetNow _)

theorem managePayload (payload : List Byte) (s : State) : PlayKept s (Machine.managePayload payload s).1 := by
  unfold Machine.managePayload
  split
  · exact refl s
  · split
    · exact refl s
    · exact manageCommand _ _ s

theorem command (s : State) (h : Header) (c : Command) (body : List Byte) : PlayKept s (s.command h c body) :=
  of_taken (takeCommand_taken _ _ _ _) (manageCommand c body)

/-- A media parcel reaches its block in SERVICE alone, where the law of CONFIGURATION asks nothing (R60). -/
theorem media {s : State} {p : Parcel} {take : State → State} (hr : ∀ s, RingLaw s → RingLaw (take s))
    (hm : ∀ s, (take s).mgmt.mode = s.mgmt.mode) : PlayKept s (s.takeMedia p take) := by
  refine ⟨fun h => ?_, ?_⟩
  · unfold State.takeMedia
    dsimp only
    split
    · exact hr _ (h.received p)
    · exact (h.received p).countU _
  · cases hs : s.mgmt.mode with
    | service =>
      rw [takeMedia_service p take hs]
      exact fun _ => configurationLaw_of_service ((hm _).trans ((Hushed.received s p).mode.trans hs))
    | configuration =>
      rw [takeMedia_configuration p take hs]
      exact ((Hushed.received s p).trans (.countU _ _)).law

/-- A media parcel whose block writes no stream, ring or cycle number, and keeps the mode. -/
theorem media_same {s : State} {p : Parcel} {take : State → State} {fs : List StateField} (h : ∀ s, Same fs s (take s))
    (hf : ∀ f ∈ [StateField.streams, .rings, .timer], f ∉ fs) (hm : ∀ s, (take s).mgmt.mode = s.mgmt.mode) :
    PlayKept s (s.takeMedia p take) :=
  media (fun s hr => hr.of_same (h s) hf) hm

theorem upstreamSent (s : State) : PlayKept s s.upstreamSent :=
  ite (fun _ => resetNow s) (of_same (State.modUp_same s _) (by decide))

/-! ### The other rows -/

theorem secondsTick (s : State) (v : Int) : PlayKept s (s.secondsTick v) := by
  have hs : Same [.timer, .pins] s (s.wrapped v) := by simp [Same, State.wrapped]
  have hw : PlayKept s (s.wrapped v) := ⟨fun h => h.of_cycle hs (by decide) rfl, (Hushed.of_same hs (by decide)).law⟩
  exact (hw.trans (of_same (State.readTemperature_same _ v) (by decide))).trans
    (of_same (State.idleTick_same _) (by decide))

theorem acceptQuiet (s : State) (qa qb : Bool) : PlayKept s (s.acceptQuiet qa qb) := by
  have hs := State.acceptQuiet_same s qa qb
  refine ⟨fun h => h.of_cycle hs (by decide) ?_, (Hushed.of_same hs (by decide)).law⟩
  rw [State.acceptQuiet_eq, (State.quietHandOver_same _ _ _).timer (by decide)]
  rfl

theorem signalBack (s : State) : PlayKept s s.signalBack := by
  have fails : PlayKept s (if s.signalLimitReached then s.backboneFails else s) :=
    ite (fun _ => of_same (State.backboneFails_same s) (by decide)) (refl s)
  exact fails.trans ((of_same (State.setUpstreamLine_same _ true) (by decide)).trans
    (of_same (State.modFaults_same _ _) (by decide)))

/-- R82, R85: the rows of a channel act in SERVICE alone. -/
theorem ofServing {fs : List StateField} {s t : State} (h : Same fs s t)
    (hf : ∀ f ∈ [StateField.streams, .rings, .timer], f ∉ fs) (hm : t.mgmt.mode = s.mgmt.mode) (hs : s.serving = true) :
    PlayKept s t :=
  of_hushed h hf (.of_service hm (s.serving_iff.1 hs))

end PlayKept

/-- Every row keeps both laws. -/
theorem effect_playKept (i : Instr) (s : State) : PlayKept s (effect i s) := by
  cases i with
  | cycleMark hd elapsed lines payload =>
    exact ⟨fun h => (h.passTime elapsed).takeMarkParcel hd lines payload,
      ((Hushed.passTime s elapsed).trans (.takeMarkParcel _ _ _ _)).law⟩
  | selfStart lines =>
    exact ⟨fun h => (h.passTime _).selfStart lines, ((Hushed.passTime s _).trans (.selfStart _ _)).law⟩
  | secondsTick sensor => exact .ite (fun _ => .secondsTick _ _) (.refl _)
  | quietLineAccepted qa qb => exact .acceptQuiet s qa qb
  | markLoss => exact .ite (fun _ => ⟨fun h => h.missMark, (Hushed.missMark s).law⟩) (.refl _)
  | backboneSignalLost => exact .of_same (State.signalLost_same s) (by decide)
  | backboneDown => exact ⟨fun h => h.signalGone, (Hushed.signalGone s).law⟩
  | backboneSignalReturn => exact .signalBack _
  | programAudio hd payload =>
    exact .media (fun s h => h.takeProgramAudio payload) fun s => by
      rw [(State.takeProgramAudio_same s payload).mgmt (by decide)]
  | videoSegment hd payload =>
    exact .media (fun s h => h.takeVideoSegment payload) fun s => (Calm.takeVideoSegment s payload).mode
  | startCue hd cue =>
    exact .media_same (State.startCueTaken_same cue) (by decide) fun s => (Calm.startCueTaken cue s).mode
  | endCue hd cue => exact .media_same (State.endCueTaken_same cue) (by decide) fun s => (Calm.endCueTaken cue s).mode
  | cancelCue hd cue =>
    exact .media_same (State.cancelCueTaken_same cue) (by decide) fun s => (Calm.cancelCueTaken cue s).mode
  | leadExpiry a =>
    refine .ite (fun hl => .ofServing (State.countLead_same s a) (by decide) (Calm.countLead s a).mode ?_) (.refl _)
    simp only [State.leadExpires, Bool.and_eq_true] at hl
    tauto
  | announceStall a =>
    refine .ite (fun hl => .ofServing (State.presentGap_same s a) (by decide) (Calm.presentGap s a).mode ?_) (.refl _)
    simp only [State.stallExpires, Bool.and_eq_true] at hl
    tauto
  | announceAudio hd payload =>
    exact .media_same (fun s => State.takeAnnounceAudio_same s payload) (by decide) fun s => by
      rw [(State.takeAnnounceAudio_same s payload).mgmt (by decide)]
  | chainFrameComplete r => exact .of_hushed (State.frameDone_same s r) (by decide) (.frameDone s r)
  | returnWindowClose c slots =>
    exact .of_hushed (State.returnWindow_same s c slots) (by decide) (.returnWindow s c slots)
  | berthPresent b =>
    exact .ite (fun _ => .of_hushed (State.becomePresent_same s b) (by decide) (.becomePresent s b)) (.refl _)
  | berthAbsent b =>
    exact .ite (fun _ => .of_hushed (State.enterAbsent_same s b) (by decide) (.enterAbsent s b)) (.refl _)
  | idleDim b => exact .ite (fun _ => .of_same (State.modBerth_same s b _) (by decide)) (.refl _)
  | idleSleep b => exact .ite (fun _ => .of_same (State.modBerth_same s b _) (by decide)) (.refl _)
  | noAnswer c =>
    exact .ite (fun _ => .of_hushed (State.queryUnanswered_same s c) (by decide) (.endQuery s c _ _ _)) (.refl _)
  | chainLinkDown c => exact .of_hushed (State.chainLineLost_same s c) (by decide) (.chainLineLost s c)
  | chainLinkUp c => exact .of_hushed (State.chainLineBack_same s c) (by decide) (.chainLineBack s c)
  | receiveCheckFailure port clean bytes => exact .of_same (State.dropFailed_same s _ _ _) (by decide)
  | wrongDirection hd payload => exact .of_same (State.replyArrives_same s) (by decide)
  | forwardCommand hd payload => exact .of_taken (takeCommand_taken _ _ _ _) (.managePayload payload)
  | throughArrival p => exact .of_same (State.takeThrough_same s p) (by decide)
  | throughLinkDown =>
    exact (PlayKept.of_same (State.setThroughLine_same s false) (by decide)).trans
      (.of_same (State.modThru_same _ _) (by decide))
  | throughLinkUp =>
    exact (PlayKept.of_same (State.setThroughLine_same s true) (by decide)).trans
      (.of_same (State.modThru_same _ _) (by decide))
  | throughSendComplete => exact .of_same (State.modThru_same s _) (by decide)
  | upstreamSendComplete => exact .upstreamSent s
  | unknownCommand hd payload => exact .of_taken (takeCommand_taken _ _ _ _) (.managePayload payload)
  | powerOnReset => exact .of_reset s.pins (by simp [Same, effect, State.resetNow])
  | resetPin => exact .of_reset s.pins (by simp [Same, effect, State.resetNow])
  | endOfReset pins => exact .of_reset pins (by simp [Same, effect])
  | cueBadPayload hd payload =>
    exact .media_same (fun s => State.countU_same s _) (by decide) fun _ => rfl
  | _ => exact .command _ _ _ _

/-- Every step keeps both laws: the idle step and every row. -/
theorem step_playKept {s t : State} (h : step s = .next t) : PlayKept s t := by
  unfold step at h
  split at h
  · obtain rfl := Host.Outcome.next.inj h
    exact .ite (fun _ => ⟨fun h => (h.passTime _).takeDue, ((Hushed.passTime s _).trans (.takeDue _)).law⟩) (.refl s)
  · next i rest _ =>
    rw [exec_eq] at h
    obtain rfl := Host.Outcome.next.inj h
    have h1 : PlayKept s { s with pending := rest } := .of_same (fs := [.pending]) (by simp [Same]) (by decide)
    exact h1.trans (.ite (fun _ => effect_playKept i _) (.refl _))

end Sys2Proof.Machine

open Sys2Proof
open Sys2Proof.Machine

/-- Settles O51: every step keeps the law of the ring pool, the start of a cycle by presenting what is due in it. -/
theorem ringLawKept : Obligations.RingLawKept := fun _ _ hs h => (step_playKept h).rings hs

/-- Settles O56: no operation fills in CONFIGURATION what the entry into it emptied. -/
theorem configurationLawKept : Obligations.ConfigurationLawKept := fun _ _ hs h => (step_playKept h).quiet hs
end

section
/-! PROOF. The stream commands (R56 to R58): their checks in order, and what they write. -/

namespace Sys2Proof.Machine

theorem streamOf_none {b : Byte} (h : 32 ≤ b.toNat) : streamOf b = none := dif_neg (Nat.not_lt.2 h)

theorem streamOf_some {b : Byte} {v : StreamIx} : streamOf b = some v ↔ b.toNat = v.val := by
  unfold streamOf
  split
  · exact Option.some_inj.trans Fin.ext_iff
  · next h => exact iff_of_false nofun fun e => h (e ▸ v.isLt)

theorem openKindOf_none {b : Byte} : openKindOf b = none ↔ b = 0 ∨ 3 < b.toNat := by
  revert b
  decide

/-- R56: a kind byte that names a kind. -/
theorem openKindOf_some {b : Byte} (h1 : 1 ≤ b.toNat) (h3 : b.toNat ≤ 3) : ∃ k, openKindOf b = some k := by
  refine Option.ne_none_iff_exists'.1 fun h => ?_
  obtain rfl | h := openKindOf_none.1 h
  · exact absurd h1 (by decide)
  · omega

/-! ### OPEN STREAM (R56) -/

section
variable {s : State} {num kind : Byte}

theorem manageOpenStream_badIndex (hn : 32 ≤ num.toNat) :
    manageOpenStream [num, kind] s = refuse s 0x04 .badIndex num := by
  simp [manageOpenStream, withLength, byteAt, streamOf_none hn]

variable {v : StreamIx} (hv : num.toNat = v.val)
include hv

theorem manageOpenStream_badValue (hk : openKindOf kind = none) :
    manageOpenStream [num, kind] s = refuse s 0x04 .badValue kind := by
  simp [manageOpenStream, withLength, byteAt, streamOf_some.2 hv, hk]

theorem manageOpenStream_inUse {k : StreamKind} (hk : openKindOf kind = some k) (ho : s.streams[v].kind ≠ none) :
    manageOpenStream [num, kind] s = refuse s 0x04 .inUse num := by
  simp [manageOpenStream, withLength, byteAt, streamOf_some.2 hv, hk, Option.isSome_iff_ne_none.2 ho, -Fin.getElem_fin]

theorem manageOpenStream_noRoom (hc : s.streams[v].kind = none) (hr : s.freeRing = none) :
    manageOpenStream [num, 1] s = refuse s 0x04 .noRoom num := by
  simp [manageOpenStream, withLength, byteAt, streamOf_some.2 hv, openKindOf, hc, hr, -Fin.getElem_fin]

theorem manageOpenStream_audio (hc : s.streams[v].kind = none) {r : RingIx} (hr : s.freeRing = some r) :
    manageOpenStream [num, 1] s = accept (s.openAudio v r) 0x04 := by
  simp [manageOpenStream, withLength, byteAt, streamOf_some.2 hv, openKindOf, hc, hr, -Fin.getElem_fin]

/-- R56: the kind that the kind byte of a video stream names. -/
theorem manageOpenStream_video (hk : kind = 2 ∨ kind = 3) (hc : s.streams[v].kind = none) :
    manageOpenStream [num, kind] s =
      accept (s.openVideo v (if kind = 2 then .programVideo else .captionVideo)) 0x04 := by
  obtain rfl | rfl := hk
  · simp [manageOpenStream, withLength, byteAt, streamOf_some.2 hv, openKindOf, hc, -Fin.getElem_fin]
  · simp [manageOpenStream, withLength, byteAt, streamOf_some.2 hv, openKindOf, hc, -Fin.getElem_fin]

end

/-! ### CLOSE STREAM (R57, R58) -/

section
variable {s : State} {num : Byte}

theorem manageCloseStream_badIndex (hn : 32 ≤ num.toNat) :
    manageCloseStream [num] s = refuse s 0x05 .badIndex num := by
  simp [manageCloseStream, withLength, byteAt, streamOf_none hn]

theorem manageCloseStream_index {v : StreamIx} (hv : num.toNat = v.val) :
    manageCloseStream [num] s = accept (if s.streams[v].kind.isSome then s.closeStream v else s) 0x05 := by
  simp [manageCloseStream, withLength, byteAt, streamOf_some.2 hv]

end

/-- R57: a stream that closes writes the rings before its entry and the selections. -/
theorem State.ringCleared_eq (s : State) (v : StreamIx) :
    s.ringCleared v = { s with rings := (s.ringCleared v).rings } := by
  unfold State.ringCleared
  split <;> rfl

theorem State.ringCleared_withPorts (s : State) (v : StreamIx) (x : UpstreamPort) (y : ThroughPort) :
    (s.withPorts x y).ringCleared v = (s.ringCleared v).withPorts x y := by
  have hv : (s.withPorts x y).streams[v].ring = s.streams[v].ring := rfl
  unfold State.ringCleared
  rw [hv]
  cases s.streams[v].ring <;> rfl

/-- A stream that closes leaves the ports as they are. -/
theorem State.closeStream_withPorts (s : State) (v : StreamIx) (x : UpstreamPort) (y : ThroughPort) :
    (s.withPorts x y).closeStream v = (s.closeStream v).withPorts x y := by
  rw [State.closeStream_eq, State.closeStream_eq, State.ringCleared_withPorts]
  generalize s.ringCleared v = u
  rfl

/-- R57, R58: CLOSE STREAM writes the stream's entry, its ring and the selections. -/
theorem State.closeStream_frame (s : State) (v : StreamIx) : s.closeStream v = { s with
    streams := s.streams.set v { s.streams[v] with kind := none, ring := none, presented := .absent }
    rings := (s.closeStream v).rings, berths := (s.closeStream v).berths } := by
  rw [State.closeStream_eq, State.ringCleared_eq]
  generalize (s.ringCleared v).rings = g
  rfl

theorem State.closeStream_slot (s : State) (v : StreamIx) (r : RingIx) (i : Fin 16) :
    (s.closeStream v).rings[r][i] = if s.streams[v].ring = some r then none else s.rings[r][i] := by
  rw [State.closeStream_rings, State.ringCleared_slot]

end Sys2Proof.Machine

open Sys2Proof
open Sys2Proof.Machine

/-- Settles O42: each command check by check, and what it writes where it is accepted (`closeStream_frame` and the
lemmas next to it). -/
theorem streamCommands : Obligations.StreamCommands := by
  refine fun h s hh ha => ⟨fun num kind => ⟨s.takeCommand h [0x04, num, kind] (manageOpenStream [num, kind]),
    exec_free hh _, fun hn => ?_, fun v hv => ⟨fun hk => ?_, fun h1 h3 ho => ?_, fun hk hc hf => ?_,
    fun hk hc r hr hl => ?_, fun hk hc => ?_⟩⟩, fun num => ⟨s.takeCommand h [0x05, num] (manageCloseStream [num]), exec_free hh _, fun hn => ?_,
    fun v hv => ?_⟩⟩
  · exact takeCommand_refuses (v := .badIndex) ha fun x y => manageOpenStream_badIndex (s := s.withPorts x y) hn
  · exact takeCommand_refuses (v := .badValue) ha fun x y =>
      manageOpenStream_badValue (s := s.withPorts x y) hv (openKindOf_none.2 hk)
  · obtain ⟨k, hk⟩ := openKindOf_some h1 h3
    exact takeCommand_refuses (v := .inUse) ha fun x y => manageOpenStream_inUse (s := s.withPorts x y) hv hk ho
  · subst hk
    exact takeCommand_refuses (v := .noRoom) ha fun x y =>
      manageOpenStream_noRoom (s := s.withPorts x y) hv hc (s.freeRing_none.2 hf)
  · subst hk
    obtain ⟨⟨x, y, e⟩, hans⟩ := takeCommand_accepts (u := s.openAudio v r) ha
      (fun x y => manageOpenStream_audio (s := s.withPorts x y) hv hc (State.freeRing_some.2 ⟨hr, hl⟩)) rfl
    refine ⟨hans, ?_⟩
    rw [e]
    rfl
  · obtain ⟨⟨x, y, e⟩, hans⟩ := takeCommand_accepts
      (u := s.openVideo v (if kind = 2 then .programVideo else .captionVideo)) ha
      (fun x y => manageOpenStream_video (s := s.withPorts x y) hv hk hc) rfl
    refine ⟨hans, ?_⟩
    rw [e]
    rfl
  · exact takeCommand_refuses (v := .badIndex) ha fun x y => manageCloseStream_badIndex (s := s.withPorts x y) hn
  · have hnode : (if s.streams[v].kind.isSome then s.closeStream v else s).node = s.node := by
      split
      · exact (State.closeStream_same s v).node (by decide)
      · rfl
    obtain ⟨⟨x, y, e⟩, hans⟩ := takeCommand_accepts (u := if s.streams[v].kind.isSome then s.closeStream v else s) ha
      (fun x y => (manageCloseStream_index (s := s.withPorts x y) hv).trans
        (congrArg (accept · 0x05) (by
          show (if s.streams[v].kind.isSome then _ else _) = _
          rw [State.closeStream_withPorts]
          split <;> rfl))) hnode
    refine ⟨hans, fun hc => ?_, fun hc => ?_⟩
    · rw [e, if_neg (by rw [hc]; decide)]
      rfl
    · rw [e, if_pos (Option.isSome_iff_ne_none.2 hc)]
      have hframe := s.closeStream_frame v
      have hslot := s.closeStream_slot v
      have hget := KeepsBut.closeStream_get s v
      generalize s.closeStream v = u at hframe hslot hget
      refine ⟨?_, hslot, hget⟩
      rw [hframe]
      rfl
end

section
/-! PROOF. The blocks of a PROGRAM AUDIO parcel, one after the other (R60 to R62). -/

namespace Sys2Proof.Machine

/-! ### One block -/

/-- R60, R146: the state in which the block of a media parcel finds the part: the parcel received, and queued for the
through port. -/
def State.withParcel (s : State) (p : Parcel) : State := s.withPorts s.receivedU.up (s.thru.enqueue p)

theorem State.receivedThrough_eq (s : State) (p : Parcel) : s.receivedU.queueThrough p = s.withParcel p := rfl

/-- R61: whether a block due in cycle `d` is 1 to 15 cycles ahead. -/
def State.timely (s : State) (d : Word16) : Bool :=
  decide (1 ≤ cycleDistance d s.timer.cycle ∧ cycleDistance d s.timer.cycle ≤ 15)

/-- R62: whether the slot of cycle `d` in ring `r` is empty. -/
def State.slotFree (s : State) (r : RingIx) (d : Word16) : Bool := (s.rings[r][ringSlot d]).isNone

/-- R65: the counts of a stream with some more blocks of each kind. -/
def StreamCounts.tallied (k : StreamCounts) (late early accepted duplicate : Nat) : StreamCounts :=
  { k with
    late := addCount k.late late, early := addCount k.early early
    accepted := addCount k.accepted accepted, duplicate := addCount k.duplicate duplicate }

theorem StreamCounts.tallied_tallied (k : StreamCounts) (a b c d a' b' c' d' : Nat) :
    (k.tallied a b c d).tallied a' b' c' d' = k.tallied (a + a') (b + b') (c + c') (d + d') := by
  simp only [StreamCounts.tallied, addCount_addCount]

theorem StreamCounts.tallied_zero (k : StreamCounts) : k.tallied 0 0 0 0 = k := by
  simp only [StreamCounts.tallied, addCount_zero]

section
variable (s : State) (v : StreamIx) (r : RingIx) (d : Word16) (blk : ProgramBlock)

theorem State.takeProgramBlock_other {w : StreamIx} (hw : w ≠ v) :
    (s.takeProgramBlock v r d blk).streams[w] = s.streams[w] := by
  have hcount : ∀ (t : State) (f : StreamCounts → StreamCounts), (t.countStream v f).streams[w] = t.streams[w] :=
    fun t f => by rw [State.countStream_get, if_neg hw]
  obtain ⟨-, e⟩ | ⟨-, e⟩ | ⟨-, ⟨-, e⟩ | ⟨-, e⟩⟩ := s.takeProgramBlock_cases v r d blk <;> rw [e, hcount]
  rfl

theorem State.timely_iff : s.timely d = true ↔ 1 ≤ cycleDistance d s.timer.cycle ∧ cycleDistance d s.timer.cycle ≤ 15 :=
  decide_eq_true_iff

theorem State.slotFree_iff : s.slotFree r d = true ↔ s.rings[r][ringSlot d] = none := Option.isNone_iff_eq_none

/-- R61, R62: every block is counted once, as what it is. -/
theorem State.takeProgramBlock_entry : (s.takeProgramBlock v r d blk).streams[v] = { s.streams[v] with
    counts := s.streams[v].counts.tallied (decide (cycleDistance d s.timer.cycle ≤ 0)).toNat
      (decide (16 ≤ cycleDistance d s.timer.cycle)).toNat (s.timely d && s.slotFree r d).toNat
      (s.timely d && !s.slotFree r d).toNat } := by
  have hcount : ∀ (t : State) (f : StreamCounts → StreamCounts), t.streams = s.streams →
      (t.countStream v f).streams[v] = { s.streams[v] with counts := f s.streams[v].counts } :=
    fun t f ht => by rw [State.countStream_get, if_pos rfl, ht]
  have untimely : cycleDistance d s.timer.cycle ≤ 0 ∨ 16 ≤ cycleDistance d s.timer.cycle → s.timely d = false :=
    fun h => Bool.eq_false_iff.2 fun k => by have := (s.timely_iff d).1 k; omega
  obtain ⟨h, e⟩ | ⟨h, e⟩ | ⟨hd, ⟨h, e⟩ | ⟨h, e⟩⟩ := s.takeProgramBlock_cases v r d blk
  · rw [e, hcount _ _ rfl, untimely (.inl h), decide_eq_true h, decide_eq_false (p := 16 ≤ _) (by omega)]
    simp [StreamCounts.tallied, addCount_zero, bump]
  · rw [e, hcount _ _ rfl, untimely (.inr h), decide_eq_true h, decide_eq_false (p := _ ≤ (0 : Int)) (by omega)]
    simp [StreamCounts.tallied, addCount_zero, bump]
  · have hf : s.slotFree r d = false := Bool.eq_false_iff.2 fun k => by
      rw [(s.slotFree_iff r d).1 k] at h
      cases h
    rw [e, hcount _ _ rfl, (s.timely_iff d).2 hd, hf, decide_eq_false (p := 16 ≤ _) (by omega),
      decide_eq_false (p := _ ≤ (0 : Int)) (by omega)]
    simp [StreamCounts.tallied, addCount_zero, bump]
  · rw [e, hcount (s.fileBlock r d blk) _ rfl, (s.timely_iff d).2 hd, (s.slotFree_iff r d).2 h,
      decide_eq_false (p := 16 ≤ _) (by omega), decide_eq_false (p := _ ≤ (0 : Int)) (by omega)]
    simp [StreamCounts.tallied, addCount_zero, bump]

/-- R61, R62: only an empty slot takes a block, and only one that is due in time. -/
theorem State.takeProgramBlock_slot (r' : RingIx) (i : Fin 16) : (s.takeProgramBlock v r d blk).rings[r'][i] =
    if (r' = r ∧ i = ringSlot d) ∧ s.timely d = true ∧ s.slotFree r d = true then some (d, blk)
    else s.rings[r'][i] := by
  simp only [s.timely_iff, s.slotFree_iff]
  obtain ⟨h, e⟩ | ⟨h, e⟩ | ⟨hd, ⟨h, e⟩ | ⟨h, e⟩⟩ := s.takeProgramBlock_cases v r d blk <;> rw [e]
  · exact (if_neg fun k => by omega).symm
  · exact (if_neg fun k => by omega).symm
  · refine (if_neg fun k => ?_).symm
    rw [k.2.2] at h
    cases h
  · show (s.fileBlock r d blk).rings[r'][i] = _
    rw [State.fileBlock_slot]
    exact if_congr (and_iff_left ⟨hd, h⟩).symm rfl rfl

end

/-! ### The blocks of a parcel -/

/-- R61: the cycle in which block `j` of a parcel is due. -/
def blockDue (due : Word16) (j : Nat) : Word16 := due + BitVec.ofNat 16 j

/-- R55: consecutive cycles have different slots. -/
theorem ringSlot_blockDue_ne {due : Word16} {i j : Nat} (hij : i < j) (hj : j < 16) :
    ringSlot (blockDue due i) ≠ ringSlot (blockDue due j) := fun h => by
  have h := congrArg Fin.val h
  unfold ringSlot blockDue at h
  simp only [BitVec.toNat_add, BitVec.toNat_ofNat] at h
  have := due.isLt
  omega

/-- The number of `j < m` that a test accepts. -/
def tally (p : Nat → Bool) (m : Nat) : Nat := ((List.range m).filter p).length

theorem tally_succ (p : Nat → Bool) (m : Nat) : tally p (m + 1) = tally p m + (p m).toNat := by
  unfold tally
  rw [List.range_succ, List.filter_append, List.length_append]
  cases h : p m <;> simp [h]

section
variable (s : State) (v : StreamIx) (r : RingIx) (payload : List Byte) (due : Word16)

/-- R62: block `j` of a parcel is stored in ring `r`. -/
def State.stores (j : Nat) : Bool := s.timely (blockDue due j) && s.slotFree r (blockDue due j)

theorem State.takeProgramBlocks_succ (m : Nat) : s.takeProgramBlocks v r payload due (m + 1) =
    (s.takeProgramBlocks v r payload due m).takeProgramBlock v r (blockDue due m) (programBlockAt payload m) := by
  unfold State.takeProgramBlocks
  rw [List.range_succ, List.foldl_append]
  rfl

theorem State.takeProgramBlocks_other {w : StreamIx} (hw : w ≠ v) (m : Nat) :
    (s.takeProgramBlocks v r payload due m).streams[w] = s.streams[w] := by
  induction m with
  | zero => rfl
  | succ m ih => rw [State.takeProgramBlocks_succ, State.takeProgramBlock_other _ _ _ _ _ hw, ih]

/-- R62: a slot that no block is stored in keeps what it holds, and so does every other ring. -/
theorem State.takeProgramBlocks_unstored {r' : RingIx} {i : Fin 16} {m : Nat} (hm : m ≤ 16)
    (h : r' = r → ∀ j < m, s.stores r due j = true → ringSlot (blockDue due j) ≠ i) :
    (s.takeProgramBlocks v r payload due m).rings[r'][i] = s.rings[r'][i] := by
  induction m generalizing r' i with
  | zero => rfl
  | succ m ih =>
    rw [State.takeProgramBlocks_succ, State.takeProgramBlock_slot, if_neg]
    · exact ih (by omega) fun e j hj => h e j (by omega)
    · rintro ⟨⟨rfl, rfl⟩, ht, hf⟩
      refine h rfl m (Nat.lt_succ_self m) ?_ rfl
      have hfree := ih (r' := r') (i := ringSlot (blockDue due m)) (by omega)
        fun _ j hj _ => ringSlot_blockDue_ne hj (by omega)
      unfold State.timely at ht
      unfold State.slotFree at hf
      rw [(State.takeProgramBlocks_same s v r' payload due m).timer (by decide)] at ht
      rw [hfree] at hf
      exact Bool.and_eq_true_iff.2 ⟨ht, hf⟩

/-- R61, R62: the blocks before it do not change what becomes of a block. -/
theorem State.takeProgramBlocks_judges {m : Nat} (hm : m < 16) :
    (s.takeProgramBlocks v r payload due m).timely (blockDue due m) = s.timely (blockDue due m) ∧
    (s.takeProgramBlocks v r payload due m).slotFree r (blockDue due m) = s.slotFree r (blockDue due m) := by
  unfold State.timely State.slotFree
  rw [(State.takeProgramBlocks_same s v r payload due m).timer (by decide),
    s.takeProgramBlocks_unstored v r payload due hm.le fun _ j hj _ => ringSlot_blockDue_ne hj hm]
  exact ⟨rfl, rfl⟩

/-- R61, R62: a block that is stored stands in its slot with its due cycle. -/
theorem State.takeProgramBlocks_stored {j m : Nat} (hj : j < m) (hm : m ≤ 16) (h : s.stores r due j = true) :
    (s.takeProgramBlocks v r payload due m).rings[r][ringSlot (blockDue due j)] =
      some (blockDue due j, programBlockAt payload j) := by
  induction m with
  | zero => exact absurd hj (Nat.not_lt_zero j)
  | succ m ih =>
    rw [State.takeProgramBlocks_succ, State.takeProgramBlock_slot]
    obtain ⟨ht, hf⟩ := s.takeProgramBlocks_judges v r payload due (m := m) (by omega)
    by_cases e : j = m
    · subst e
      obtain ⟨h1, h2⟩ := Bool.and_eq_true_iff.1 h
      rw [if_pos ⟨⟨rfl, rfl⟩, ht.trans h1, hf.trans h2⟩]
    · rw [if_neg fun k => ringSlot_blockDue_ne (by omega) (by omega) k.1.2]
      exact ih (by omega) (by omega)

/-- R65: the counts of the stream after `m` blocks. -/
theorem State.takeProgramBlocks_entry {m : Nat} (hm : m ≤ 16) :
    (s.takeProgramBlocks v r payload due m).streams[v] = { s.streams[v] with
      counts := s.streams[v].counts.tallied
        (tally (fun j => decide (cycleDistance (blockDue due j) s.timer.cycle ≤ 0)) m)
        (tally (fun j => decide (16 ≤ cycleDistance (blockDue due j) s.timer.cycle)) m)
        (tally (fun j => s.timely (blockDue due j) && s.slotFree r (blockDue due j)) m)
        (tally (fun j => s.timely (blockDue due j) && !s.slotFree r (blockDue due j)) m) } := by
  induction m with
  | zero =>
    show s.streams[v] = { s.streams[v] with counts := s.streams[v].counts.tallied 0 0 0 0 }
    rw [StreamCounts.tallied_zero]
  | succ m ih =>
    obtain ⟨ht, hf⟩ := s.takeProgramBlocks_judges v r payload due (m := m) (by omega)
    rw [State.takeProgramBlocks_succ, State.takeProgramBlock_entry, ih (by omega), ht, hf,
      (State.takeProgramBlocks_same s v r payload due m).timer (by decide)]
    simp only [StreamCounts.tallied_tallied, tally_succ]

/-- What writes streams and rings alone. -/
theorem Same.eq_streams {s t : State} (h : Same [.streams, .rings] s t) :
    t = { s with streams := t.streams, rings := t.rings } := by
  obtain ⟨h1, h2, h3, h4, h5, h6, h7, h8, h9, h10, -, -, h13, h14, h15, h16, h17, h18, h19, h20, h21, h22⟩ := h
  cases s
  cases t
  simp_all

/-- R60: a parcel of the right shape for an open program-audio stream is taken block by block. -/
theorem State.takeProgramAudio_blocks (hv : (byteAt payload 0).toNat = v.val) {k : Nat}
    (hk : (byteAt payload 1).toNat = k) (h1 : 1 ≤ k) (h4 : k ≤ 4) (hl : payload.length = 4 + 192 * k)
    (ho : s.streams[v].kind = some .programAudio) (hr : s.streams[v].ring = some r) :
    s.takeProgramAudio payload = s.takeProgramBlocks v r payload (wordAt payload 2) k := by
  have htarget : s.audioTarget payload = some (v, r) := by
    cases payload with
    | nil =>
      rw [List.length_nil] at hl
      omega
    | cons b bs =>
      have hb : streamOf b = some v := streamOf_some.2 hv
      simp [State.audioTarget, payloadStream, hb, State.audioRing_some.2 ⟨ho, hr⟩]
  unfold State.takeProgramAudio
  rw [htarget]
  dsimp only
  rw [hk, if_pos ⟨h1, h4, hl⟩]

end

end Sys2Proof.Machine

open Sys2Proof
open Sys2Proof.Machine

/-- Settles O12, by induction on the blocks of the parcel: a block finds its own slot as the parcel found it, because
four consecutive cycles have different slots (`ringSlot_blockDue_ne`). -/
theorem programAudioStored : Obligations.ProgramAudioStored := by
  refine ⟨fun _ => rfl, fun payload j i => ?_, fun h payload v r k s hh hm hv hk h1 h4 hl ho hr => ?_⟩
  · unfold programBlockAt
    rw [get_ofFn_fin, Nat.add_right_comm (4 + 192 * j), Nat.add_right_comm 4 (192 * j) 2]
  · intro due dist timely free
    have he : effect (.programAudio h payload) s =
        (s.withParcel (parcelOf .programAudio h payload)).takeProgramBlocks v r payload (wordAt payload 2) k := by
      unfold effect
      dsimp only
      rw [takeMedia_service _ _ hm, State.receivedThrough_eq]
      exact State.takeProgramAudio_blocks _ v r payload hv hk h1 h4 hl ho hr
    generalize parcelOf .programAudio h payload = p at he
    have hstores : ∀ {j}, timely j = true → free j = true →
        (s.withParcel p).stores r (wordAt payload 2) j = true := fun ht hf => Bool.and_eq_true_iff.2 ⟨ht, hf⟩
    refine ⟨_, (exec_free hh _).trans (congrArg _ he),
      (State.takeProgramBlocks_same _ v r payload (wordAt payload 2) k).eq_streams, fun r' hne => ?_,
      fun j hj ht hf => (s.withParcel p).takeProgramBlocks_stored v r payload _ hj (by omega) (hstores ht hf),
      fun i hi => ?_, fun w hne => (s.withParcel p).takeProgramBlocks_other v r payload _ hne k,
      (s.withParcel p).takeProgramBlocks_entry v r payload _ (by omega)⟩
    · exact Vector.ext fun i hi =>
        (s.withParcel p).takeProgramBlocks_unstored v r payload _ (i := ⟨i, hi⟩) (by omega) fun e => absurd e hne
    · refine (s.withParcel p).takeProgramBlocks_unstored v r payload _ (by omega) fun _ j hj hst => ?_
      obtain ⟨ht, hf⟩ := Bool.and_eq_true_iff.1 hst
      exact hi j hj ht hf
end

section
/-! PROOF. What rings and channels present for a cycle, and the release of a channel in DUCKING (R64, R65, R81 to
R88). -/

namespace Sys2Proof.Machine

/-! ### The rings (R64, R65) -/

theorem ringBlock_none {g : Ring} {n : Word16} (h : ∀ blk, g[ringSlot n] ≠ some (n, blk)) : ringBlock g n = none :=
  Option.eq_none_iff_forall_ne_some.2 fun blk k => h blk (ringBlock_some.1 k)

section
variable {s : State} {n : Word16} {v : StreamIx} {r : RingIx} (hk : s.streams[v].kind = some .programAudio)
  (hr : s.streams[v].ring = some r)
include hk hr

theorem State.ringPlays_of_open : s.ringPlays r = true := (s.ringPlays_iff r).2 ⟨v, State.audioRing_some.2 ⟨hk, hr⟩⟩

/-- R64: the block of the cycle is presented. -/
theorem State.presentedEntry_block {blk : ProgramBlock} (h : ringBlock s.rings[r] n = some blk) :
    s.presentedEntry n v = { s.streams[v] with presented := .block blk } := by
  unfold State.presentedEntry
  dsimp only
  rw [State.audioRing_some.2 ⟨hk, hr⟩]
  dsimp only
  rw [h]

/-- R64, R65: without a block silence is presented, and an underrun counted where a listener hears it. -/
theorem State.presentedEntry_silence (h : ringBlock s.rings[r] n = none) :
    s.presentedEntry n v = { s.streams[v] with
      presented := .silence
      counts := { s.streams[v].counts with
        underrun := addCount s.streams[v].counts.underrun (if s.serving && s.listenedTo v then 1 else 0) } } := by
  unfold State.presentedEntry
  dsimp only
  rw [State.audioRing_some.2 ⟨hk, hr⟩]
  dsimp only
  rw [h]

end

/-- R65: a PRESENT berth has selected the stream, in SERVICE. -/
theorem State.heard_iff (s : State) (v : StreamIx) : (s.serving && s.listenedTo v) = true ↔
    s.mgmt.mode = .service ∧ ∃ b : BerthIx, s.berths[b].presence = .present ∧ s.berths[b].audio = some v := by
  rw [Bool.and_eq_true, s.serving_iff]
  refine and_congr_right fun _ => ?_
  simp [State.listenedTo, State.present]

/-! ### Governing that stands as it is (R79) -/

/-- R79: a recomputation changes nothing where governing is as the rule says. -/
theorem Governed.recomputeGoverning {s : State} (hg : Governed s) : s.recomputeGoverning = s := by
  have hb : s.recomputeGoverning.berths = s.berths :=
    berths_ext fun b => (recomputeGoverning_get s b).trans (State.regoverned_chosen (hg b))
  rw [((State.recomputeGoverning_same s).widen (gs := [.berths, .channels]) (by decide)).eq_governing, hb,
    (State.recomputeGoverning_same s).channels (by decide)]

/-- R83: a busy channel that enters PLAYING keeps its claims, so that no berth is governed anew. -/
theorem Governed.enterPlaying {s : State} (hg : Governed s) {a : ChannelIx} (h : s.channels[a].state ≠ .idle) :
    s.enterPlaying a = s.modChannel a fun ch =>
      { ch with state := .playing, lead := 0, stall := 0, presented := .silence } := by
  refine (governed_modChannel hg a (fun b => ?_) rfl).recomputeGoverning
  unfold Channel.claim Channel.busy
  simp [h, -Fin.getElem_fin]

/-- R81, R82: a release that holds changes the record of its channel and no berth. -/
theorem Governed.evaluateRelease {s : State} (hg : Governed s) {a : ChannelIx} (hd : s.channels[a].state = .ducking)
    (hw : ¬ Waits s a) :
    s.evaluateRelease a = s.modChannel a fun ch => ch.freed (s.channels[a].leadUnder s.classes) := by
  unfold State.evaluateRelease
  rw [if_pos ⟨hd, (s.releaseHolds_iff a).2 hw⟩, State.enterLead_eq, State.leadOf_eq]
  refine (governed_modChannel hg a (Channel.freed_claim hd _) ?_).recomputeGoverning
  unfold Channel.freed
  split <;> rfl

/-- R81: a channel that is not in DUCKING, or has a berth without the mark, is not released. -/
theorem State.evaluateRelease_stays {s : State} {a : ChannelIx} (h : s.channels[a].state ≠ .ducking ∨ Waits s a) :
    s.evaluateRelease a = s :=
  if_neg fun k => h.elim (fun h => h k.1) ((s.releaseHolds_iff a).1 k.2)

/-! ### A channel that enters IDLE (R88) -/

theorem otherChannel_ne : ∀ a : ChannelIx, otherChannel a ≠ a := by decide

/-- R79, R81, R88: what the entry of a channel into IDLE leaves of berths and of the other channel. -/
theorem State.enterIdle_left (s : State) (a : ChannelIx) : ChannelLeft s (s.enterIdle a) a := by
  obtain ⟨u, hu⟩ : ∃ u, u = (s.modChannel a Channel.idled).recomputeGoverning := ⟨_, rfl⟩
  have ht : s.enterIdle a = u.evaluateRelease (otherChannel a) := by
    rw [hu]
    rfl
  have hg : Governed u := hu ▸ governed_recompute _
  have hne := otherChannel_ne a
  have hub : ∀ b : BerthIx, u.berths[b] = (s.modChannel a Channel.idled).regoverned b s.berths[b] := fun b => by
    rw [hu]
    exact recomputeGoverning_get _ b
  have huc : u.channels[otherChannel a] = s.channels[otherChannel a] := by
    rw [hu, (State.recomputeGoverning_same _).channels (by decide), State.modChannel_get, if_neg hne]
  have htb : (s.enterIdle a).berths = u.berths := ht ▸ hg.evaluateRelease_berths _
  have hg' : Governed (s.enterIdle a) := governed_enterIdle s a
  have hreg := Regoverned.enterIdle s a
  refine ⟨(released_iff _ _ _).2 ?_, fun b => ⟨fun hp => ⟨fun hga => ?_, ?_, ?_, hreg.only b⟩, hreg.others b⟩⟩
  · have hw : Waits (s.enterIdle a) (otherChannel a) ↔ Waits u (otherChannel a) := by
      unfold Waits
      rw [htb]
    have hcl : (s.enterIdle a).classes = u.classes := ht ▸ (State.evaluateRelease_same u _).classes (by decide)
    rw [hw, hcl, ht, ← huc]
    exact u.evaluateRelease_own _
  · have hgov := hg'.governs ((hreg.presence b).trans hp)
    rw [hga] at hgov
    obtain ⟨c, ⟨hbusy, -⟩, -⟩ := hgov
    rw [(enterIdle_spec s a).2.2] at hbusy
    exact hbusy rfl
  · exact hg'.governs ((hreg.presence b).trans hp)
  · rw [htb, hub]
    exact regoverned_ducked _ b _

/-- R79, R81, R88: `ChannelLeft` looks of the state before at the berths and at the other channel. -/
theorem ChannelLeft.congr {s s' t : State} {a : ChannelIx} (h : ChannelLeft s t a) (hb : s'.berths = s.berths)
    (hc : s'.channels[otherChannel a] = s.channels[otherChannel a]) : ChannelLeft s' t a := by
  unfold ChannelLeft
  rw [hb, hc]
  exact h

/-! ### A channel at the start of a cycle (R82 to R86) -/

/-- R86: the last block lies behind the next expected one. -/
theorem Channel.ended_iff (ch : Channel) :
    ch.ended = true ↔ ∃ l, ch.lastSeq = some l ∧ cycleDistance l ch.nextSeq < 0 := by
  unfold Channel.ended
  cases ch.lastSeq with
  | none => simp
  | some l => simp

theorem Channel.held_some {ch : Channel} {q : Word16} {blk : SpeechBlock} :
    ch.held q = some blk ↔ ch.ring[speechSlot q] = some (q, blk) := by
  unfold Channel.held
  cases ch.ring[speechSlot q] with
  | none => simp
  | some x =>
    obtain ⟨d, y⟩ := x
    by_cases hd : d = q <;> simp [hd]

theorem Channel.held_none {ch : Channel} {q : Word16} (h : ∀ blk, ch.ring[speechSlot q] ≠ some (q, blk)) :
    ch.held q = none :=
  Option.eq_none_iff_forall_ne_some.2 fun blk k => h blk (Channel.held_some.1 k)

section
variable {s : State} {a : ChannelIx}

theorem State.channelCycle_lead (h : s.channels[a].state = .lead) :
    s.channelCycle a s.channels[a].state = s.countLead a := by
  rw [h]
  rfl

theorem State.channelCycle_playing (h : s.channels[a].state = .playing) :
    s.channelCycle a s.channels[a].state = s.presentSpeech a := by
  rw [h]
  rfl

/-- R85: silence for want of a block, before the stall limit is looked at. -/
def State.gapped (s : State) (a : ChannelIx) : State :=
  s.modChannel a fun ch =>
    { ch with presented := .silence, stall := ch.stall + 1
              counts := { ch.counts with gapCycles := bump ch.counts.gapCycles } }

theorem State.gapped_own (s : State) (a : ChannelIx) : (s.gapped a).channels[a] = { s.channels[a] with
    presented := .silence, stall := s.channels[a].stall + 1
    counts := { s.channels[a].counts with gapCycles := bump s.channels[a].counts.gapCycles } } := by
  unfold State.gapped
  rw [State.modChannel_get, if_pos rfl]

theorem State.presentGap_short (h : s.channels[a].stall < 199) : s.presentGap a = s.gapped a := by
  refine if_neg ?_
  show ¬ 200 ≤ (s.gapped a).channels[a].stall
  rw [State.gapped_own]
  exact fun k => absurd k (by show ¬ 200 ≤ s.channels[a].stall + 1; omega)

theorem State.presentGap_stall (h : 199 ≤ s.channels[a].stall) :
    s.presentGap a = ((s.gapped a).latchStall a).enterIdle a := by
  refine if_pos ?_
  show 200 ≤ (s.gapped a).channels[a].stall
  rw [State.gapped_own]
  show 200 ≤ s.channels[a].stall + 1
  omega

theorem State.presentSpeech_ended (h : s.channels[a].ended = true) : s.presentSpeech a = s.enterIdle a := if_pos h

theorem State.presentSpeech_held (h : s.channels[a].ended ≠ true) {blk : SpeechBlock}
    (hb : s.channels[a].held s.channels[a].nextSeq = some blk) :
    s.presentSpeech a = s.modChannel a fun ch => { ch with
      presented := .block blk, ring := ch.ring.set (speechSlot ch.nextSeq) none
      nextSeq := ch.nextSeq + 1, stall := 0 } := by
  unfold State.presentSpeech
  dsimp only
  rw [if_neg h, hb]

theorem State.presentSpeech_missing (h : s.channels[a].ended ≠ true)
    (hb : s.channels[a].held s.channels[a].nextSeq = none) : s.presentSpeech a = s.presentGap a := by
  unfold State.presentSpeech
  dsimp only
  rw [if_neg h, hb]

end

/-- R85, R88: the stall limit latches ANNOUNCE STALL and sends the channel to IDLE. -/
theorem State.stalled_spec (s : State) (a : ChannelIx) :
    let t := ((s.gapped a).latchStall a).enterIdle a
    t = { s with berths := t.berths, channels := t.channels
                 mgmt := { s.mgmt with stall := s.mgmt.stall.set a true } } ∧
    t.channels[a] = { Channel.initial with
      nextSeq := s.channels[a].nextSeq
      counts := { s.channels[a].counts with gapCycles := bump s.channels[a].counts.gapCycles } } ∧
    ChannelLeft s t a := by
  have hne := otherChannel_ne a
  have hown : ((s.gapped a).latchStall a).channels[a] = (s.gapped a).channels[a] := rfl
  refine ⟨?_, ?_, (State.enterIdle_left _ a).congr rfl ?_⟩
  · exact (State.enterIdle_same _ a).eq_governing
  · rw [(enterIdle_spec _ a).2.2, hown, State.gapped_own]
  · show s.channels[otherChannel a] = (s.gapped a).channels[otherChannel a]
    unfold State.gapped
    rw [State.modChannel_get, if_neg hne]

end Sys2Proof.Machine

open Sys2Proof
open Sys2Proof.Machine

/-- Settles O19: the rings by whether the slot holds the block of the cycle, a release by `Governed.evaluateRelease`, a
channel by its state, with the entry into IDLE as `enterIdle_left` has it. -/
theorem playoutRule : Obligations.PlayoutRule := by
  have lasting : ∀ {ch : Channel}, (∀ l, ch.lastSeq = some l → 0 ≤ cycleDistance l ch.nextSeq) → ch.ended ≠ true :=
    fun {ch} he hend => by
      obtain ⟨l, hl, hneg⟩ := ch.ended_iff.1 hend
      exact absurd (he l hl) (not_le.2 hneg)
  refine ⟨fun n v r s hk hr => ⟨rfl, fun blk hb => ⟨?_, fun i => ?_⟩, fun hb => ⟨?_, fun hh => ?_, fun hh => ?_⟩⟩,
    fun a s => ⟨fun h => State.evaluateRelease_stays h, fun hd hw hg => ⟨fun hl => ?_, fun hl => ?_⟩⟩,
    fun a s => ⟨fun h => ?_, fun h hl => ?_, fun h hl hg => ?_, fun h he => ?_, fun h he => ⟨fun blk hb => ?_,
      fun hb hs => ?_, fun hb hs => ?_⟩⟩⟩
  · rw [State.presentRings_stream]
    exact State.presentedEntry_block hk hr (ringBlock_some.2 hb)
  · rw [State.presentRings_ring, State.playedRing_slot (State.ringPlays_of_open hk hr), ringBlock_some.2 hb]
    exact if_congr (and_iff_left rfl) rfl rfl
  · rw [State.presentRings_ring]
    exact if_neg fun k => by
      rw [ringBlock_none hb] at k
      cases k.2
  · rw [State.presentRings_stream, State.presentedEntry_silence hk hr (ringBlock_none hb),
      if_pos ((s.heard_iff v).2 hh)]
    rfl
  · rw [State.presentRings_stream, State.presentedEntry_silence hk hr (ringBlock_none hb),
      if_neg (mt (s.heard_iff v).1 hh), addCount_zero]
  · rw [(governed_of_law hg).evaluateRelease hd hw]
    exact congrArg (fun ch => { s with channels := s.channels.set a ch }) (if_pos hl)
  · rw [(governed_of_law hg).evaluateRelease hd hw]
    exact congrArg (fun ch => { s with channels := s.channels.set a ch }) (if_neg hl)
  · show s.channelCycle a s.channels[a].state = s
    obtain h | h := h <;> rw [h] <;> rfl
  · exact (State.channelCycle_lead h).trans (if_neg (Nat.not_le.2 hl))
  · exact ((State.channelCycle_lead h).trans (if_pos hl)).trans
      ((governed_of_law hg).enterPlaying (by rw [h]; exact nofun))
  · rw [(State.channelCycle_playing h).trans (State.presentSpeech_ended ((Channel.ended_iff _).2 he))]
    exact ⟨(State.enterIdle_same s a).eq_governing, (enterIdle_spec s a).2.2, State.enterIdle_left s a⟩
  · exact (State.channelCycle_playing h).trans (State.presentSpeech_held (lasting he) (Channel.held_some.2 hb))
  · exact ((State.channelCycle_playing h).trans
      (State.presentSpeech_missing (lasting he) (Channel.held_none hb))).trans (State.presentGap_short hs)
  · rw [((State.channelCycle_playing h).trans (State.presentSpeech_missing (lasting he) (Channel.held_none hb))).trans
      (State.presentGap_stall hs)]
    exact State.stalled_spec s a
end

section
/-! PROOF. Media parcels and cues that reach no block (R59, R60, R74, R89, R112, R146). -/

namespace Sys2Proof.Machine

/-! ### The bytes of a cue (ch. 11) -/

theorem wordAt_beBytes (w : Word16) : wordAt (beBytes 2 w.toNat) 0 = w := by
  have h : fieldAt (beBytes 2 w.toNat) 0 2 = w.toNat := by
    show beNat (beBytes 2 w.toNat) = w.toNat
    rw [beNat_beBytes]
    exact Nat.mod_eq_of_lt w.isLt
  unfold wordAt
  rw [h]
  exact BitVec.eq_of_toNat_eq (Nat.mod_eq_of_lt w.isLt)

/-- The two words of a cue behind its six byte fields. -/
theorem cueBytes_words (type : Byte) (q : CueBody) :
    wordAt (cueBytes type q) 6 = q.sequence ∧ wordAt (cueBytes type q) 8 = q.leadOverride :=
  ⟨wordAt_beBytes q.sequence, wordAt_beBytes q.leadOverride⟩

/-! ### The codes of a cue (R74) -/

theorem channelOf_none {b : Byte} (h : 2 ≤ b.toNat) : channelOf b = none := dif_neg (Nat.not_lt.2 h)

theorem classOf_none {b : Byte} : classOf b = none ↔ 4 ≤ b.toNat := by
  revert b
  decide

/-- A byte that is neither a number below `n` nor the code for none. -/
theorem codeBelowOrAbsent_false {b : Byte} {n : Nat} (h : n ≤ b.toNat) (hne : b ≠ 0xFF) :
    codeBelowOrAbsent b n = false := by
  rw [codeBelowOrAbsent, decide_eq_false (Nat.not_lt.2 h), beq_false_of_ne hne]
  rfl

/-- R74: a START cue with a code that is not listed. -/
def UnlistedCue (q : CueBody) : Prop :=
  2 ≤ q.channel.toNat ∨ 4 ≤ q.cls.toNat ∨ 16 ≤ q.zone.toNat ∨ (64 ≤ q.stop.toNat ∧ q.stop ≠ 0xFF) ∨
    (32 ≤ q.caption.toNat ∧ q.caption ≠ 0xFF) ∨ (256 ≤ q.leadOverride.toNat ∧ q.leadOverride ≠ 0xFFFF)

/-- R74: behind channel and class, one bad field makes the fields bad. -/
theorem UnlistedCue.fields {q : CueBody} (h : UnlistedCue q) (hc : q.channel.toNat < 2) :
    startFieldsGood q = false := by
  unfold startFieldsGood
  obtain h | h | h | ⟨h, hn⟩ | ⟨h, hn⟩ | ⟨h, hn⟩ := h
  · omega
  · simp [classOf_none.2 h]
  · simp [h]
  · simp [codeBelowOrAbsent_false h hn]
  · simp [codeBelowOrAbsent_false h hn]
  · rw [decide_eq_false (Nat.not_lt.2 h), beq_false_of_ne hn]
    exact Bool.and_false _

section
variable (s : State)

theorem startCueTaken_unlisted {q : CueBody} (h : UnlistedCue q) : s.startCueTaken q = s.countBadPayload := by
  unfold State.startCueTaken
  split
  · next hch hcl =>
    refine if_neg ?_
    have hlt : q.channel.toNat < 2 := by
      by_contra hn
      rw [channelOf_none (Nat.not_lt.1 hn)] at hch
      cases hch
    rw [h.fields hlt]
    decide
  · rfl

theorem endCueTaken_unlisted {q : CueBody} (h : 2 ≤ q.channel.toNat) : s.endCueTaken q = s.countBadPayload := by
  unfold State.endCueTaken
  rw [channelOf_none h]

theorem cancelCueTaken_unlisted {q : CueBody} (h : 2 ≤ q.channel.toNat) : s.cancelCueTaken q = s.countBadPayload := by
  unfold State.cancelCueTaken
  rw [channelOf_none h]

/-! ### Payloads and their streams (R60, R89, R112) -/

variable {payload : List Byte}

/-- The stream that a payload names with its first byte. -/
theorem payloadStream_some {v : StreamIx} : payloadStream payload = some v ↔
    payload ≠ [] ∧ (byteAt payload 0).toNat = v.val := by
  cases payload with
  | nil => simp [payloadStream]
  | cons b bs => simp [payloadStream, byteAt, streamOf_some]

theorem audioTarget_some {v : StreamIx} {r : RingIx} : s.audioTarget payload = some (v, r) ↔
    payloadStream payload = some v ∧ s.audioRing v = some r := by
  unfold State.audioTarget
  cases payloadStream payload with
  | none => simp
  | some w =>
    simp only [Option.bind_some, Option.map_eq_some_iff, Prod.mk.injEq, Option.some.injEq]
    constructor
    · rintro ⟨r', h, rfl, rfl⟩
      exact ⟨rfl, h⟩
    · rintro ⟨rfl, h⟩
      exact ⟨r, h, rfl, rfl⟩

/-- R60: a payload of another length than its block count asks for, or with a block count outside 1..4. -/
theorem takeProgramAudio_bad {v : StreamIx} {r : RingIx} (ht : s.audioTarget payload = some (v, r))
    (h : payload.length ≠ 4 + 192 * (byteAt payload 1).toNat ∨ byteAt payload 1 = 0 ∨ 4 < (byteAt payload 1).toNat) :
    s.takeProgramAudio payload = s.countBadPayload := by
  unfold State.takeProgramAudio
  rw [ht]
  refine if_neg fun k => ?_
  obtain h | h | h := h
  · exact h k.2.2
  · rw [h] at k
    exact absurd k.1 (by decide)
  · omega

theorem takeProgramAudio_unused (h : s.audioTarget payload = none) :
    s.takeProgramAudio payload = s.countUnusedStream := by
  unfold State.takeProgramAudio
  rw [h]

/-- R89: an announcement payload of a wrong length, block count or channel. -/
theorem takeAnnounceAudio_bad (h : payload.length ≠ 4 + 96 * (byteAt payload 1).toNat ∨ 2 ≤ (byteAt payload 0).toNat ∨
    byteAt payload 1 = 0 ∨ 4 < (byteAt payload 1).toNat) : s.takeAnnounceAudio payload = s.countBadPayload := by
  unfold State.takeAnnounceAudio
  dsimp only
  split
  · rfl
  · next a ha =>
    refine if_neg fun k => ?_
    obtain h | h | h | h := h
    · exact h k.2.2
    · cases payload with
      | nil => cases ha
      | cons b bs =>
        have hb : channelOf b = none := channelOf_none h
        rw [List.head?_cons, Option.bind_some, hb] at ha
        cases ha
    · rw [h] at k
      exact absurd k.1 (by decide)
    · omega

theorem takeVideoSegment_bad (h : payload.length < 5 ∨ 1444 < payload.length) :
    s.takeVideoSegment payload = s.countBadPayload := if_pos h

theorem captionKind_none {k : Option StreamKind} :
    captionKind k = none ↔ k ≠ some .programVideo ∧ k ≠ some .captionVideo := by
  cases k with
  | none => simp [captionKind]
  | some k => cases k <;> simp [captionKind]

section
variable (h5 : 5 ≤ payload.length) (h1444 : payload.length ≤ 1444)
include h5 h1444

theorem takeVideoSegment_unused (h : s.videoTarget payload = none) :
    s.takeVideoSegment payload = s.countUnusedStream := by
  unfold State.takeVideoSegment
  rw [if_neg (by omega), h]

/-- R112: a segment for an open video stream, by its distance. -/
theorem takeVideoSegment_target {v : StreamIx} {caption : Bool} (h : s.videoTarget payload = some (v, caption)) :
    s.takeVideoSegment payload =
      if cycleDistance (wordAt payload 2) s.timer.cycle ≤ 0 then s.countStream v fun k => { k with late := bump k.late }
      else if 1000 < cycleDistance (wordAt payload 2) s.timer.cycle then
        s.countStream v fun k => { k with early := bump k.early }
      else s.replicate caption v (wordAt payload 2) (payload.drop 4) := by
  unfold State.takeVideoSegment
  rw [if_neg (by omega), h]

/-- R112: the stream of a payload that names an open video stream. -/
theorem videoTarget_some {v : StreamIx} (hv : (byteAt payload 0).toNat = v.val)
    (hk : s.streams[v].kind = some .programVideo ∨ s.streams[v].kind = some .captionVideo) :
    ∃ caption, s.videoTarget payload = some (v, caption) := by
  have hne : payload ≠ [] := by
    rintro rfl
    exact absurd h5 (by decide)
  unfold State.videoTarget
  rw [payloadStream_some.2 ⟨hne, hv⟩, Option.bind_some]
  obtain h | h := hk <;> rw [h]
  · exact ⟨false, rfl⟩
  · exact ⟨true, rfl⟩

end

theorem videoTarget_none (h : ∀ v : StreamIx, (byteAt payload 0).toNat = v.val →
    s.streams[v].kind ≠ some .programVideo ∧ s.streams[v].kind ≠ some .captionVideo) :
    s.videoTarget payload = none := by
  unfold State.videoTarget
  cases hp : payloadStream payload with
  | none => rfl
  | some v =>
    rw [Option.bind_some, captionKind_none.2 (h v (payloadStream_some.1 hp).2)]
    rfl

theorem audioTarget_none (h : payload = [] ∨ ∀ v : StreamIx, (byteAt payload 0).toNat = v.val →
    s.streams[v].kind ≠ some .programAudio) : s.audioTarget payload = none := by
  refine Option.eq_none_iff_forall_ne_some.2 fun x hx => ?_
  obtain ⟨hp, hr⟩ := (audioTarget_some s).1 hx
  obtain ⟨hne, hv⟩ := payloadStream_some.1 hp
  obtain h | h := h
  · exact hne h
  · exact h _ hv (State.audioRing_some.1 hr).1

end

/-! ### The rows -/

theorem effect_programAudio (s : State) (h : Header) (payload : List Byte) : effect (.programAudio h payload) s =
    s.takeMedia (parcelOf .programAudio h payload) fun s => s.takeProgramAudio payload := rfl

theorem effect_videoSegment (s : State) (h : Header) (payload : List Byte) : effect (.videoSegment h payload) s =
    s.takeMedia (parcelOf .videoSegment h payload) fun s => s.takeVideoSegment payload := rfl

/-- R60: the row of a media parcel in SERVICE. -/
theorem exec_media {s u : State} (hh : s.held = none) (hm : s.mgmt.mode = .service) {i : Instr} {p : Parcel}
    {take : State → State} (hi : effect i s = s.takeMedia p take) (ht : take (s.withParcel p) = u) :
    exec i s = .next u := by
  rw [exec_free hh, hi, takeMedia_service p take hm, State.receivedThrough_eq, ht]

/-- R59, R60: the row of a media parcel in CONFIGURATION. -/
theorem exec_media_configuration {s : State} (hh : s.held = none) (hm : s.mgmt.mode = .configuration) {i : Instr}
    {p : Parcel} {take : State → State} (hi : effect i s = s.takeMedia p take) :
    exec i s = .next ((s.withParcel p).countU fun k => { k with notInService := bump k.notInService }) := by
  rw [exec_free hh, hi, takeMedia_configuration p take hm, State.receivedThrough_eq]

end Sys2Proof.Machine

open Sys2Proof
open Sys2Proof.Machine

/-- Settles O11: every row by the check that its parcel fails. -/
theorem mediaNotTaken : Obligations.MediaNotTaken := by
  refine ⟨fun type q => ⟨rfl, rfl, cueBytes_words type q⟩, fun h payload cue s hh hm c p hcp => ?_,
    fun h s hh hm => ⟨fun payload => ?_, fun cue hq => ?_, fun cue hq => ⟨?_, ?_⟩, fun payload hl => ?_,
      fun payload h5 h1444 hv => ?_, fun payload v hv h5 h1444 hk => ⟨fun hd => ?_, fun hd => ?_⟩,
      fun payload v hne hv hk hr hb => ?_, fun payload hv => ?_, fun payload hb => ?_⟩,
    fun h elapsed lines payload s hh hl ht hsig => ?_⟩
  · simp only [List.mem_cons, Prod.mk.injEq, List.not_mem_nil, or_false] at hcp
    obtain ⟨rfl, rfl⟩ | ⟨rfl, rfl⟩ | ⟨rfl, rfl⟩ | ⟨rfl, rfl⟩ | ⟨rfl, rfl⟩ | ⟨rfl, rfl⟩ | ⟨rfl, rfl⟩ := hcp
    · exact exec_media_configuration hh hm (effect_programAudio s h payload)
    · exact exec_media_configuration hh hm (effect_videoSegment s h payload)
    · exact exec_media_configuration hh hm rfl
    · exact exec_media_configuration hh hm rfl
    · exact exec_media_configuration hh hm rfl
    · exact exec_media_configuration hh hm rfl
    · exact exec_media_configuration hh hm rfl
  · exact exec_media hh hm rfl rfl
  · exact exec_media hh hm rfl (startCueTaken_unlisted _ hq)
  · exact exec_media hh hm rfl (endCueTaken_unlisted _ hq)
  · exact exec_media hh hm rfl (cancelCueTaken_unlisted _ hq)
  · exact exec_media hh hm (effect_videoSegment s h payload) (takeVideoSegment_bad _ hl)
  · exact exec_media hh hm (effect_videoSegment s h payload)
      (takeVideoSegment_unused _ h5 h1444 (videoTarget_none _ hv))
  · obtain ⟨caption, htar⟩ := videoTarget_some (s.withParcel (parcelOf .videoSegment h payload)) h5 h1444 hv hk
    exact exec_media hh hm (effect_videoSegment s h payload)
      ((takeVideoSegment_target _ h5 h1444 htar).trans (if_pos hd))
  · obtain ⟨caption, htar⟩ := videoTarget_some (s.withParcel (parcelOf .videoSegment h payload)) h5 h1444 hv hk
    exact exec_media hh hm (effect_videoSegment s h payload) ((takeVideoSegment_target _ h5 h1444 htar).trans
      ((if_neg (by show ¬ cycleDistance _ s.timer.cycle ≤ 0; omega)).trans (if_pos hd)))
  · obtain ⟨r, hr⟩ := Option.isSome_iff_exists.1 hr
    exact exec_media hh hm (effect_programAudio s h payload) (takeProgramAudio_bad _
      ((audioTarget_some _).2 ⟨payloadStream_some.2 ⟨hne, hv⟩, State.audioRing_some.2 ⟨hk, hr⟩⟩) hb)
  · exact exec_media hh hm (effect_programAudio s h payload) (takeProgramAudio_unused _ (audioTarget_none _ hv))
  · exact exec_media hh hm rfl (takeAnnounceAudio_bad _ hb)
  · refine ⟨_, exec_cycleMark hh h elapsed lines payload, ?_⟩
    rw [State.passTime_holds (by show elapsed ≤ 1100 - _; omega) hsig]
    exact if_neg hl
end

section
/-! PROOF. What the operations on one channel record keep of its laws (R73, R82 to R89). -/

namespace Sys2Proof.Machine

/-! ### The law of the ring -/

/-- R73, R86: a block of sequence `q` lies where a ring from `e` on may hold it: within 255, and not beyond `last`. -/
def InReach (e : Word16) (last : Option Word16) (q : Word16) : Prop :=
  seqOffset q e ≤ 255 ∧ ∀ l, last = some l → (seqOffset q e : Int) ≤ cycleDistance l e

/-- R73: every block that the ring holds is filed under its sequence and lies in reach. -/
def Channel.Filed (ch : Channel) : Prop :=
  ∀ (i : Fin 256) (q : Word16) (blk : SpeechBlock), ch.ring[i] = some (q, blk) →
    i = speechSlot q ∧ InReach ch.nextSeq ch.lastSeq q

/-- R73: the ring holds no block. -/
def Channel.Hollow (ch : Channel) : Prop := ∀ i : Fin 256, ch.ring[i] = none

theorem Channel.Hollow.filed {ch : Channel} (h : ch.Hollow) : ch.Filed := fun i q blk hi => by
  rw [h i] at hi
  cases hi

/-- R73: what the state of a channel record says of its lead and its stall run. -/
structure Channel.Paced (ch : Channel) : Prop where
  led : ch.state = .lead → 1 ≤ ch.lead ∧ ch.lead ≤ 255
  unled : ch.state ≠ .lead → ch.lead = 0
  short : ch.stall < 200
  unstalled : ch.state ≠ .playing → ch.stall = 0

/-- R79: a busy channel has a class. -/
def Channel.Classed (ch : Channel) : Prop := ch.state ≠ .idle → ch.cls.isSome = true

theorem Channel.lawful_iff (ch : Channel) :
    ch.Lawful ↔ (ch.state = .idle → ch.Cleared) ∧ ch.Classed ∧ ch.Paced ∧ ch.Filed := by
  have filed : ∀ (i : Fin 256) (q : Word16), i.val = q.toNat % 256 ↔ i = speechSlot q := fun i q =>
    (Fin.ext_iff (b := speechSlot q)).symm
  unfold Channel.Lawful Channel.Filed InReach
  simp only [filed]
  exact ⟨fun ⟨h1, h2, h3, h4, h5, h6, h7⟩ => ⟨h1, h2, ⟨h3, h4, h5, h6⟩, h7⟩,
    fun ⟨h1, h2, ⟨h3, h4, h5, h6⟩, h7⟩ => ⟨h1, h2, h3, h4, h5, h6, h7⟩⟩

/-- A busy record is lawful when it has its class, its pace and a filed ring. -/
theorem Channel.lawful_busy {ch : Channel} (h : ch.state ≠ .idle) (hc : ch.Classed) (hp : ch.Paced) (hf : ch.Filed) :
    ch.Lawful :=
  ch.lawful_iff.2 ⟨fun k => absurd k h, hc, hp, hf⟩

/-- R88: the ring of an IDLE channel is empty. -/
theorem Channel.Lawful.hollow {ch : Channel} (h : ch.Lawful) (hi : ch.state = .idle) : ch.Hollow := by
  obtain ⟨-, -, -, -, -, -, -, -, hr⟩ := h.1 hi
  exact hr

/-! ### What is kept -/

/-- From `ch` to `ch'` the laws of a channel record are kept. -/
structure Channel.Kept (ch ch' : Channel) : Prop where
  lawful : ch.Lawful → ch'.Lawful
  classed : ch.Classed → ch'.Classed

namespace Channel.Kept

theorem refl (ch : Channel) : Kept ch ch := ⟨id, id⟩

theorem trans {x y z : Channel} (h : Kept x y) (k : Kept y z) : Kept x z :=
  ⟨k.lawful ∘ h.lawful, k.classed ∘ h.classed⟩

/-- R94: the counts are no part of the laws. -/
theorem counted (ch : Channel) (k : ChannelCounts) : Kept ch { ch with counts := k } := ⟨id, id⟩

/-- What keeps a busy record busy, with its class. -/
theorem of_busy {ch ch' : Channel} (hs : ch.state ≠ .idle) (hs' : ch'.state ≠ .idle) (hc : ch'.cls = ch.cls)
    (hp : ch.Paced → ch'.Paced) (hf : ch.Paced → ch.Filed → ch'.Filed) : Kept ch ch' := by
  have classed : ch.Classed → ch'.Classed := fun h _ => hc ▸ h hs
  refine ⟨fun h => ?_, classed⟩
  obtain ⟨-, h1, h2, h3⟩ := ch.lawful_iff.1 h
  exact lawful_busy hs' (classed h1) (hp h2) (hf h2 h3)

end Channel.Kept

/-- R88: a channel that has entered IDLE keeps the laws, whatever it was. -/
theorem Channel.idled_kept (ch x : Channel) : Channel.Kept ch x.idled := by
  have hr : ∀ i : Fin 256, x.idled.ring[i] = none := fun i => get_replicate_fin none i
  refine ⟨fun _ => Channel.lawful_iff _ |>.2 ⟨fun _ => ⟨rfl, rfl, rfl, rfl, rfl, rfl, rfl, rfl, hr⟩, ?_, ?_,
    Channel.Hollow.filed hr⟩, fun _ => ?_⟩
  · exact fun h => absurd rfl h
  · exact ⟨nofun, fun _ => rfl, (by decide : 0 < 200), fun _ => rfl⟩
  · exact fun h => absurd rfl h

/-! ### Lead and release (R81 to R83) -/

section
variable {ch : Channel}

/-- R83: a busy channel enters PLAYING. -/
theorem Channel.playing_kept (h : ch.state ≠ .idle) :
    Channel.Kept ch { ch with state := .playing, lead := 0, stall := 0, presented := .silence } :=
  .of_busy h nofun rfl (fun _ => ⟨nofun, fun _ => rfl, (by decide : 0 < 200), fun _ => rfl⟩) fun _ => id

/-- R82: a lead that is more than 1 is counted down. -/
theorem Channel.countedDown_kept (h : ch.state = .lead) (hl : ¬ ch.lead ≤ 1) :
    Channel.Kept ch { ch with lead := ch.lead - 1 } := by
  have busy : ch.state ≠ .idle := by rw [h]; exact nofun
  refine .of_busy busy busy rfl (fun hp => ⟨fun _ => ?_, fun hn => absurd h hn, hp.short, hp.unstalled⟩) fun _ => id
  have := hp.led h
  show 1 ≤ ch.lead - 1 ∧ ch.lead - 1 ≤ 255
  omega

/-- R82: a lead is an override or the lead of a class, so at most 255. -/
theorem Channel.leadUnder_le (ch : Channel) (classes : Vector ClassEntry 4) : ch.leadUnder classes ≤ 255 := by
  unfold Channel.leadUnder
  split
  · next m _ => omega
  · next c _ => omega
  · exact Nat.zero_le _

/-- R82, R83: a channel released from DUCKING. -/
theorem Channel.freed_kept (h : ch.state = .ducking) {n : Nat} (hn : n ≤ 255) : Channel.Kept ch (ch.freed n) := by
  have busy : ch.state ≠ .idle := by rw [h]; exact nofun
  unfold Channel.freed
  split
  · exact playing_kept busy
  · next h0 =>
    refine .of_busy busy nofun rfl
      (fun hp => ⟨fun _ => ⟨?_, hn⟩, fun k => absurd rfl k, hp.short, fun _ => ?_⟩) fun _ => id
    · exact Nat.one_le_iff_ne_zero.2 h0
    · exact hp.unstalled (by rw [h]; exact nofun)

/-! ### Play-out (R84 to R86) -/

/-- R84, R85: a gap below the stall limit. -/
theorem Channel.gapped_kept (h : ch.state = .playing) (hs : ch.stall < 199) (k : ChannelCounts) :
    Channel.Kept ch { ch with presented := .silence, stall := ch.stall + 1, counts := k } := by
  have busy : ch.state ≠ .idle := by rw [h]; exact nofun
  refine .of_busy busy busy rfl (fun hp => ⟨hp.led, hp.unled, ?_, fun k => absurd h k⟩) fun _ => id
  show ch.stall + 1 < 200
  omega

theorem seqOffset_eq (q e : Word16) : seqOffset q e = (q.toNat + 65536 - e.toNat) % 65536 := by
  unfold seqOffset
  have := q.isLt
  have := e.isLt
  rw [BitVec.toNat_sub]
  omega

/-- R84: behind the expected block every offset is one less. -/
theorem seqOffset_succ {q e : Word16} (h : q ≠ e) : seqOffset q (e + 1) + 1 = seqOffset q e := by
  have hne : q.toNat ≠ e.toNat := fun k => h (BitVec.eq_of_toNat_eq k)
  have hone : (1 : Word16).toNat = 1 := rfl
  have := q.isLt
  have := e.isLt
  simp only [seqOffset_eq, BitVec.toNat_add, hone]
  omega

/-- R6, R84: behind the expected block a distance that is not negative is one less. -/
theorem cycleDistance_behind {l e : Word16} (h : 0 ≤ cycleDistance l e) :
    cycleDistance l (e + 1) = cycleDistance l e - 1 := by
  have hl := cycleDistance_spec l e
  have hs := cycleDistance_spec l (e + 1)
  have hone : (e + 1).toNat = (e.toNat + 1) % 65536 := BitVec.toNat_add e 1
  omega

/-- R84, R86: every other block in reach stays so, since the last sequence lies as far on as the block itself. -/
theorem InReach.succ {q e : Word16} {last : Option Word16} (h : InReach e last q) (hne : q ≠ e) :
    InReach (e + 1) last q := by
  obtain ⟨h1, h2⟩ := h
  have hs := seqOffset_succ hne
  refine ⟨by omega, fun l k => ?_⟩
  have hl := h2 l k
  rw [cycleDistance_behind (by omega)]
  omega

/-- R84: the expected block presented. -/
theorem Channel.presented_kept (h : ch.state = .playing) (blk : SpeechBlock) :
    Channel.Kept ch { ch with
      presented := .block blk, ring := ch.ring.set (speechSlot ch.nextSeq) none
      nextSeq := ch.nextSeq + 1, stall := 0 } := by
  have busy : ch.state ≠ .idle := by rw [h]; exact nofun
  refine .of_busy busy busy rfl (fun hp => ⟨hp.led, hp.unled, (by decide : 0 < 200), fun _ => rfl⟩)
    fun _ hf i q b hi => ?_
  rw [get_set_fin] at hi
  split at hi
  · cases hi
  · next hne =>
    obtain ⟨hs, hr⟩ := hf i q b hi
    exact ⟨hs, hr.succ fun e => hne (hs.trans (congrArg speechSlot e))⟩

/-! ### Cues and blocks (R75 to R78, R86, R89) -/

/-- R77: a channel with an empty ring begins an announcement. -/
theorem Channel.begun_kept (h : ch.Lawful → ch.Hollow) (c : Class) (reach : BitVec 48) (q : CueBody) :
    Channel.Kept ch (ch.begun c reach q) :=
  ⟨fun hl => lawful_busy nofun (fun _ => rfl) ⟨nofun, fun _ => rfl, (by decide : 0 < 200), fun _ => rfl⟩
    (Hollow.filed (h hl)), fun _ _ => rfl⟩

/-- R78: what a preemption leaves of the record of a busy channel. -/
theorem Channel.cancelled_kept (h : ch.state ≠ .idle) :
    Channel.Kept ch { ch with ring := .empty, lastSeq := none } :=
  .of_busy h h rfl (fun hp => ⟨hp.led, hp.unled, hp.short, hp.unstalled⟩)
    fun _ _ => Hollow.filed fun i => get_replicate_fin none i

theorem beyond_some {e : Word16} {d : Int} {q : Word16} {blk : SpeechBlock} :
    beyond e d (some (q, blk)) = true ↔ d < (seqOffset q e : Int) := decide_eq_true_iff

/-- R86: the last sequence fixed, and the blocks beyond it discarded. -/
theorem Channel.bounded_kept (h : ch.state ≠ .idle) (l : Word16) (k : ChannelCounts) :
    Channel.Kept ch { ch with
      lastSeq := some l
      ring := Vector.ofFn fun i =>
        if beyond ch.nextSeq (cycleDistance l ch.nextSeq) ch.ring[i] then none else ch.ring[i]
      counts := k } := by
  refine .of_busy h h rfl (fun hp => ⟨hp.led, hp.unled, hp.short, hp.unstalled⟩) fun _ hf i q blk hi => ?_
  rw [get_ofFn_fin] at hi
  split at hi
  · cases hi
  · next hb =>
    obtain ⟨hs, hr, -⟩ := hf i q blk hi
    refine ⟨hs, hr, fun l' hl' => ?_⟩
    cases hl'
    rw [hi, beyond_some] at hb
    exact not_lt.1 hb

theorem Channel.inWindow_iff (ch : Channel) (q : Word16) :
    ch.inWindow q = true ↔ InReach ch.nextSeq ch.lastSeq q := by
  unfold Channel.inWindow InReach
  cases ch.lastSeq <;> simp

/-- R89: one block judged: stored in its empty slot, a duplicate, or stale. -/
theorem Channel.takeBlock_cases (ch : Channel) (q : Word16) (blk : SpeechBlock) :
    (ch.inWindow q = true ∧ ch.ring[speechSlot q] = none ∧ ch.takeBlock q blk = { ch with
      ring := ch.ring.set (speechSlot q) (some (q, blk))
      counts := { ch.counts with accepted := bump ch.counts.accepted } }) ∨
    (ch.inWindow q = true ∧ (ch.ring[speechSlot q]).isSome = true ∧ ch.takeBlock q blk = { ch with
      counts := { ch.counts with duplicate := bump ch.counts.duplicate } }) ∨
    (ch.inWindow q = false ∧ ch.takeBlock q blk = { ch with
      counts := { ch.counts with stale := bump ch.counts.stale } }) := by
  unfold Channel.takeBlock
  cases hw : ch.inWindow q with
  | false => exact .inr (.inr ⟨rfl, rfl⟩)
  | true =>
    rw [if_pos rfl]
    cases ch.ring[speechSlot q] with
    | none => exact .inl ⟨rfl, rfl, rfl⟩
    | some x => exact .inr (.inl ⟨rfl, rfl, rfl⟩)

/-- R89: a block of an announcement on a busy channel. -/
theorem Channel.takeBlock_kept (h : ch.state ≠ .idle) (q : Word16) (blk : SpeechBlock) :
    Channel.Kept ch (ch.takeBlock q blk) := by
  obtain ⟨hw, -, e⟩ | ⟨-, -, e⟩ | ⟨-, e⟩ := ch.takeBlock_cases q blk <;> rw [e]
  · refine .of_busy h h rfl (fun hp => ⟨hp.led, hp.unled, hp.short, hp.unstalled⟩) fun _ hf i x b hi => ?_
    rw [get_set_fin] at hi
    split at hi
    · next he =>
      cases hi
      exact ⟨he, (ch.inWindow_iff q).1 hw⟩
    · exact hf i x b hi
  · exact .counted ch _
  · exact .counted ch _

/-- R89: of the record a block writes ring and counts alone. -/
theorem Channel.takeBlock_only (ch : Channel) (q : Word16) (blk : SpeechBlock) : ch.takeBlock q blk =
    { ch with ring := (ch.takeBlock q blk).ring, counts := (ch.takeBlock q blk).counts } := by
  obtain ⟨-, -, e⟩ | ⟨-, -, e⟩ | ⟨-, e⟩ := ch.takeBlock_cases q blk <;> rw [e]

theorem Channel.takeBlocks_succ (ch : Channel) (payload : List Byte) (first : Word16) (k : Nat) :
    ch.takeBlocks payload first (k + 1) =
      (ch.takeBlocks payload first k).takeBlock (first + BitVec.ofNat 16 k) (speechBlockAt payload k) := by
  unfold Channel.takeBlocks
  rw [List.range_succ, List.foldl_append]
  rfl

/-- R89: of the record the blocks of a parcel write ring and counts alone. -/
theorem Channel.takeBlocks_only (ch : Channel) (payload : List Byte) (first : Word16) (k : Nat) :
    ch.takeBlocks payload first k = { ch with
      ring := (ch.takeBlocks payload first k).ring, counts := (ch.takeBlocks payload first k).counts } := by
  induction k with
  | zero => rfl
  | succ k ih => rw [takeBlocks_succ, takeBlock_only, ih]

theorem Channel.takeBlocks_kept (h : ch.state ≠ .idle) (payload : List Byte) (first : Word16) (k : Nat) :
    Channel.Kept ch (ch.takeBlocks payload first k) := by
  induction k with
  | zero => exact .refl ch
  | succ k ih =>
    rw [takeBlocks_succ]
    refine ih.trans (takeBlock_kept ?_ _ _)
    rw [takeBlocks_only]
    exact h

end

end Sys2Proof.Machine
end

section
/-! PROOF. The laws of the channel records and of governing over the operations of berths, channels and chains
(R20 to R26, R73 to R88, R97, R103): what each keeps of them. -/

namespace Sys2Proof.Machine

/-! ### An announcement begun (R75 to R77) -/

/-- R75 to R77: the state in which governing is settled for a new announcement: the berths woken, the record begun. -/
def State.cued (s : State) (a : ChannelIx) (c : Class) (q : CueBody) : State :=
  (s.mapBerths (wakeFor c (s.zoneAt q.zone) (stopOf q.stop))).modChannel a fun ch =>
    ch.begun c (s.snapshot c (s.zoneAt q.zone) (stopOf q.stop)) q

section
variable (s : State) (a : ChannelIx) (c : Class) (q : CueBody)

theorem State.beginAnnouncement_eq : s.beginAnnouncement a c q = (s.cued a c q).settleGoverning := rfl

theorem State.cued_berth (b : BerthIx) :
    (s.cued a c q).berths[b] = wakeFor c (s.zoneAt q.zone) (stopOf q.stop) b s.berths[b] := by
  unfold State.cued
  rw [State.modChannel_berths, State.mapBerths_get]

theorem State.cued_channel (a' : ChannelIx) : (s.cued a c q).channels[a'] =
    if a' = a then s.channels[a].begun c (s.snapshot c (s.zoneAt q.zone) (stopOf q.stop)) q else s.channels[a'] := by
  unfold State.cued
  rw [State.modChannel_get, State.mapBerths_channels]

end

/-- R78: of the channels a preemption empties ring and last sequence of one. -/
theorem State.cancelForPreemption_channel (s : State) (a a' : ChannelIx) :
    (s.cancelForPreemption a).channels[a'] =
      if a' = a then { s.channels[a] with ring := .empty, lastSeq := none } else s.channels[a'] := by
  unfold State.cancelForPreemption
  rw [State.mapBerths_channels, State.modChannel_get]

/-! ### The relation -/

/-- R79, R103: a berth that is not PRESENT is not governed, and a ducked mark stands on a governed berth alone. -/
structure Berth.Marked (r : Berth) : Prop where
  others : r.presence ≠ .present → r.governing = none
  marks : r.ducked = true → r.governing.isSome = true

theorem governingLaw_iff (s : State) : GoverningLaw s ↔
    (∀ a : ChannelIx, s.channels[a].Classed) ∧ (∀ b : BerthIx, s.berths[b].Marked) ∧ Governed s :=
  ⟨fun h => ⟨h.1, fun b => ⟨(h.2 b).2.1, (h.2 b).2.2⟩, governed_of_law h⟩,
    fun ⟨h1, h2, h3⟩ => ⟨h1, fun b => ⟨fun hp => h3.governs hp, (h2 b).others, (h2 b).marks⟩⟩⟩

/-- What a berth keeps that does not become PRESENT and is not governed anew. -/
structure Berth.Stands (r r' : Berth) : Prop where
  marked : r.Marked → r'.Marked
  governing : r'.presence = .present → r.presence = .present ∧ r'.governing = r.governing

namespace Berth.Stands

theorem refl (r : Berth) : Stands r r := ⟨id, fun h => ⟨h, rfl⟩⟩

/-- Presence and governing stay, and no mark appears but on a governed berth. -/
theorem of_eq {r r' : Berth} (hp : r'.presence = r.presence) (hg : r'.governing = r.governing)
    (hd : r'.ducked = true → r.ducked = true ∨ r.governing.isSome = true) : Stands r r' := by
  refine ⟨fun h => ⟨fun hn => ?_, fun hk => ?_⟩, fun h => ⟨hp ▸ h, hg⟩⟩
  · rw [hg]
    exact h.others (hp ▸ hn)
  · rw [hg]
    exact (hd hk).elim h.marks id

end Berth.Stands

/-- From `s` to `t` the laws of the channel records are kept, and those of governing. -/
structure SpeechKept (s t : State) : Prop where
  channels : ∀ a : ChannelIx, Channel.Kept s.channels[a] t.channels[a]
  marks : ∀ b : BerthIx, s.berths[b].Marked → t.berths[b].Marked
  governed : Governed s → Governed t

namespace SpeechKept

theorem channelLaw {s t : State} (h : SpeechKept s t) (hs : ChannelLaw s) : ChannelLaw t :=
  fun a => (h.channels a).lawful (hs a)

theorem governingLaw {s t : State} (h : SpeechKept s t) (hs : GoverningLaw s) : GoverningLaw t := by
  obtain ⟨h1, h2, h3⟩ := (governingLaw_iff s).1 hs
  exact (governingLaw_iff t).2 ⟨fun a => (h.channels a).classed (h1 a), fun b => h.marks b (h2 b), h.governed h3⟩

theorem refl (s : State) : SpeechKept s s := ⟨fun _ => .refl _, fun _ => id, id⟩

theorem trans {s t u : State} (h : SpeechKept s t) (k : SpeechKept t u) : SpeechKept s u :=
  ⟨fun a => (h.channels a).trans (k.channels a), fun b => k.marks b ∘ h.marks b, k.governed ∘ h.governed⟩

theorem ite {s t u : State} {c : Prop} [Decidable c] (h : c → SpeechKept s t) (k : SpeechKept s u) :
    SpeechKept s (if c then t else u) := by
  split
  · next hc => exact h hc
  · exact k

theorem foldl {ι : Type} {f : State → ι → State} (h : ∀ s i, SpeechKept s (f s i)) (l : List ι) (s : State) :
    SpeechKept s (l.foldl f s) := by
  induction l generalizing s with
  | nil => exact refl s
  | cons i is ih => exact (h s i).trans (ih _)

/-- What writes berths, governs none anew and writes no channel. -/
theorem of_berths {fs : List StateField} {s t : State} (h : Same fs s t) (hf : StateField.channels ∉ fs)
    (hb : ∀ b : BerthIx, Berth.Stands s.berths[b] t.berths[b]) : SpeechKept s t := by
  have hc := h.channels hf
  refine ⟨fun a => ?_, fun b => (hb b).marked, fun hg b hp => ?_⟩
  · rw [hc]
    exact .refl _
  · obtain ⟨hp', e⟩ := (hb b).governing hp
    rw [e, hg b hp']
    exact (chooseGoverning_congr (fun a b => by rw [hc]) b).symm

/-- What writes nothing that the laws read. -/
theorem of_same {fs : List StateField} {s t : State} (h : Same fs s t)
    (hf : ∀ f ∈ [StateField.berths, .channels], f ∉ fs) : SpeechKept s t :=
  of_berths h (hf _ (by decide)) fun b => by
    rw [h.berths (hf _ (by decide))]
    exact .refl _

theorem mapBerths (s : State) {f : BerthIx → Berth → Berth} (h : ∀ b r, Berth.Stands r (f b r)) :
    SpeechKept s (s.mapBerths f) :=
  of_berths (State.mapBerths_same s f) (by decide) fun b => by
    rw [State.mapBerths_get]
    exact h b _

theorem modBerth (s : State) (b : BerthIx) {f : Berth → Berth} (h : Berth.Stands s.berths[b] (f s.berths[b])) :
    SpeechKept s (s.modBerth b f) :=
  of_berths (State.modBerth_same s b f) (by decide) fun b' => by
    rw [State.modBerth_get]
    split
    · next e => exact e ▸ h
    · exact .refl _

/-! ### Channels and governing (R79 to R88) -/

/-- The records after one of them changed. -/
theorem modChannel_channels (s : State) (a : ChannelIx) {f : Channel → Channel}
    (h : Channel.Kept s.channels[a] (f s.channels[a])) (a' : ChannelIx) :
    Channel.Kept s.channels[a'] (s.modChannel a f).channels[a'] := by
  rw [State.modChannel_get]
  split
  · next e => exact e ▸ h
  · exact .refl _

/-- R79: a change of a record that claims what it claimed. -/
theorem modChannel (s : State) (a : ChannelIx) {f : Channel → Channel}
    (h : Channel.Kept s.channels[a] (f s.channels[a])) (hc : ∀ b, (f s.channels[a]).claim b = s.channels[a].claim b)
    (hl : (f s.channels[a]).cls = s.channels[a].cls) : SpeechKept s (s.modChannel a f) :=
  ⟨modChannel_channels s a h, fun _ => id, fun hg => governed_modChannel hg a hc hl⟩

theorem countChannel (s : State) (a : ChannelIx) (f : ChannelCounts → ChannelCounts) :
    SpeechKept s (s.countChannel a f) := modChannel s a (.counted _ _) (fun _ => rfl) rfl

/-- R79: governing recomputed leaves the marks as the law has them, since a mark stays with the governing channel. -/
theorem regoverned_marked (s : State) (b : BerthIx) {r : Berth} (h : r.Marked) : (s.regoverned b r).Marked := by
  have hd := regoverned_ducked s b r
  refine ⟨fun hp => ?_, fun hk => ?_⟩
  · rw [regoverned_only] at hp
    unfold State.regoverned
    rw [if_neg hp]
    exact h.others hp
  · obtain ⟨hk, e⟩ := hd.1 hk
    rw [e]
    exact h.marks hk

/-- R79: whatever changed before it, governing recomputed is as the rule says. -/
theorem recomputed {s u : State} (hc : ∀ a : ChannelIx, Channel.Kept s.channels[a] u.channels[a])
    (hm : ∀ b : BerthIx, s.berths[b].Marked → u.berths[b].Marked) : SpeechKept s u.recomputeGoverning := by
  refine ⟨fun a => ?_, fun b h => ?_, fun _ => governed_recompute u⟩
  · rw [(State.recomputeGoverning_same u).channels (by decide)]
    exact hc a
  · rw [recomputeGoverning_get]
    exact regoverned_marked u b (hm b h)

theorem evaluateRelease (s : State) (a : ChannelIx) : SpeechKept s (s.evaluateRelease a) := by
  refine ite (fun h => ?_) (refl s)
  rw [State.enterLead_eq, State.leadOf_eq]
  exact recomputed (modChannel_channels s a (Channel.freed_kept h.1 (Channel.leadUnder_le _ _))) fun _ => id

theorem evaluateReleases (s : State) : SpeechKept s s.evaluateReleases :=
  (evaluateRelease s 0).trans (evaluateRelease _ 1)

/-- R79, R81: whatever changed before it, governing settled is as the rule says. -/
theorem settled {s u : State} (hc : ∀ a : ChannelIx, Channel.Kept s.channels[a] u.channels[a])
    (hm : ∀ b : BerthIx, s.berths[b].Marked → u.berths[b].Marked) : SpeechKept s u.settleGoverning :=
  (recomputed hc hm).trans (evaluateReleases _)

theorem settleGoverning (s : State) : SpeechKept s s.settleGoverning := settled (fun _ => .refl _) fun _ => id

/-- R88: channel `a` enters IDLE, whatever became of its own record before. -/
theorem entersIdle {s u : State} {a : ChannelIx} (hb : u.berths = s.berths)
    (hc : ∀ a' : ChannelIx, a' ≠ a → u.channels[a'] = s.channels[a']) : SpeechKept s (u.enterIdle a) := by
  refine SpeechKept.trans (recomputed (fun a' => ?_) fun b h => ?_) (evaluateRelease _ _)
  · rw [State.modChannel_get]
    split
    · exact Channel.idled_kept _ _
    · next hne =>
      rw [hc a' hne]
      exact .refl _
  · rw [State.modChannel_berths, hb]
    exact h

theorem enterIdle (s : State) (a : ChannelIx) : SpeechKept s (s.enterIdle a) := entersIdle rfl fun _ _ => rfl

theorem idleChannel (s : State) (a : ChannelIx) : SpeechKept s (s.idleChannel a) :=
  ite (fun _ => enterIdle s a) (refl s)

/-! ### The start of a cycle (R82 to R86) -/

theorem gapped_other (s : State) {a a' : ChannelIx} (h : a' ≠ a) : (s.gapped a).channels[a'] = s.channels[a'] := by
  unfold State.gapped
  rw [State.modChannel_get, if_neg h]

/-- R85: a gap, or the stall that it completes. -/
theorem presentGap {s : State} {a : ChannelIx} (h : s.channels[a].state = .playing) :
    SpeechKept s (s.presentGap a) := by
  by_cases hs : s.channels[a].stall < 199
  · rw [State.presentGap_short hs]
    exact modChannel s a (Channel.gapped_kept h hs _) (fun _ => rfl) rfl
  · rw [State.presentGap_stall (not_lt.1 hs)]
    exact entersIdle rfl fun a' hne => gapped_other s hne

theorem presentSpeech {s : State} {a : ChannelIx} (h : s.channels[a].state = .playing) :
    SpeechKept s (s.presentSpeech a) := by
  refine ite (fun _ => enterIdle s a) ?_
  split
  · exact modChannel s a (Channel.presented_kept h _) (fun _ => rfl) rfl
  · exact presentGap h

theorem countLead {s : State} {a : ChannelIx} (h : s.channels[a].state = .lead) : SpeechKept s (s.countLead a) := by
  unfold State.countLead
  split
  · exact recomputed (modChannel_channels s a (Channel.playing_kept (by rw [h]; exact nofun))) fun _ => id
  · next hl => exact modChannel s a (Channel.countedDown_kept h hl) (fun _ => rfl) rfl

/-- R82, R84: the work of a channel that is still in the state in which the start of the cycle found it. -/
theorem channelCycle {s : State} {a : ChannelIx} {st : ChannelState} (h : st ≠ .ducking → s.channels[a].state = st) :
    SpeechKept s (s.channelCycle a st) := by
  cases st with
  | lead => exact countLead (h nofun)
  | playing => exact presentSpeech (h nofun)
  | idle => exact refl s
  | ducking => exact refl s

/-- R82 to R86: the work of a channel changes the other only by its release from DUCKING. -/
theorem channelCycle_other (s : State) {a : ChannelIx} (st : ChannelState)
    (h : s.channels[otherChannel a].state ≠ .ducking) :
    (s.channelCycle a st).channels[otherChannel a] = s.channels[otherChannel a] := by
  have written : ∀ f, (s.modChannel a f).channels[otherChannel a] = s.channels[otherChannel a] := fun f => by
    rw [State.modChannel_get, if_neg (otherChannel_ne a)]
  cases st with
  | lead =>
    show (s.countLead a).channels[otherChannel a] = _
    unfold State.countLead
    split
    · exact (enterPlaying_spec s a).2.1 _ (otherChannel_ne a)
    · exact written _
  | playing =>
    show (s.presentSpeech a).channels[otherChannel a] = _
    have idle : (s.enterIdle a).channels[otherChannel a] = s.channels[otherChannel a] := (enterIdle_spec s a).2.1 h
    unfold State.presentSpeech
    dsimp only
    split
    · exact idle
    · split
      · exact written _
      · by_cases hs : s.channels[a].stall < 199
        · rw [State.presentGap_short hs]
          exact written _
        · rw [State.presentGap_stall (not_lt.1 hs)]
          have e : ((s.gapped a).latchStall a).channels[otherChannel a] = s.channels[otherChannel a] :=
            gapped_other s (otherChannel_ne a)
          rw [(enterIdle_spec _ a).2.1 (by rw [e]; exact h), e]
  | idle => rfl
  | ducking => rfl

theorem channelsCycle (s : State) : SpeechKept s s.channelsCycle := by
  refine ite (fun _ => (channelCycle (a := 0) fun _ => rfl).trans (channelCycle (a := 1) fun h => ?_)) (refl s)
  exact congrArg Channel.state (channelCycle_other s (a := 0) _ h)

/-! ### Cues and announcement audio (R74 to R78, R86, R87, R89) -/

theorem woken_stands (r : Berth) : Berth.Stands r r.woken := by
  rw [r.woken_only]
  exact .of_eq rfl rfl .inl

/-- R76: the wakes of a cue. -/
theorem wakeFor_stands (c : Class) (zone : BitVec 48) (stop : Option (Fin 64)) (b : BerthIx) (r : Berth) :
    Berth.Stands r (wakeFor c zone stop b r) := by
  unfold wakeFor
  split
  · split
    · exact woken_stands r
    · exact .refl r
  · split
    · obtain ⟨hm, hg⟩ := woken_stands r
      exact ⟨fun h => ⟨(hm h).others, (hm h).marks⟩, hg⟩
    · exact .refl r
  · exact .refl r
  · exact .refl r

theorem beginAnnouncement {s : State} {a : ChannelIx} (h : s.channels[a].Lawful → s.channels[a].Hollow) (c : Class)
    (q : CueBody) : SpeechKept s (s.beginAnnouncement a c q) := by
  rw [State.beginAnnouncement_eq]
  refine settled (fun a' => ?_) fun b => ?_
  · rw [State.cued_channel]
    split
    · next e => exact e ▸ Channel.begun_kept h c _ q
    · exact .refl _
  · rw [State.cued_berth]
    exact (wakeFor_stands _ _ _ b _).marked

/-- R78: a preemption empties the ring and clears ducked marks. -/
theorem cancelForPreemption {s : State} {a : ChannelIx} (h : s.channels[a].state ≠ .idle) :
    SpeechKept s (s.cancelForPreemption a) :=
  (modChannel s a (Channel.cancelled_kept h) (fun _ => rfl) rfl).trans (mapBerths _ fun _ r => by
    split
    · exact .of_eq rfl rfl nofun
    · exact .refl r)

/-- R78: the ring of a preempted channel is empty. -/
theorem cancelForPreemption_hollow (s : State) (a : ChannelIx) : (s.cancelForPreemption a).channels[a].Hollow := by
  rw [State.cancelForPreemption_channel, if_pos rfl]
  exact fun i => get_replicate_fin none i

theorem refuseCue (s : State) (a : ChannelIx) : SpeechKept s (s.refuseCue a) := countChannel s a _

theorem takeStart (s : State) (a : ChannelIx) (c : Class) (q : CueBody) : SpeechKept s (s.takeStart a c q) := by
  unfold State.takeStart
  split
  · next hi => exact beginAnnouncement (fun h => h.hollow hi) c q
  · exact refuseCue s a
  · next hi =>
    exact ite (fun _ => (cancelForPreemption hi).trans
      (beginAnnouncement (fun _ => cancelForPreemption_hollow s a) c q)) (refuseCue s a)

theorem busy_iff (ch : Channel) : ch.busy = true ↔ ch.state ≠ .idle := by
  unfold Channel.busy
  exact bne_iff_ne

theorem takeEnd (s : State) (a : ChannelIx) (l : Word16) : SpeechKept s (s.takeEnd a l) :=
  ite (fun h => ite (fun _ => enterIdle s a)
    (modChannel s a (Channel.bounded_kept ((busy_iff _).1 h.1) l _) (fun _ => rfl) rfl)) (refuseCue s a)

theorem takeCancel (s : State) (a : ChannelIx) : SpeechKept s (s.takeCancel a) :=
  ite (fun _ => enterIdle s a) (refuseCue s a)

theorem countU (s : State) (f : UpstreamCounts → UpstreamCounts) : SpeechKept s (s.countU f) :=
  of_same (State.countU_same s f) (by decide)

theorem startCueTaken (q : CueBody) (s : State) : SpeechKept s (s.startCueTaken q) := by
  unfold State.startCueTaken
  split
  · exact ite (fun _ => takeStart s _ _ q) (countU s _)
  · exact countU s _

theorem endCueTaken (q : CueBody) (s : State) : SpeechKept s (s.endCueTaken q) := by
  unfold State.endCueTaken
  split
  · exact takeEnd s _ _
  · exact countU s _

theorem cancelCueTaken (q : CueBody) (s : State) : SpeechKept s (s.cancelCueTaken q) := by
  unfold State.cancelCueTaken
  split
  · exact takeCancel s _
  · exact countU s _

theorem takeAnnounceAudio (payload : List Byte) (s : State) : SpeechKept s (s.takeAnnounceAudio payload) := by
  unfold State.takeAnnounceAudio
  dsimp only
  split
  · exact countU s _
  · refine ite (fun _ => ite (fun h => ?_) (countChannel s _ _)) (countU s _)
    refine modChannel s _ (Channel.takeBlocks_kept ((busy_iff _).1 h) _ _ _) (fun b => ?_) ?_
    · rw [Channel.takeBlocks_only]
      rfl
    · rw [Channel.takeBlocks_only]

/-! ### Berths (R20 to R26, R97, R103) -/

/-- R23: a JOINING berth that becomes PRESENT. -/
theorem becomePresent (s : State) (b : BerthIx) : SpeechKept s (s.becomePresent b) := by
  rw [State.becomePresent_eq]
  have settles : SpeechKept s (s.entered b).settleGoverning := settled (fun _ => .refl _) fun b' h => ?_
  · exact settles.trans (of_same (State.countChain_same _ _ _) (by decide))
  rw [State.entered_get]
  split
  · next e =>
    subst e
    unfold State.arrived
    split
    · exact ⟨fun k => absurd rfl k, nofun⟩
    · exact ⟨fun k => absurd rfl k, h.marks⟩
  · exact h

/-- R24: a berth that enters ABSENT. -/
theorem enterAbsent (s : State) (b : BerthIx) : SpeechKept s (s.enterAbsent b) := by
  unfold State.enterAbsent
  split
  · exact refl s
  · next hj =>
    refine modBerth s b ⟨fun h => ⟨fun _ => ?_, h.marks⟩, nofun⟩
    exact h.others (by rw [hj]; exact nofun)
  · have h1 : SpeechKept s (s.modBerth b Berth.lost) := modBerth s b ⟨fun _ => ⟨fun _ => rfl, nofun⟩, nofun⟩
    have h2 := h1.trans (of_same (same_set_calls _ ((s.modBerth b Berth.lost).calls.filter (· ≠ b))) (by decide))
    exact (((h2.trans (settleGoverning _)).trans (of_same (State.queryTargetAbsent_same _ _ _) (by decide))).trans
      (of_same (State.latchPresence_same _ _) (by decide))).trans (of_same (State.countChain_same _ _ _) (by decide))

theorem advanceValid (s : State) (b : BerthIx) : SpeechKept s (s.advanceValid b) := by
  unfold State.advanceValid
  split
  · next ha =>
    refine modBerth s b ⟨fun h => ⟨fun _ => ?_, h.marks⟩, nofun⟩
    exact h.others (by rw [ha]; exact nofun)
  · exact ite (fun _ => modBerth s b (.of_eq rfl rfl .inl)) (becomePresent s b)
  · exact modBerth s b (.of_eq rfl rfl .inl)

theorem advanceMissing (s : State) (b : BerthIx) : SpeechKept s (s.advanceMissing b) := by
  unfold State.advanceMissing
  split
  · exact refl s
  · exact enterAbsent s b
  · exact ite (fun _ => modBerth s b (.of_eq rfl rfl .inl)) (enterAbsent s b)

theorem countChain (s : State) (c : ChainIx) (f : ChainCounts → ChainCounts) : SpeechKept s (s.countChain c f) :=
  of_same (State.countChain_same s c f) (by decide)

/-- R30, R31: a key writes no presence, governing or mark. -/
theorem takeKey (s : State) (b : BerthIx) (w : Bool) (code : Byte) : SpeechKept s (s.takeKey b w code) := by
  refine ite (fun _ => refl s) ?_
  split
  · next k _ =>
    have h : SpeechKept s ((s.modBerth b (s.keyed k)).countChain (chainOf b)
        fun n => { n with keysApplied := bump n.keysApplied }) := by
      refine (modBerth s b ?_).trans (countChain _ _ _)
      rw [s.keyed_only k]
      exact .of_eq rfl rfl .inl
    exact ite (fun _ => h.trans (of_same (State.placeCall_same _ b) (by decide))) h
  · exact countChain s _ _

theorem takeReturn (s : State) (b : BerthIx) (j : Bool) (r : ReturnData) : SpeechKept s (s.takeReturn b j r) := by
  have status : ∀ s : State, SpeechKept s (s.recordStatus b r.headphone r.unitFault) := fun s => by
    unfold State.recordStatus
    refine (modBerth s b ?_).trans (countChain _ _ _)
    exact .of_eq rfl rfl .inl
  exact ((((advanceValid s b).trans (ite (fun _ => refl _) (status _))).trans (takeKey _ b _ _)).trans
    (takeKey _ b _ _)).trans (of_same (State.takeToken_same _ _ _ _ _ _) (by decide))

/-- R103: the mixer sets a mark on governed berths alone. -/
theorem mix (s : State) : SpeechKept s s.mix :=
  of_berths (State.mix_same s) (by decide) fun b => by
    rw [State.mix_get]
    split
    · refine .of_eq rfl rfl fun h => .inr ?_
      have h : s.nextDucked s.berths[b] = true := h
      unfold State.nextDucked State.governingEntry State.governingClass at h
      cases hg : s.berths[b].governing with
      | none =>
        rw [hg] at h
        cases h
      | some a => rfl
    · exact .refl _

/-- R34: a tick of an idle timer. -/
theorem ticked_stands (r : Berth) : Berth.Stands r r.ticked := by
  by_cases ha : r.awake = .asleep
  · have e : r.ticked = r := by
      unfold Berth.ticked
      rw [ha]
    rw [e]
    exact .refl r
  · rw [Berth.ticked_eq ha]
    exact .of_eq rfl rfl .inl

theorem idleTick (s : State) : SpeechKept s s.idleTick :=
  ite (fun _ => mapBerths s fun _ r => by
    split
    · exact ticked_stands r
    · exact .refl r) (refl s)

/-- R43: an evaluated berth has another regime and other settings at most. -/
theorem evaluated_stands (s : State) (r : Berth) : Berth.Stands r (s.evaluated r) := by
  rw [State.evaluated_eq]
  exact .of_eq rfl rfl .inl

theorem evaluateAll (s : State) : SpeechKept s s.evaluateAll :=
  (mapBerths s fun _ => evaluated_stands s).trans (of_same (State.countPart_same _ _) (by decide))

theorem quietHandOver (s : State) (qa qb : Bool) : SpeechKept s (s.quietHandOver qa qb) :=
  ite (fun _ => refl s) ((of_same (State.countPart_same s _) (by decide)).trans (evaluateAll _))

/-! ### Return windows and links (R128, R129, R134) -/

theorem takeSlot (s : State) (c : ChainIx) (j : Bool) (p : PosIx) (x : Option SlotBytes) :
    SpeechKept s (s.takeSlot c j p x) := by
  unfold State.takeSlot
  split
  · exact (countChain s c _).trans (advanceMissing _ _)
  · exact (countChain s c _).trans (advanceMissing _ _)
  · exact (countChain s c _).trans (takeReturn _ _ _ _)

theorem modChain (s : State) (c : ChainIx) (f : Chain → Chain) : SpeechKept s (s.modChain c f) :=
  of_same (State.modChain_same s c f) (by decide)

theorem returnWindow (s : State) (c : ChainIx) (x : ReturnSlots) : SpeechKept s (s.returnWindow c x) := by
  unfold State.returnWindow
  split
  · exact refl s
  · exact ((modChain s c _).trans (foldl (fun s p => takeSlot s c _ p x[p]) _ _)).trans
      (of_same (State.countWindow_same _ _ _) (by decide))

theorem closeSuperseded (s : State) (c : ChainIx) : SpeechKept s (s.closeSuperseded c) :=
  foldl (fun s _ => returnWindow s c _) _ s

theorem closeWith (s : State) (r : WindowReturn) : SpeechKept s (s.closeWith r) :=
  ite (fun _ => returnWindow s _ _) (refl s)

theorem closeAllSuperseded (s : State) (rs : List WindowReturn) : SpeechKept s (s.closeAllSuperseded rs) :=
  (foldl closeWith rs s).trans (foldl closeSuperseded _ _)

theorem frameDone (s : State) (r : WindowReturn) : SpeechKept s (s.frameDone r) := by
  unfold State.frameDone
  split
  · exact refl s
  · exact modChain s _ _
  · exact ((modChain s _ _).trans (closeWith _ r)).trans (closeSuperseded _ _)

theorem chainStops (s : State) (c : ChainIx) : SpeechKept s (s.chainStops c) :=
  (((modChain s c _).trans (of_same (State.discardQueries_same _ c) (by decide))).trans
    (foldl (fun s _ => enterAbsent s _) _ _)).trans (of_same (State.flush_same _ c) (by decide))

theorem chainLineLost (s : State) (c : ChainIx) : SpeechKept s (s.chainLineLost c) := by
  have line : SpeechKept s (s.setChainLine c false) := of_same (State.setChainLine_same s c false) (by decide)
  exact ite (fun _ => line.trans (((modChain _ c _).trans (chainStops _ c)).trans (countChain _ c _))) line

/-! ### Cycle starts and time (R1, R4, R14, R41) -/

theorem mixAndRelease (s : State) : SpeechKept s s.mixAndRelease :=
  (mix s).trans (ite (fun _ => evaluateReleases _) (refl _))

theorem tickAndChannels (s : State) (t f : Bool) : SpeechKept s (s.tickAndChannels t f) :=
  ite (fun _ => ite (fun _ => (idleTick s).trans (channelsCycle _)) ((channelsCycle s).trans (idleTick _)))
    (channelsCycle s)

theorem cycleWork (s : State) (n : Word16) (t qa qb : Bool) (p : Fin 5) (f : Bool) :
    SpeechKept s (s.cycleWork n t qa qb p f) := by
  have quiet : ∀ (s : State) (c : Prop) [Decidable c], SpeechKept s (if c then s.quietHandOver qa qb else s) :=
    fun s _ _ => ite (fun _ => quietHandOver s qa qb) (refl s)
  have rings : ∀ s : State, SpeechKept s (s.presentRings n) := fun s =>
    of_same (State.presentRings_same s n) (by decide)
  have chains : ∀ s : State, SpeechKept s (s.chainsCycle n) := fun s => of_same (State.chainsCycle_same s n) (by decide)
  have h1 := (quiet s (p = 0)).trans ((rings _).trans (tickAndChannels _ (t && p != 2) f))
  have h2 := (h1.trans (quiet _ (p = 1))).trans (mixAndRelease _)
  have h3 := (h2.trans (quiet _ (p = 2 ∨ p = 3))).trans
    (ite (c := (t && p == 2) = true) (fun _ => idleTick _) (refl _))
  exact (h3.trans (chains _)).trans (quiet _ (p = 4))

theorem startCycle (s : State) (n : Word16) (k : Bool) (l : LineSample) : SpeechKept s (s.startCycle n k l) := by
  have h : SpeechKept s (s.runCycle n k l) := by
    rw [State.runCycle_eq]
    exact (of_same (State.cycleOpened_fields s n k l).1 (by decide)).trans (cycleWork _ _ _ _ _ _ _)
  exact h.trans (closeAllSuperseded _ _)

theorem selfStart (s : State) (l : LineSample) : SpeechKept s (s.selfStart l) :=
  ((of_same (State.missMark_same s) (by decide)).trans (of_same (State.countPart_same _ _) (by decide))).trans
    (startCycle _ _ _ _)

theorem received (s : State) (p : Parcel) : SpeechKept s (s.receivedU.queueThrough p) :=
  of_same (State.receivedThrough_same s p) (by decide)

theorem takeMarkParcel (s : State) (h : Header) (l : LineSample) (p : List Byte) :
    SpeechKept s (s.takeMarkParcel h l p) := by
  have count : ∀ (s : State) f, SpeechKept s (s.countPart f) := fun s f =>
    of_same (State.countPart_same s f) (by decide)
  have taken : ∀ (s : State) (n : Word16), SpeechKept s (s.takeMark n l) := fun s n =>
    ite (fun _ => ((of_same (State.modTimer_same s _) (by decide)).trans (count _ _)).trans (startCycle _ _ _ _))
      (count s _)
  exact (received s _).trans (ite (fun _ => taken _ _) (countU _ _))

theorem takeDue (s : State) : SpeechKept s s.takeDue := by
  have fails : ∀ s : State, SpeechKept s s.backboneFails := fun s => of_same (State.backboneFails_same s) (by decide)
  have drawn : SpeechKept s s.drawn := of_same (same_set_draws s _) (by decide)
  obtain ⟨-, -, e⟩ | ⟨-, -, e⟩ | ⟨-, -, e⟩ | ⟨-, -, e | e⟩ := s.takeDue_cases <;> rw [e]
  · exact refl s
  · exact fails s
  · exact selfStart s _
  · exact (drawn.trans (fails _)).trans (selfStart _ _)
  · exact (drawn.trans (selfStart _ _)).trans (fails _)

theorem passTime (s : State) (d : Nat) : SpeechKept s (s.passTime d) := by
  have advance : ∀ (s : State) (d : Nat), SpeechKept s (s.advanceTime d) := fun s d =>
    of_same (State.advanceTime_same s d) (by decide)
  induction s, d using State.passTime_induction with
  | stop s d hd =>
    rw [passTime_free hd]
    exact advance s d
  | due s d hd ih =>
    rw [State.passTime_due hd]
    exact ((advance s _).trans (takeDue _)).trans ih

theorem signalGone (s : State) : SpeechKept s s.signalGone := by
  unfold State.signalGone
  split
  · exact refl s
  · exact refl s
  · exact (passTime s _).trans (of_same (State.backboneFails_same _) (by decide))

theorem secondsTick (s : State) (v : Int) : SpeechKept s (s.secondsTick v) := by
  have hw : SpeechKept s (s.wrapped v) := of_same (fs := [.timer, .pins]) (by simp [Same, State.wrapped]) (by decide)
  exact (hw.trans (of_same (State.readTemperature_same _ v) (by decide))).trans (idleTick _)

theorem acceptQuiet (s : State) (qa qb : Bool) : SpeechKept s (s.acceptQuiet qa qb) := by
  rw [State.acceptQuiet_eq]
  exact SpeechKept.trans (of_same (fs := [.timer, .pins]) (by simp [Same, State.eighthTaken]) (by decide))
    (quietHandOver _ _ _)

end SpeechKept
end Sys2Proof.Machine
end

section
/-! PROOF. Every step keeps the laws of the channel records and of governing (R73, R79, R88, R103). -/

namespace Sys2Proof.Machine

namespace SpeechKept

/-! ### Resets (R19, R93) -/

/-- R19, R93: after a reset both channels are IDLE and cleared, and every berth is ABSENT. -/
theorem of_reset {s t : State} (pins : Pins) (h : Same [.held, .draws, .pending] (State.afterReset pins) t) :
    SpeechKept s t := by
  refine (?_ : SpeechKept s (State.afterReset pins)).trans (of_same h (by decide))
  have hc : ∀ a : ChannelIx, (State.afterReset pins).channels[a] = Channel.initial.idled := get_replicate_fin _
  have hb : ∀ b : BerthIx, (State.afterReset pins).berths[b] = Berth.initial := get_replicate_fin _
  refine ⟨fun a => ?_, fun b _ => ?_, fun _ b hp => ?_⟩
  · rw [hc]
    exact Channel.idled_kept _ _
  · rw [hb]
    exact ⟨fun _ => rfl, nofun⟩
  · rw [hb] at hp
    cases hp

theorem resetNow (s : State) : SpeechKept s s.resetNow := of_reset s.pins (by simp [Same, State.resetNow])

/-! ### Loads (R18, R72, R129, R157, R159) -/

theorem loadBerth (s : State) (b : BerthIx) (cfg : BerthConfig) : SpeechKept s (s.loadBerth b cfg) :=
  of_berths (State.loadBerth_same s b cfg) (by decide) fun b' => by
    rw [State.loadBerth_get]
    split
    · next e =>
      subst e
      rw [s.loadedBerth_only]
      exact .of_eq rfl rfl .inl
    · exact .refl _

/-- R72: a class entry written clears ducked marks, and may release channels. -/
theorem loadClass (s : State) (i : Fin 4) (e : ClassEntry) : SpeechKept s (s.loadClass i e) := by
  have h1 : SpeechKept s { s with classes := s.classes.set i e } := of_same (same_set_classes s _) (by decide)
  exact ite (fun _ => h1) ((h1.trans (mapBerths _ fun _ r => by
    split
    · exact .of_eq rfl rfl nofun
    · exact .refl r)).trans (evaluateReleases _))

theorem loadChain (s : State) (c : ChainIx) (e : Bool) (x y : Nat) : SpeechKept s (s.loadChain c e x y) :=
  ite (fun _ => (modChain s c _).trans (chainStops _ c)) (modChain s c _)

theorem loadSettings (s : State) (p : PartSettings) : SpeechKept s (s.loadSettings p) := by
  have judge : ∀ s : State, SpeechKept s s.judgeOverheat := fun s => of_same (State.judgeOverheat_same s) (by decide)
  have write : SpeechKept s (s.modMgmt fun m => { m with settings := p }) :=
    of_same (State.modMgmt_same s _) (by decide)
  unfold State.loadSettings
  dsimp only
  split
  · exact write.trans (judge _)
  · exact (write.trans ((of_same (State.countPart_same _ _) (by decide)).trans (evaluateAll _))).trans (judge _)

/-- R159: an entry written. -/
theorem loadEntry (s : State) (t : Table) (i : Nat) (bs : List Byte) : SpeechKept s (s.loadEntry t i bs) := by
  unfold State.loadEntry
  cases t with
  | berth =>
    dsimp only
    split
    · exact loadBerth s _ _
    · exact refl s
  | zone =>
    dsimp only
    split
    · exact of_same (same_set_zones s _) (by decide)
    · exact refl s
  | profile =>
    dsimp only
    split
    · refine (of_same (same_set_profiles s _) (by decide)).trans (mapBerths _ fun b r => ?_)
      split
      · exact .of_eq rfl rfl .inl
      · exact .refl r
    · exact refl s
  | cls =>
    dsimp only
    split
    · exact loadClass s _ _
    · exact refl s
  | chain =>
    dsimp only
    split
    · exact loadChain s _ _ _ _
    · exact refl s
  | settings => exact loadSettings s _
  | stream => exact refl s
  | channel => exact refl s

/-! ### Management (R28, R47, R58, R92, R154 to R162) -/

theorem clearGroup (s : State) (g : Group) : SpeechKept s (s.clearGroup g) := by
  unfold State.clearGroup
  cases g with
  | portU => exact countU s _
  | portT => exact of_same (State.countT_same s _) (by decide)
  | stream v => exact of_same (State.countStream_same s v _) (by decide)
  | channel a => exact countChannel s a _
  | chain c => exact countChain s c _
  | part => exact of_same (State.countPart_same s _) (by decide)

/-- R27: join initialisation clears the ducked mark. -/
theorem joined_stands (s : State) (r : Berth) : Berth.Stands r (s.joined r) := .of_eq rfl rfl nofun

/-- R47: every berth evaluated and copied into. -/
theorem enterServiceSettings (s : State) : SpeechKept s s.enterServiceSettings := by
  refine (evaluateAll s).trans (mapBerths _ fun _ r => ?_)
  exact .of_eq rfl rfl .inl

/-- R28: every PRESENT berth join-initialised. -/
theorem joinAll (s : State) : SpeechKept s s.joinAll :=
  mapBerths s fun b r => by
    split
    · exact joined_stands s r
    · exact .refl r

theorem intoService (s : State) : SpeechKept s s.intoService := by
  have mode : SpeechKept s (s.modMgmt fun m => { m with mode := .service }) :=
    of_same (State.modMgmt_same s _) (by decide)
  exact (mode.trans (enterServiceSettings _)).trans (joinAll _)

theorem intoConfiguration (s : State) : SpeechKept s s.intoConfiguration := by
  have mode : SpeechKept s (s.modMgmt fun m => { m with mode := .configuration }) :=
    of_same (State.modMgmt_same s _) (by decide)
  exact (((mode.trans (idleChannel _ 0)).trans (idleChannel _ 1)).trans
    (of_same (State.emptyRings_same _) (by decide))).trans (of_same (State.flushAll_same _) (by decide))

theorem closeStream (s : State) (v : StreamIx) : SpeechKept s (s.closeStream v) :=
  of_berths (State.closeStream_same s v) (by decide) fun b => by
    rw [KeepsBut.closeStream_get]
    exact .of_eq rfl rfl .inl

/-- Management keeps the laws. -/
theorem manageCommand (c : Command) (body : List Byte) (s : State) :
    SpeechKept s (Machine.manageCommand c body s).1 := by
  have restarted : ∀ (c : ChainIx) (f : Chain → Chain), SpeechKept s ((s.modChain c f).startQueries c) := fun c f =>
    (modChain s c f).trans (of_same (State.startQueries_same _ c) (by decide))
  have h := (manageCommand_yields c body s).1
  generalize (Machine.manageCommand c body s).1 = t at h
  cases h with
  | stays => exact refl s
  | loads => exact foldl (fun s j => loadEntry s _ _ _) _ s
  | opensVideo v k => exact of_same (State.openVideo_same s v k) (by decide)
  | opensAudio v r => exact of_same (State.openAudio_same s v r) (by decide)
  | closes v => exact closeStream s v
  | joins b => exact modBerth s b (joined_stands s _)
  | overlays b => exact modBerth s b (.of_eq rfl rfl .inl)
  | clearsGroup g => exact clearGroup s g
  | clearsAttention x => exact of_same (State.clearAttention_same s x) (by decide)
  | acknowledges x => exact of_same (State.acknowledge_same s x) (by decide)
  | clearsFaults => exact of_same (State.clearFaults_same s) (by decide)
  | entersService => exact intoService s
  | entersConfiguration => exact intoConfiguration s
  | asks c q => exact restarted c _
  | fetches c => exact restarted c _
  | aborts c => exact of_same (State.discardQueries_same s c) (by decide)

/-- A COMMAND parcel keeps the laws where management does. -/
theorem of_taken {s t : State} {m : State → Managed} (h : Taken s m t) (hm : ∀ s, SpeechKept s (m s).1) :
    SpeechKept s t := by
  have answered : ∀ {s1 t : State}, Same [.up, .thru] s s1 → Same [.up] (m s1).1 t → SpeechKept s t := fun h1 ht =>
    ((of_same h1 (by decide)).trans (hm _)).trans (of_same ht (by decide))
  cases h with
  | forwarded _ h => exact of_same h (by decide)
  | executed s1 _ h _ ht => exact answered h ht
  | resetPending s1 _ h _ ht => exact (answered h ht).trans (of_same (State.modMgmt_same _ _) (by decide))
  | reset s1 _ h _ ht => exact (answered h ht).trans (resetNow _)

theorem managePayload (payload : List Byte) (s : State) : SpeechKept s (Machine.managePayload payload s).1 := by
  unfold Machine.managePayload
  split
  · exact refl s
  · split
    · exact refl s
    · exact manageCommand _ _ s

theorem command (s : State) (h : Header) (c : Command) (body : List Byte) : SpeechKept s (s.command h c body) :=
  of_taken (takeCommand_taken _ _ _ _) (manageCommand c body)

theorem media {s : State} {p : Parcel} {take : State → State} (h : ∀ s, SpeechKept s (take s)) :
    SpeechKept s (s.takeMedia p take) :=
  (received s p).trans (ite (fun _ => h _) (countU _ _))

theorem signalBack (s : State) : SpeechKept s s.signalBack := by
  have fails : SpeechKept s (if s.signalLimitReached then s.backboneFails else s) :=
    ite (fun _ => of_same (State.backboneFails_same s) (by decide)) (refl s)
  exact fails.trans ((of_same (State.setUpstreamLine_same _ true) (by decide)).trans
    (of_same (State.modFaults_same _ _) (by decide)))

theorem upstreamSent (s : State) : SpeechKept s s.upstreamSent :=
  ite (fun _ => resetNow s) (of_same (State.modUp_same s _) (by decide))

end SpeechKept

/-- R82, R85: the rows of a lead that expires and of a stall act on a channel in LEAD, and on one in PLAYING. -/
theorem State.leadExpires_lead {s : State} {a : ChannelIx} (h : s.leadExpires a = true) :
    s.channels[a].state = .lead := by
  unfold State.leadExpires at h
  simp only [Bool.and_eq_true, beq_iff_eq] at h
  exact h.1.2

theorem State.stallExpires_playing {s : State} {a : ChannelIx} (h : s.stallExpires a = true) :
    s.channels[a].state = .playing := by
  unfold State.stallExpires at h
  simp only [Bool.and_eq_true, beq_iff_eq] at h
  exact h.1.1.1.2

/-- Every row keeps the laws. -/
theorem effect_speechKept (i : Instr) (s : State) : SpeechKept s (effect i s) := by
  cases i with
  | cycleMark hd elapsed lines payload => exact (SpeechKept.passTime s elapsed).trans (.takeMarkParcel _ _ _ _)
  | selfStart lines => exact (SpeechKept.passTime s _).trans (.selfStart _ _)
  | secondsTick sensor => exact .ite (fun _ => .secondsTick _ _) (.refl _)
  | quietLineAccepted qa qb => exact .acceptQuiet s qa qb
  | markLoss => exact .ite (fun _ => .of_same (State.missMark_same s) (by decide)) (.refl _)
  | backboneSignalLost => exact .of_same (State.signalLost_same s) (by decide)
  | backboneDown => exact .signalGone _
  | backboneSignalReturn => exact .signalBack s
  | programAudio hd payload => exact .media fun s => .of_same (State.takeProgramAudio_same s payload) (by decide)
  | videoSegment hd payload => exact .media fun s => .of_same (State.takeVideoSegment_same s payload) (by decide)
  | startCue hd cue => exact .media (.startCueTaken cue)
  | endCue hd cue => exact .media (.endCueTaken cue)
  | cancelCue hd cue => exact .media (.cancelCueTaken cue)
  | leadExpiry a => exact .ite (fun h => .countLead (State.leadExpires_lead h)) (.refl _)
  | announceStall a => exact .ite (fun h => .presentGap (State.stallExpires_playing h)) (.refl _)
  | announceAudio hd payload => exact .media (.takeAnnounceAudio payload)
  | chainFrameComplete r => exact .frameDone s r
  | returnWindowClose c slots => exact .returnWindow s c slots
  | berthPresent b => exact .ite (fun _ => .becomePresent s b) (.refl _)
  | berthAbsent b => exact .ite (fun _ => .enterAbsent s b) (.refl _)
  | idleDim b => exact .ite (fun _ => .modBerth s b (SpeechKept.ticked_stands _)) (.refl _)
  | idleSleep b => exact .ite (fun _ => .modBerth s b (SpeechKept.ticked_stands _)) (.refl _)
  | noAnswer c => exact .ite (fun _ => .of_same (State.queryUnanswered_same s c) (by decide)) (.refl _)
  | chainLinkDown c => exact .chainLineLost s c
  | chainLinkUp c => exact .of_same (State.chainLineBack_same s c) (by decide)
  | receiveCheckFailure port clean bytes => exact .of_same (State.dropFailed_same s _ _ _) (by decide)
  | wrongDirection hd payload => exact .of_same (State.replyArrives_same s) (by decide)
  | forwardCommand hd payload => exact .of_taken (takeCommand_taken _ _ _ _) (.managePayload payload)
  | throughArrival p => exact .of_same (State.takeThrough_same s p) (by decide)
  | throughLinkDown =>
    exact (SpeechKept.of_same (State.setThroughLine_same s false) (by decide)).trans
      (.of_same (State.modThru_same _ _) (by decide))
  | throughLinkUp =>
    exact (SpeechKept.of_same (State.setThroughLine_same s true) (by decide)).trans
      (.of_same (State.modThru_same _ _) (by decide))
  | throughSendComplete => exact .of_same (State.modThru_same s _) (by decide)
  | upstreamSendComplete => exact .upstreamSent s
  | unknownCommand hd payload => exact .of_taken (takeCommand_taken _ _ _ _) (.managePayload payload)
  | powerOnReset => exact .of_reset s.pins (by simp [Same, effect, State.resetNow])
  | resetPin => exact .of_reset s.pins (by simp [Same, effect, State.resetNow])
  | endOfReset pins => exact .of_reset pins (by simp [Same, effect])
  | cueBadPayload hd payload => exact .media fun s => .countU s _
  | _ => exact .command _ _ _ _

/-- Every step keeps the laws: the idle step and every row. -/
theorem step_speechKept {s t : State} (h : step s = .next t) : SpeechKept s t := by
  unfold step at h
  split at h
  · obtain rfl := Host.Outcome.next.inj h
    exact .ite (fun _ => (SpeechKept.passTime s _).trans (.takeDue _)) (.refl s)
  · next i rest _ =>
    rw [exec_eq] at h
    obtain rfl := Host.Outcome.next.inj h
    have h1 : SpeechKept s { s with pending := rest } := .of_same (fs := [.pending]) (by simp [Same]) (by decide)
    exact h1.trans (.ite (fun _ => effect_speechKept i _) (.refl _))

end Sys2Proof.Machine

open Sys2Proof
open Sys2Proof.Machine

/-- Settles O52: every operation keeps the law of each record it writes (`Channel.Kept`). -/
theorem channelLawKept : Obligations.ChannelLawKept := fun _ _ hs h => (step_speechKept h).channelLaw hs

/-- Settles O53: whatever changes a claim or a presence is followed by a recomputation of governing
(`SpeechKept.recomputed`), and everything else leaves what governs. -/
theorem governingLawKept : Obligations.GoverningLawKept := fun _ _ hs h => (step_speechKept h).governingLaw hs
end

section
/-! PROOF. The cues that end an announcement, the stall and the expiry of a lead (R79 to R88). -/

namespace Sys2Proof.Machine

/-! ### Cues that reach a channel (R74) -/

theorem channelOf_some {b : Byte} {a : ChannelIx} (h : b.toNat = a.val) : channelOf b = some a := by
  unfold channelOf
  rw [dif_pos (h ▸ a.isLt)]
  exact congrArg some (Fin.ext h)

theorem State.endCueTaken_eq (s : State) {q : CueBody} {a : ChannelIx} (h : q.channel.toNat = a.val) :
    s.endCueTaken q = s.takeEnd a q.sequence := by
  unfold State.endCueTaken
  rw [channelOf_some h]

theorem State.cancelCueTaken_eq (s : State) {q : CueBody} {a : ChannelIx} (h : q.channel.toNat = a.val) :
    s.cancelCueTaken q = s.takeCancel a := by
  unfold State.cancelCueTaken
  rw [channelOf_some h]

/-! ### CANCEL and END (R86, R87) -/

section
variable {s : State} {a : ChannelIx}

theorem State.takeCancel_busy (h : s.channels[a].state ≠ .idle) : s.takeCancel a = s.enterIdle a :=
  if_pos ((SpeechKept.busy_iff _).2 h)

theorem State.takeCancel_idle (h : s.channels[a].state = .idle) : s.takeCancel a = s.refuseCue a :=
  if_neg fun k => (SpeechKept.busy_iff _).1 k h

theorem State.takeEnd_ignored {l : Word16} (h : s.channels[a].state = .idle ∨ s.channels[a].lastSeq ≠ none) :
    s.takeEnd a l = s.refuseCue a :=
  if_neg fun k => h.elim ((SpeechKept.busy_iff _).1 k.1) fun h => h k.2

theorem State.takeEnd_past {l : Word16} (h : s.channels[a].state ≠ .idle) (hl : s.channels[a].lastSeq = none)
    (hd : cycleDistance l s.channels[a].nextSeq < 0) : s.takeEnd a l = s.enterIdle a :=
  (if_pos ⟨(SpeechKept.busy_iff _).2 h, hl⟩).trans (if_pos hd)

/-- R86: the record of a channel of which the last sequence is fixed, at distance `d` from the expected one. -/
def Channel.bounded (ch : Channel) (l : Word16) (d : Int) : Channel :=
  { ch with
    lastSeq := some l
    ring := Vector.ofFn fun i => if beyond ch.nextSeq d ch.ring[i] then none else ch.ring[i]
    counts := { ch.counts with
      stale := addCount ch.counts.stale (ch.ring.toList.filter (beyond ch.nextSeq d)).length } }

theorem State.takeEnd_bounds {l : Word16} (h : s.channels[a].state ≠ .idle) (hl : s.channels[a].lastSeq = none)
    (hd : 0 ≤ cycleDistance l s.channels[a].nextSeq) :
    s.takeEnd a l = s.modChannel a fun ch => ch.bounded l (cycleDistance l s.channels[a].nextSeq) :=
  (if_pos ⟨(SpeechKept.busy_iff _).2 h, hl⟩).trans (if_neg (not_lt.2 hd))

end

/-- R86: the blocks beyond the last sequence, as the ring holds them. -/
theorem beyond_eq_any (e : Word16) (d : Int) (x : Option (Word16 × SpeechBlock)) :
    beyond e d x = x.any fun y => decide (d < (seqOffset y.1 e : Int)) := by
  cases x <;> rfl

/-- The entries of a vector that a test accepts are as many as the places that hold one. -/
theorem toList_filter_length {α : Type} {n : Nat} (v : Vector α n) (p : α → Bool) :
    (v.toList.filter p).length = ((List.finRange n).filter fun i => p v[i]).length := by
  have e : v.toList = (List.finRange n).map fun i => v[i] := by
    refine List.ext_getElem (by simp) fun i h1 h2 => ?_
    simp
  rw [e, List.filter_map, List.length_map]
  rfl

end Sys2Proof.Machine

open Sys2Proof
open Sys2Proof.Machine

/-- Settles O18: the channel keeps its claims, so that the recomputation finds governing as it is. -/
theorem leadExpires : Obligations.LeadExpires := by
  intro a s hh hm hg hst hl
  have hexp : s.leadExpires a = true := by
    simp [State.leadExpires, s.serving_iff.2 hm, hst, hl, -Fin.getElem_fin]
  have hle : s.channels[a].lead ≤ 1 := hl.le
  rw [exec_free hh]
  refine congrArg Host.Outcome.next ?_
  calc effect (.leadExpiry a) s = s.countLead a := if_pos hexp
    _ = s.enterPlaying a := if_pos hle
    _ = _ := (governed_of_law hg).enterPlaying (by rw [hst]; exact nofun)

/-- Settles O17: both rows are an entry into IDLE, of which `State.enterIdle_left` says what it leaves. -/
theorem enterIdleRule : Obligations.EnterIdleRule := by
  refine ⟨fun h q a s hh hm hq => ?_, fun a s hh hm hst hs hlast hnone => ?_⟩
  · refine ⟨_, exec_media hh hm rfl (State.cancelCueTaken_eq _ hq), fun hi => ?_, fun hb => ?_⟩
    · exact State.takeCancel_idle hi
    · rw [State.takeCancel_busy (s := s.withParcel _) hb]
      exact ⟨(State.enterIdle_same _ a).eq_governing, (enterIdle_spec _ a).2.2,
        (State.enterIdle_left _ a).congr rfl rfl⟩
  · have hend : ¬ s.channels[a].ended = true := fun k => by
      obtain ⟨l, hl, hneg⟩ := s.channels[a].ended_iff.1 k
      exact absurd (hlast l hl) (not_le.2 hneg)
    have hheld : s.channels[a].held s.channels[a].nextSeq = none := Channel.held_none fun blk k => by
      rw [hnone] at k
      cases k
    have hexp : s.stallExpires a = true := by
      simp [State.stallExpires, s.serving_iff.2 hm, hst, hend, hheld, hs, -Fin.getElem_fin]
    refine ⟨_, (exec_free hh _).trans (congrArg _ ((if_pos hexp).trans (State.presentGap_stall hs.ge))), ?_⟩
    exact State.stalled_spec s a

/-- Settles O16: the three outcomes of an END cue by the state of the channel, its last sequence and the distance. -/
theorem endCueRule : Obligations.EndCueRule := by
  intro h q a s hh hm hq ch d beyond
  refine ⟨_, exec_media hh hm rfl (State.endCueTaken_eq _ hq), ?_, fun hi => ?_, fun hb hl hd => ?_, fun hb hl hd => ?_⟩
  · exact (State.takeEnd_same _ a _).eq_governing
  · rw [State.takeEnd_ignored (s := s.withParcel _) hi]
    exact ⟨rfl, rfl⟩
  · rw [State.takeEnd_past (s := s.withParcel _) hb hl hd]
    exact ⟨(enterIdle_spec _ a).2.2, (State.enterIdle_left _ a).congr rfl rfl⟩
  · rw [State.takeEnd_bounds (s := s.withParcel _) hb hl hd]
    generalize hu : s.withParcel _ = u
    have hd' : cycleDistance q.sequence u.channels[a].nextSeq = d := by rw [← hu]; rfl
    rw [hd']
    have hc : u.channels = s.channels := by rw [← hu]; rfl
    have hown : (u.modChannel a fun ch => ch.bounded q.sequence d).channels[a] = ch.bounded q.sequence d := by
      rw [State.modChannel_get, if_pos rfl, hc]
    refine ⟨by rw [← hu]; rfl, ?_, ?_, fun i => ?_⟩
    · rw [State.modChannel_get, if_neg (otherChannel_ne a), hc]
    · rw [hown]
      unfold Channel.bounded
      simp only [toList_filter_length, beyond_eq_any]
      rfl
    · rw [hown]
      unfold Channel.bounded
      rw [get_ofFn_fin, beyond_eq_any]
end

section
/-! PROOF. The blocks of an ANNOUNCE AUDIO parcel, one after the other (R73, R89). -/

namespace Sys2Proof.Machine

/-! ### One block -/

/-- R89: the sequence of block `j` of a parcel. -/
def blockSeq (first : Word16) (j : Nat) : Word16 := first + BitVec.ofNat 16 j

/-- R73: consecutive sequences have different slots. -/
theorem speechSlot_blockSeq_ne {first : Word16} {i j : Nat} (hij : i < j) (hj : j < 256) :
    speechSlot (blockSeq first i) ≠ speechSlot (blockSeq first j) := fun h => by
  have h := congrArg Fin.val h
  unfold speechSlot blockSeq at h
  simp only [BitVec.toNat_add, BitVec.toNat_ofNat] at h
  have := first.isLt
  omega

/-- R94: the counts of a channel with some more blocks of each kind. -/
def ChannelCounts.tallied (k : ChannelCounts) (accepted duplicate stale : Nat) : ChannelCounts :=
  { k with
    accepted := addCount k.accepted accepted, duplicate := addCount k.duplicate duplicate
    stale := addCount k.stale stale }

theorem ChannelCounts.tallied_tallied (k : ChannelCounts) (a b c a' b' c' : Nat) :
    (k.tallied a b c).tallied a' b' c' = k.tallied (a + a') (b + b') (c + c') := by
  simp only [ChannelCounts.tallied, addCount_addCount]

theorem ChannelCounts.tallied_zero (k : ChannelCounts) : k.tallied 0 0 0 = k := by
  simp only [ChannelCounts.tallied, addCount_zero]

/-- R89: whether the slot of sequence `q` is empty. -/
def Channel.slotFree (ch : Channel) (q : Word16) : Bool := (ch.ring[speechSlot q]).isNone

section
variable (ch : Channel)

/-- R89: every block is counted once, as what it is. -/
theorem Channel.takeBlock_counts (q : Word16) (blk : SpeechBlock) : (ch.takeBlock q blk).counts =
    ch.counts.tallied (ch.inWindow q && ch.slotFree q).toNat (ch.inWindow q && !ch.slotFree q).toNat
      (!ch.inWindow q).toNat := by
  unfold Channel.slotFree
  obtain ⟨hw, hr, e⟩ | ⟨hw, hr, e⟩ | ⟨hw, e⟩ := ch.takeBlock_cases q blk <;> rw [e, hw]
  · rw [hr]
    simp [ChannelCounts.tallied, addCount_zero, bump]
  · rw [Option.isNone_eq_false_iff.2 hr]
    simp [ChannelCounts.tallied, addCount_zero, bump]
  · simp [ChannelCounts.tallied, addCount_zero, bump]

/-- R89: only an empty slot takes a block, and only one in the window. -/
theorem Channel.takeBlock_slot (q : Word16) (blk : SpeechBlock) (i : Fin 256) : (ch.takeBlock q blk).ring[i] =
    if i = speechSlot q ∧ (ch.inWindow q && ch.slotFree q) = true then some (q, blk) else ch.ring[i] := by
  unfold Channel.slotFree
  obtain ⟨hw, hr, e⟩ | ⟨hw, hr, e⟩ | ⟨hw, e⟩ := ch.takeBlock_cases q blk <;> rw [e, hw]
  · rw [hr]
    exact (get_set_fin _ _ _ _).trans (if_congr (and_iff_left rfl).symm rfl rfl)
  · rw [Option.isNone_eq_false_iff.2 hr]
    exact (if_neg fun k => nomatch k.2).symm
  · exact (if_neg fun k => nomatch k.2).symm

/-! ### The blocks of a parcel -/

variable (payload : List Byte) (first : Word16)

/-- R89: whether block `j` of a parcel is stored. -/
def Channel.stores (j : Nat) : Bool := ch.inWindow (blockSeq first j) && ch.slotFree (blockSeq first j)

/-- R89: the window is that of the next expected and the last sequence, which blocks do not change. -/
theorem Channel.takeBlocks_inWindow (m : Nat) (q : Word16) :
    (ch.takeBlocks payload first m).inWindow q = ch.inWindow q := by
  rw [Channel.takeBlocks_only]
  rfl

/-- R89: a slot that no block is stored in keeps what it holds. -/
theorem Channel.takeBlocks_unstored {i : Fin 256} {m : Nat} (hm : m ≤ 256)
    (h : ∀ j < m, ch.stores first j = true → speechSlot (blockSeq first j) ≠ i) :
    (ch.takeBlocks payload first m).ring[i] = ch.ring[i] := by
  induction m generalizing i with
  | zero => rfl
  | succ m ih =>
    rw [Channel.takeBlocks_succ, Channel.takeBlock_slot, if_neg]
    · exact ih (by omega) fun j hj => h j (by omega)
    · rintro ⟨rfl, hst⟩
      have hfree : (ch.takeBlocks payload first m).ring[speechSlot (blockSeq first m)] =
          ch.ring[speechSlot (blockSeq first m)] :=
        ih (by omega) fun j hj _ => speechSlot_blockSeq_ne hj (by omega)
      refine h m (Nat.lt_succ_self m) ?_ rfl
      rw [Channel.takeBlocks_inWindow] at hst
      unfold Channel.slotFree at hst
      exact (congrArg (fun x => ch.inWindow (blockSeq first m) && Option.isNone x) hfree).symm.trans hst

/-- R89: the blocks before it do not change what becomes of a block. -/
theorem Channel.takeBlocks_slotFree {m : Nat} (hm : m < 256) :
    (ch.takeBlocks payload first m).slotFree (blockSeq first m) = ch.slotFree (blockSeq first m) := by
  unfold Channel.slotFree
  rw [ch.takeBlocks_unstored payload first hm.le fun j hj _ => speechSlot_blockSeq_ne hj hm]

/-- R89: a block that is stored stands in its slot with its sequence. -/
theorem Channel.takeBlocks_stored {j m : Nat} (hj : j < m) (hm : m ≤ 256) (h : ch.stores first j = true) :
    (ch.takeBlocks payload first m).ring[speechSlot (blockSeq first j)] =
      some (blockSeq first j, speechBlockAt payload j) := by
  induction m with
  | zero => exact absurd hj (Nat.not_lt_zero j)
  | succ m ih =>
    rw [Channel.takeBlocks_succ, Channel.takeBlock_slot]
    by_cases e : j = m
    · subst e
      refine if_pos ⟨rfl, ?_⟩
      rw [Channel.takeBlocks_inWindow]
      exact (congrArg _ (ch.takeBlocks_slotFree payload first (by omega))).trans h
    · rw [if_neg fun k => speechSlot_blockSeq_ne (by omega) (by omega) k.1]
      exact ih (by omega) (by omega)

/-- R94: the counts of the channel after `m` blocks. -/
theorem Channel.takeBlocks_counts {m : Nat} (hm : m ≤ 256) : (ch.takeBlocks payload first m).counts =
    ch.counts.tallied
      (tally (fun j => ch.inWindow (blockSeq first j) && ch.slotFree (blockSeq first j)) m)
      (tally (fun j => ch.inWindow (blockSeq first j) && !ch.slotFree (blockSeq first j)) m)
      (tally (fun j => !ch.inWindow (blockSeq first j)) m) := by
  induction m with
  | zero => exact ch.counts.tallied_zero.symm
  | succ m ih =>
    have hw := ch.takeBlocks_inWindow payload first m (blockSeq first m)
    have hf := ch.takeBlocks_slotFree payload first (m := m) (by omega)
    unfold blockSeq at hw hf
    rw [Channel.takeBlocks_succ, Channel.takeBlock_counts, ih (by omega), hw, hf]
    simp only [ChannelCounts.tallied_tallied, tally_succ]
    rfl

end

/-- R89: a parcel of the right shape reaches its channel: its blocks where that is busy, its count where it is IDLE. -/
theorem State.takeAnnounceAudio_blocks {s : State} {payload : List Byte} {a : ChannelIx} {k : Nat}
    (ha : (byteAt payload 0).toNat = a.val) (hk : (byteAt payload 1).toNat = k) (h1 : 1 ≤ k) (h4 : k ≤ 4)
    (hl : payload.length = 4 + 96 * k) : s.takeAnnounceAudio payload =
      if s.channels[a].busy then s.modChannel a fun ch => ch.takeBlocks payload (wordAt payload 2) k
      else s.countChannel a fun n => { n with stale := addCount n.stale k } := by
  have hch : payload.head?.bind channelOf = some a := by
    cases payload with
    | nil =>
      rw [List.length_nil] at hl
      omega
    | cons b bs => exact channelOf_some ha
  unfold State.takeAnnounceAudio
  dsimp only
  rw [hch]
  dsimp only
  rw [hk, if_pos ⟨h1, h4, hl⟩]

/-- What writes one channel alone. -/
theorem modChannel_written (s : State) (a : ChannelIx) (f : Channel → Channel) :
    s.modChannel a f = { s with channels := s.channels.set a (s.modChannel a f).channels[a] } := by
  rw [State.modChannel_get, if_pos rfl]
  rfl

end Sys2Proof.Machine

open Sys2Proof
open Sys2Proof.Machine

/-- Settles O14, by induction on the blocks of the parcel: a block finds its own slot as the parcel found it, because
four consecutive sequences have different slots (`speechSlot_blockSeq_ne`). -/
theorem announceAudioStored : Obligations.AnnounceAudioStored := by
  refine ⟨fun q e => ⟨rfl, seqOffset_eq q e⟩, fun payload j i => ?_, fun h payload a k s hh hm ha hk h1 h4 hl => ?_⟩
  · unfold speechBlockAt
    exact get_ofFn_fin _ i
  · intro ch seq fits free
    have hfits : ∀ j, fits j = ch.inWindow (seq j) := fun j => by
      rw [Bool.eq_iff_iff, Channel.inWindow_iff, decide_eq_true_iff]
      simp [InReach]
    have hfun : fits = fun j => ch.inWindow (seq j) := funext hfits
    have hexec := fun u => exec_media (u := u) hh hm (i := .announceAudio h payload) rfl
    by_cases hst : ch.state = .idle
    · refine ⟨_, hexec _ ((State.takeAnnounceAudio_blocks ha hk h1 h4 hl).trans
        (if_neg fun b => (SpeechKept.busy_iff _).1 b hst)), ?_, fun _ => ?_, fun hb => absurd hst hb⟩
      · exact modChannel_written _ a _
      · rw [State.countChannel_get, if_pos rfl]
        rfl
    · refine ⟨_, hexec _ ((State.takeAnnounceAudio_blocks ha hk h1 h4 hl).trans
        (if_pos ((SpeechKept.busy_iff _).2 hst))), ?_, fun hi => absurd hi hst, fun _ => ?_⟩
      · exact modChannel_written _ a _
      · rw [State.modChannel_get, if_pos rfl]
        have stores : ∀ {j}, fits j = true → free j = true → ch.stores (wordAt payload 2) j = true := fun hj hf =>
          Bool.and_eq_true_iff.2 ⟨(hfits _).symm.trans hj, hf⟩
        refine ⟨fun j hj hw hf => ch.takeBlocks_stored payload _ hj (by omega) (stores hw hf), fun i hi => ?_, ?_⟩
        · refine ch.takeBlocks_unstored payload _ (by omega) fun j hj hs => ?_
          obtain ⟨hw, hf⟩ := Bool.and_eq_true_iff.1 hs
          exact hi j hj ((hfits j).trans hw) hf
        · have honly := ch.takeBlocks_only payload (wordAt payload 2) k
          rw [ch.takeBlocks_counts payload (wordAt payload 2) (by omega)] at honly
          rw [hfun]
          exact honly
end

section
/-! PROOF. A START cue: its fields, the berths it wakes, and the announcement it begins (R74 to R79, R81, R103). -/

namespace Sys2Proof.Machine

/-! ### The codes of a START cue (R74) -/

theorem codeBelowOrAbsent_iff {b : Byte} {n : Nat} : codeBelowOrAbsent b n = true ↔ b.toNat < n ∨ b = 0xFF := by
  unfold codeBelowOrAbsent
  simp

theorem classOf_isSome {b : Byte} : (classOf b).isSome = true ↔ b.toNat < 4 := by
  rw [← Nat.not_le, ← classOf_none, Option.isSome_iff_ne_none]

/-- R74: a class byte names the class of its index. -/
theorem classOf_some {b : Byte} {c : Class} (h : b.toNat = c.index.val) : classOf b = some c := by
  obtain rfl : b = BitVec.ofNat 8 c.index.val := BitVec.eq_of_toNat_eq (by rw [h]; cases c <;> rfl)
  cases c <;> rfl

theorem startFieldsGood_iff (q : CueBody) : startFieldsGood q = true ↔ q.cls.toNat < 4 ∧ q.zone.toNat < 16 ∧
    (q.stop.toNat < 64 ∨ q.stop = 0xFF) ∧ (q.caption.toNat < 32 ∨ q.caption = 0xFF) ∧
    (q.leadOverride.toNat < 256 ∨ q.leadOverride = 0xFFFF) := by
  unfold startFieldsGood
  simp only [Bool.and_eq_true, Bool.or_eq_true, decide_eq_true_eq, beq_iff_eq, classOf_isSome, codeBelowOrAbsent_iff,
    and_assoc]

theorem State.zoneAt_eq (s : State) {code : Byte} {z : Fin 16} (h : code.toNat = z.val) :
    s.zoneAt code = s.zones[z] := by
  unfold State.zoneAt
  simp only [h, Nat.mod_eq_of_lt z.isLt]
  rfl

/-- R74: a caption code that is listed, as the stream it names. -/
theorem streamOf_map {b : Byte} (h : b.toNat < 32 ∨ b = 0xFF) :
    (streamOf b).map Fin.val = if b = 0xFF then none else some b.toNat := by
  obtain h | rfl := h
  · rw [if_neg (by rintro rfl; exact absurd h (by decide))]
    unfold streamOf
    rw [dif_pos h]
    rfl
  · rfl

/-- R74: a lead override that is listed, as the lead it names. -/
theorem overrideOf_map {w : Word16} (h : w.toNat < 256 ∨ w = 0xFFFF) :
    (overrideOf w).map Fin.val = if w = 0xFFFF then none else some w.toNat := by
  obtain h | rfl := h
  · rw [if_neg (by rintro rfl; exact absurd h (by decide))]
    unfold overrideOf
    rw [dif_pos h]
    rfl
  · rfl

/-- R75, R76: an alight stop is the one that a listed stop code names. -/
theorem stopOf_matches {b : Byte} (h : b.toNat < 64 ∨ b = 0xFF) (stop : Option (Fin 64)) :
    (stopOf b).isSome = true ∧ stop = stopOf b ↔ b ≠ 0xFF ∧ stop.map Fin.val = some b.toNat := by
  obtain h | rfl := h
  · have hne : b ≠ 0xFF := by
      rintro rfl
      exact absurd h (by decide)
    have hs : stopOf b = some ⟨b.toNat, h⟩ := dif_pos h
    rw [hs]
    cases stop with
    | none => simp
    | some x =>
      simp only [Option.isSome_some, true_and, Option.some.injEq, Fin.ext_iff, Option.map_some]
      exact (and_iff_right hne).symm
  · exact iff_of_false (fun h => nomatch h.1) fun h => h.1 rfl

/-! ### Reach and wakes (R75, R76) -/

/-- R75, R76: a berth of the zone is stop-matched by a SERVICE cue. -/
def StopMatched (c : Class) (zone : BitVec 48) (stop : Option (Fin 64)) (b : BerthIx) (r : Berth) : Prop :=
  c = .service ∧ zone.getLsbD b.val = true ∧ stop.isSome = true ∧ r.config.alightStop = stop

/-- R76: a cue wakes a berth. -/
def Wakes (c : Class) (zone : BitVec 48) (stop : Option (Fin 64)) (b : BerthIx) (r : Berth) : Prop :=
  r.presence = .present ∧ ((c = .emergency ∧ zone.getLsbD b.val = true) ∨ StopMatched c zone stop b r)

theorem Berth.woken_other {r : Berth} (h : r.presence ≠ .present) : r.woken = r := if_neg h

theorem Berth.woken_ducked (r : Berth) (d : Bool) :
    ({ r with ducked := d } : Berth).woken = { r.woken with ducked := d } := by
  by_cases h : r.presence = .present
  · rw [Berth.woken_present h, Berth.woken_present (r := { r with ducked := d }) h]
  · rw [Berth.woken_other h, Berth.woken_other (r := { r with ducked := d }) h]

section
variable {c : Class} {zone : BitVec 48} {stop : Option (Fin 64)} {b : BerthIx} {r : Berth}

/-- R76: a stop-matched berth is woken if it is PRESENT, and its alight stop becomes absent. -/
theorem wakeFor_matched (h : StopMatched c zone stop b r) :
    wakeFor c zone stop b r = { r.woken with config := { r.config with alightStop := none } } := by
  obtain ⟨rfl, hz, hs⟩ := h
  exact if_pos ⟨hz, hs⟩

/-- R76: an EMERGENCY cue wakes the berths of the zone. -/
theorem wakeFor_emergency (hc : c = .emergency) (hz : zone.getLsbD b.val = true) :
    wakeFor c zone stop b r = r.woken := by
  subst hc
  exact if_pos hz

/-- R76: every other berth stays. -/
theorem wakeFor_others (hm : ¬ StopMatched c zone stop b r) (he : ¬ (c = .emergency ∧ zone.getLsbD b.val = true)) :
    wakeFor c zone stop b r = r := by
  cases c with
  | emergency => exact if_neg fun h => he ⟨rfl, h⟩
  | safety => rfl
  | service => exact if_neg fun h => hm ⟨rfl, h⟩
  | courtesy => rfl

/-- R76: what a cue makes of the record of a berth. -/
theorem wakeFor_spec (c : Class) (zone : BitVec 48) (stop : Option (Fin 64)) (b : BerthIx) (r : Berth) :
    (Wakes c zone stop b r → (wakeFor c zone stop b r).awake = .awake ∧ (wakeFor c zone stop b r).idle = 0) ∧
    (¬ Wakes c zone stop b r →
      (wakeFor c zone stop b r).awake = r.awake ∧ (wakeFor c zone stop b r).idle = r.idle) ∧
    (StopMatched c zone stop b r → (wakeFor c zone stop b r).config = { r.config with alightStop := none }) ∧
    (¬ StopMatched c zone stop b r → (wakeFor c zone stop b r).config = r.config) ∧
    wakeFor c zone stop b r = { r with
      awake := (wakeFor c zone stop b r).awake, idle := (wakeFor c zone stop b r).idle
      config := (wakeFor c zone stop b r).config } := by
  by_cases hm : StopMatched c zone stop b r
  · rw [wakeFor_matched hm]
    by_cases hp : r.presence = .present
    · rw [Berth.woken_present hp]
      exact ⟨fun _ => ⟨rfl, rfl⟩, fun h => absurd ⟨hp, .inr hm⟩ h, fun _ => rfl, fun h => absurd hm h, rfl⟩
    · rw [Berth.woken_other hp]
      exact ⟨fun h => absurd h.1 hp, fun _ => ⟨rfl, rfl⟩, fun _ => rfl, fun h => absurd hm h, rfl⟩
  · by_cases he : c = .emergency ∧ zone.getLsbD b.val = true
    · rw [wakeFor_emergency he.1 he.2]
      by_cases hp : r.presence = .present
      · rw [Berth.woken_present hp]
        exact ⟨fun _ => ⟨rfl, rfl⟩, fun h => absurd ⟨hp, .inl he⟩ h, fun h => absurd h hm, fun _ => rfl, rfl⟩
      · rw [Berth.woken_other hp]
        exact ⟨fun h => absurd h.1 hp, fun _ => ⟨rfl, rfl⟩, fun h => absurd h hm, fun _ => rfl, rfl⟩
    · rw [wakeFor_others hm he]
      exact ⟨fun h => h.2.elim (fun h => absurd h he) fun h => absurd h hm, fun _ => ⟨rfl, rfl⟩,
        fun h => absurd h hm, fun _ => rfl, rfl⟩

/-- R76: a cue reads and writes no mark. -/
theorem wakeFor_ducked (d : Bool) :
    wakeFor c zone stop b { r with ducked := d } = { wakeFor c zone stop b r with ducked := d } := by
  by_cases hm : StopMatched c zone stop b r
  · rw [wakeFor_matched hm, wakeFor_matched (r := { r with ducked := d }) hm, Berth.woken_ducked]
  · by_cases he : c = .emergency ∧ zone.getLsbD b.val = true
    · rw [wakeFor_emergency he.1 he.2, wakeFor_emergency he.1 he.2, Berth.woken_ducked]
    · rw [wakeFor_others hm he, wakeFor_others (r := { r with ducked := d }) hm he]

/-- R75: whether a berth of the zone is in the reach of an announcement. -/
theorem reached_iff (hz : zone.getLsbD b.val = true) : reached c stop r = true ↔
    c = .emergency ∨ c = .safety ∨ (c = .service ∧ r.awake ≠ .asleep) ∨ StopMatched c zone stop b r ∨
      (c = .courtesy ∧ (r.regime = .day ∨ r.awake ≠ .asleep)) := by
  unfold StopMatched
  cases c <;> simp [reached, hz]

end

/-! ### The channel that takes the cue (R75, R78) -/

/-- R78: the state in which channel `a` begins an announcement: as it is where the channel is IDLE, else with the
preemption done. -/
def State.yielding (s : State) (a : ChannelIx) : State :=
  if s.channels[a].state = .idle then s else s.cancelForPreemption a

section
variable (s : State) (a : ChannelIx)

theorem State.yielding_same : Same [.berths, .channels] s (s.yielding a) :=
  Same.ite (.refl _ s) (State.cancelForPreemption_same s a)

/-- R78: a berth that the preempted channel governs loses its mark. -/
theorem State.yielding_berth (b : BerthIx) : (s.yielding a).berths[b] =
    if s.channels[a].state ≠ .idle ∧ s.berths[b].governing = some a then { s.berths[b] with ducked := false }
    else s.berths[b] := by
  unfold State.yielding
  by_cases h : s.channels[a].state = .idle
  · rw [if_pos h, if_neg fun k => k.1 h]
  · rw [if_neg h]
    unfold State.cancelForPreemption
    rw [State.mapBerths_get]
    exact if_congr (and_iff_right h).symm rfl rfl

/-- R78: of its berths a preemption writes the ducked mark alone. -/
theorem State.yielding_berth_only (b : BerthIx) :
    (s.yielding a).berths[b] = { s.berths[b] with ducked := (s.yielding a).berths[b].ducked } := by
  rw [State.yielding_berth]
  split <;> rfl

theorem State.yielding_ducked (b : BerthIx) : (s.yielding a).berths[b].ducked = true ↔
    s.berths[b].ducked = true ∧ ¬ (s.channels[a].state ≠ .idle ∧ s.berths[b].governing = some a) := by
  rw [State.yielding_berth]
  split
  · next h => exact iff_of_false nofun fun k => k.2 h
  · next h => exact (and_iff_left h).symm

/-- R78: of its channel a preemption writes ring and last sequence alone, and empties them. -/
theorem State.yielding_own :
    (s.yielding a).channels[a] = { s.channels[a] with
      ring := (s.yielding a).channels[a].ring, lastSeq := (s.yielding a).channels[a].lastSeq } ∧
    (s.channels[a].state = .idle → (s.yielding a).channels[a].ring = s.channels[a].ring) ∧
    (s.channels[a].state ≠ .idle → (s.yielding a).channels[a].Hollow) := by
  unfold State.yielding
  by_cases h : s.channels[a].state = .idle
  · rw [if_pos h]
    exact ⟨rfl, fun _ => rfl, fun k => absurd h k⟩
  · rw [if_neg h]
    refine ⟨?_, fun k => absurd k h, fun _ => SpeechKept.cancelForPreemption_hollow s a⟩
    rw [State.cancelForPreemption_channel, if_pos rfl]

theorem State.yielding_other {a' : ChannelIx} (h : a' ≠ a) : (s.yielding a).channels[a'] = s.channels[a'] := by
  unfold State.yielding
  split
  · rfl
  · rw [State.cancelForPreemption_channel, if_neg h]

variable (c : Class) (q : CueBody)

/-- R78: a START cue on a busy channel. -/
theorem State.takeStart_busy {cur : Class} (hi : s.channels[a].state ≠ .idle) (hc : s.channels[a].cls = some cur) :
    s.takeStart a c q =
      if c.higher cur then (s.cancelForPreemption a).beginAnnouncement a c q else s.refuseCue a := by
  unfold State.takeStart
  rw [hc]
  cases hs : s.channels[a].state with
  | idle => exact absurd hs hi
  | ducking => rfl
  | lead => rfl
  | playing => rfl

/-- R75, R78: an IDLE channel, or one of a lower class, takes the cue. -/
theorem State.takeStart_begins
    (h : s.channels[a].state = .idle ∨ ∃ cur, s.channels[a].cls = some cur ∧ c.index < cur.index) :
    s.takeStart a c q = (s.yielding a).beginAnnouncement a c q := by
  unfold State.yielding
  by_cases hi : s.channels[a].state = .idle
  · rw [if_pos hi]
    unfold State.takeStart
    rw [hi]
  · obtain ⟨cur, hc, hlt⟩ := h.resolve_left hi
    rw [if_neg hi, State.takeStart_busy s a c q hi hc]
    exact if_pos (decide_eq_true hlt)

/-- R78: a channel that carries the same class or a higher one ignores the cue. -/
theorem State.takeStart_refuses {cur : Class} (hi : s.channels[a].state ≠ .idle) (hc : s.channels[a].cls = some cur)
    (hle : cur.index ≤ c.index) : s.takeStart a c q = s.refuseCue a := by
  rw [State.takeStart_busy s a c q hi hc]
  exact if_neg fun k => absurd (of_decide_eq_true k) (not_lt.2 hle)

/-! ### The announcement begun (R75, R77, R79, R81) -/

/-- R75: the reach is that of the state before the cue. -/
theorem State.yielding_snapshot (zone : BitVec 48) (stop : Option (Fin 64)) :
    (s.yielding a).snapshot c zone stop = s.snapshot c zone stop := by
  have hr : ∀ b : BerthIx, reached c stop (s.yielding a).berths[b] = reached c stop s.berths[b] := fun b => by
    rw [State.yielding_berth_only]
    rfl
  unfold State.snapshot
  simp only [hr]

theorem State.snapshot_iff (zone : BitVec 48) (stop : Option (Fin 64)) (b : BerthIx) :
    (s.snapshot c zone stop).getLsbD b.val = true ↔ zone.getLsbD b.val = true ∧
      (c = .emergency ∨ c = .safety ∨ (c = .service ∧ s.berths[b].awake ≠ .asleep) ∨
        StopMatched c zone stop b s.berths[b] ∨
        (c = .courtesy ∧ (s.berths[b].regime = .day ∨ s.berths[b].awake ≠ .asleep))) := by
  unfold State.snapshot
  rw [berthSet_getLsbD, Bool.and_eq_true]
  exact and_congr_right fun hz => reached_iff hz

/-- R75 to R78: the state in which governing is settled for a cue that channel `a` takes. -/
def State.cueing : State := (s.yielding a).cued a c q

theorem State.takeStart_settles
    (h : s.channels[a].state = .idle ∨ ∃ cur, s.channels[a].cls = some cur ∧ c.index < cur.index) :
    s.takeStart a c q = (s.cueing a c q).settleGoverning := s.takeStart_begins a c q h

/-- R77: the record of the channel when governing is settled. -/
def State.cueRecord : Channel :=
  { s.channels[a].begun c (s.snapshot c (s.zoneAt q.zone) (stopOf q.stop)) q with
    ring := (s.yielding a).channels[a].ring }

theorem State.yielding_zoneAt (code : Byte) : (s.yielding a).zoneAt code = s.zoneAt code := by
  unfold State.zoneAt
  rw [(s.yielding_same a).zones (by decide)]

theorem State.cueing_own : (s.cueing a c q).channels[a] = s.cueRecord a c q := by
  unfold State.cueing State.cueRecord
  rw [State.cued_channel, if_pos rfl, State.yielding_snapshot, State.yielding_zoneAt, (s.yielding_own a).1]
  rfl

theorem State.cueing_other : (s.cueing a c q).channels[otherChannel a] = s.channels[otherChannel a] := by
  unfold State.cueing
  rw [State.cued_channel, if_neg (otherChannel_ne a), State.yielding_other s a (otherChannel_ne a)]

theorem State.cueing_berth (b : BerthIx) : (s.cueing a c q).berths[b] =
    { wakeFor c (s.zoneAt q.zone) (stopOf q.stop) b s.berths[b] with
      ducked := (s.yielding a).berths[b].ducked } := by
  unfold State.cueing
  rw [State.cued_berth, State.yielding_zoneAt, State.yielding_berth_only, wakeFor_ducked]

end

/-- R81 to R83: a release writes of a record its state, lead, stall run and presented block alone. -/
theorem Released.only {t : State} {a : ChannelIx} {ch : Channel} (h : Released t a ch) (hs : ch.stall = 0) :
    t.channels[a] = { ch with
      state := t.channels[a].state, lead := t.channels[a].lead, presented := t.channels[a].presented } := by
  obtain ⟨h1, h2⟩ := (released_iff t a ch).1 h
  by_cases hw : ch.state ≠ .ducking ∨ Waits t a
  · rw [h1 hw]
  · obtain ⟨hd, hn⟩ := not_or.1 hw
    rw [h2 (not_not.1 hd) hn]
    unfold Channel.freed
    split
    · exact congrArg (fun n => { ch with state := .playing, lead := 0, stall := n, presented := .silence }) hs.symm
    · rfl

/-- R81: a channel found in DUCKING stays in it exactly while a berth waits. -/
theorem Released.ducking_iff {t : State} {a : ChannelIx} {ch : Channel} (h : Released t a ch)
    (hd : ch.state = .ducking) : t.channels[a].state = .ducking ↔ Waits t a := by
  obtain ⟨h1, h2⟩ := (released_iff t a ch).1 h
  refine ⟨fun k => by_contra fun hn => ?_, fun hw => ?_⟩
  · rw [h2 hd hn] at k
    exact ch.freed_state _ k
  · rw [h1 (.inr hw)]
    exact hd

/-- R81: a release never leads to IDLE. -/
theorem Released.busy {t : State} {a : ChannelIx} {ch : Channel} (h : Released t a ch) (hb : ch.state ≠ .idle) :
    t.channels[a].state ≠ .idle := by
  obtain ⟨h1, h2⟩ := (released_iff t a ch).1 h
  by_cases hw : ch.state ≠ .ducking ∨ Waits t a
  · rw [h1 hw]
    exact hb
  · obtain ⟨hd, hn⟩ := not_or.1 hw
    rw [h2 (not_not.1 hd) hn]
    unfold Channel.freed
    split <;> exact nofun

end Sys2Proof.Machine
end

section
/-! PROOF. The START cue that is taken, and the one that is refused (R74 to R79, R81 to R83, R103). -/

namespace Sys2Proof.Machine

/-! ### What a cue leaves that is taken -/

section
variable {s t : State} {a : ChannelIx} {c : Class} {q : CueBody}

/-- R76: the presence and the governing channel of a berth before governing is settled are those before the cue. -/
theorem State.cueing_keeps (s : State) (a : ChannelIx) (c : Class) (q : CueBody) (b : BerthIx) :
    (s.cueing a c q).berths[b].presence = s.berths[b].presence ∧
    (s.cueing a c q).berths[b].governing = s.berths[b].governing := by
  obtain ⟨-, -, -, -, e⟩ := wakeFor_spec c (s.zoneAt q.zone) (stopOf q.stop) b s.berths[b]
  rw [State.cueing_berth, e]
  exact ⟨rfl, rfl⟩

theorem State.startCueTaken_eq (s : State) {q : CueBody} {a : ChannelIx} {c : Class} (ha : q.channel.toNat = a.val)
    (hc : q.cls.toNat = c.index.val) (hg : startFieldsGood q = true) : s.startCueTaken q = s.takeStart a c q := by
  unfold State.startCueTaken
  rw [channelOf_some ha, classOf_some hc]
  exact if_pos hg

/-- R75 to R79: `t` is what a START cue of class `c` leaves of `s` that channel `a` takes. -/
def CueTaken (s : State) (a : ChannelIx) (c : Class) (q : CueBody) (t : State) : Prop :=
  t = (s.cueing a c q).settleGoverning

theorem CueTaken.exists (s : State) (a : ChannelIx) (c : Class) (q : CueBody) : ∃ t, CueTaken s a c q t :=
  ⟨(s.cueing a c q).settleGoverning, rfl⟩

namespace CueTaken
variable (h : CueTaken s a c q t)
include h

/-- R75, R78: an IDLE channel, or one of a lower class, takes a good cue. -/
theorem startCue (ha : q.channel.toNat = a.val) (hc : q.cls.toNat = c.index.val) (hg : startFieldsGood q = true)
    (htakes : s.channels[a].state = .idle ∨ ∃ cur, s.channels[a].cls = some cur ∧ c.index < cur.index) :
    s.startCueTaken q = t := by
  rw [h, State.startCueTaken_eq s ha hc hg, State.takeStart_settles s a c q htakes]

/-- R75 to R79: of the part it writes berths and channels alone. -/
theorem same : Same [.berths, .channels] s t := by
  rw [h]
  exact (s.yielding_same a).trans (State.beginAnnouncement_same _ a c q)

/-- R75 to R79: what it makes of the record of a berth. -/
theorem berth (b : BerthIx) : t.berths[b] =
    { wakeFor c (s.zoneAt q.zone) (stopOf q.stop) b s.berths[b] with
      governing := t.berths[b].governing, ducked := t.berths[b].ducked } := by
  rw [h, State.settleGoverning_get, regoverned_only, State.cueing_berth]

/-- R76: the berths that the cue wakes are AWAKE with no idle seconds; no other changes in either. -/
theorem wakes (b : BerthIx) :
    (Wakes c (s.zoneAt q.zone) (stopOf q.stop) b s.berths[b] → t.berths[b].awake = .awake ∧ t.berths[b].idle = 0) ∧
    (¬ Wakes c (s.zoneAt q.zone) (stopOf q.stop) b s.berths[b] →
      t.berths[b].awake = s.berths[b].awake ∧ t.berths[b].idle = s.berths[b].idle) := by
  obtain ⟨hw, hn, -⟩ := wakeFor_spec c (s.zoneAt q.zone) (stopOf q.stop) b s.berths[b]
  rw [h.berth]
  exact ⟨hw, hn⟩

/-- R76: it makes the alight stop of the stop-matched berths absent, and leaves every other setting. -/
theorem config (b : BerthIx) :
    (StopMatched c (s.zoneAt q.zone) (stopOf q.stop) b s.berths[b] →
      t.berths[b].config = { s.berths[b].config with alightStop := none }) ∧
    (¬ StopMatched c (s.zoneAt q.zone) (stopOf q.stop) b s.berths[b] → t.berths[b].config = s.berths[b].config) := by
  obtain ⟨-, -, hm, hn, -⟩ := wakeFor_spec c (s.zoneAt q.zone) (stopOf q.stop) b s.berths[b]
  rw [h.berth]
  exact ⟨hm, hn⟩

/-- R76 to R79: of a berth it writes these fields alone. -/
theorem berth_only (b : BerthIx) : t.berths[b] = { s.berths[b] with
    awake := t.berths[b].awake, idle := t.berths[b].idle, config := t.berths[b].config
    governing := t.berths[b].governing, ducked := t.berths[b].ducked } := by
  obtain ⟨-, -, -, -, e⟩ := wakeFor_spec c (s.zoneAt q.zone) (stopOf q.stop) b s.berths[b]
  have hb := h.berth b
  rw [e] at hb
  rw [hb]

theorem presence (b : BerthIx) : t.berths[b].presence = s.berths[b].presence := by
  rw [h.berth_only]

/-- R79, R103: a PRESENT berth is governed as the new records choose. -/
theorem governs {b : BerthIx} (hp : s.berths[b].presence = .present) : Governs t b t.berths[b].governing := by
  have hg : Governed t := h ▸ State.settleGoverning_governed _
  exact hg.governs ((h.presence b).trans hp)

/-- R79: a berth that is not PRESENT is governed as before. -/
theorem others {b : BerthIx} (hp : s.berths[b].presence ≠ .present) :
    t.berths[b].governing = s.berths[b].governing := by
  obtain ⟨hpres, hgov⟩ := s.cueing_keeps a c q b
  rw [h, (Regoverned.settleGoverning _).others b (by rw [hpres]; exact hp), hgov]

/-- R78, R79, R103: a mark stays where what governs stays, and the channel was not preempted under it. -/
theorem ducked (b : BerthIx) : t.berths[b].ducked = true ↔
    s.berths[b].ducked = true ∧ t.berths[b].governing = s.berths[b].governing ∧
      ¬ (s.channels[a].state ≠ .idle ∧ s.berths[b].governing = some a) := by
  have hd : (s.cueing a c q).berths[b].ducked = (s.yielding a).berths[b].ducked := by rw [State.cueing_berth]
  rw [h, State.settleGoverning_get, regoverned_ducked, (s.cueing_keeps a c q b).2, hd, State.yielding_ducked]
  exact and_right_comm.trans and_assoc

/-- R81 to R83: the channel evaluates its release on the record begun. -/
theorem released : Released t a (s.cueRecord a c q) := by
  rw [h, ← State.cueing_own]
  exact State.settleGoverning_released _ a

/-- R81: and the other channel on its own. -/
theorem released_other : Released t (otherChannel a) s.channels[otherChannel a] := by
  rw [h, ← State.cueing_other s a c q]
  exact State.settleGoverning_released _ (otherChannel a)

/-- R77, R82: the record of the channel is the one begun, but for what a release writes. -/
theorem own : t.channels[a] = { s.cueRecord a c q with
    state := t.channels[a].state, lead := t.channels[a].lead, presented := t.channels[a].presented } :=
  h.released.only rfl

/-- R75, R77, R78: the fields of the record that no release writes. -/
theorem begun : t.channels[a].cls = some c ∧ t.channels[a].nextSeq = q.sequence ∧ t.channels[a].lastSeq = none ∧
    t.channels[a].stall = 0 ∧ t.channels[a].counts = s.channels[a].counts ∧
    t.channels[a].caption = streamOf q.caption ∧ t.channels[a].leadOverride = overrideOf q.leadOverride ∧
    t.channels[a].ring = (s.yielding a).channels[a].ring ∧
    t.channels[a].reach = s.snapshot c (s.zoneAt q.zone) (stopOf q.stop) := by
  rw [h.own]
  exact ⟨rfl, rfl, rfl, rfl, rfl, rfl, rfl, rfl, rfl⟩

/-- R77: the record begun, with what no release writes read off `t`. -/
theorem record : { s.channels[a] with
      state := .ducking, cls := some c, reach := t.channels[a].reach, caption := t.channels[a].caption
      leadOverride := t.channels[a].leadOverride, nextSeq := q.sequence, lastSeq := none, lead := 0, stall := 0
      presented := .absent, ring := t.channels[a].ring } = s.cueRecord a c q := by
  rw [h.own]
  rfl

end CueTaken

/-- R75, R78: a good cue that an IDLE channel takes, or one of a lower class, while in SERVICE. The state `u` that it
acts on has the berths, channels and zones of `s`. -/
theorem exec_startCue_taken (h : Header) (hh : s.held = none) (hm : s.mgmt.mode = .service)
    (ha : q.channel.toNat = a.val) (hc : q.cls.toNat = c.index.val) (hg : startFieldsGood q = true)
    (htakes : s.channels[a].state = .idle ∨ ∃ cur, s.channels[a].cls = some cur ∧ c.index < cur.index) :
    ∃ t u, exec (.startCue h q) s = .next t ∧
      t = { s with berths := t.berths, channels := t.channels, up := s.receivedU.up
                   thru := s.thru.enqueue (parcelOf .announceCue h (cueBytes 1 q)) } ∧
      u.berths = s.berths ∧ u.channels = s.channels ∧ u.zoneAt q.zone = s.zoneAt q.zone ∧ CueTaken u a c q t := by
  obtain ⟨t, htaken⟩ : ∃ t, CueTaken (s.withParcel (parcelOf .announceCue h (cueBytes 1 q))) a c q t :=
    CueTaken.exists _ a c q
  exact ⟨t, s.withParcel _, exec_media hh hm rfl (htaken.startCue ha hc hg htakes), htaken.same.eq_governing, rfl, rfl,
    rfl, htaken⟩

/-- R74 to R78: the cue is refused where the channel carries its class or a higher one. -/
theorem exec_startCue_refused (h : Header) {cur : Class} (hh : s.held = none) (hm : s.mgmt.mode = .service)
    (ha : q.channel.toNat = a.val) (hc : q.cls.toNat = c.index.val) (hg : startFieldsGood q = true)
    (hb : s.channels[a].state ≠ .idle) (hcur : s.channels[a].cls = some cur) (hle : cur.index ≤ c.index) :
    exec (.startCue h q) s = .next ((s.withParcel (parcelOf .announceCue h (cueBytes 1 q))).refuseCue a) :=
  exec_media hh hm rfl ((State.startCueTaken_eq _ ha hc hg).trans (State.takeStart_refuses _ a c q hb hcur hle))

end

end Sys2Proof.Machine

open Sys2Proof
open Sys2Proof.Machine

/-- Settles O15: each clause is a rule of what a cue leaves that is taken (`CueTaken`). -/
theorem startCueRule : Obligations.StartCueRule := by
  refine ⟨startFieldsGood_iff, fun s code z => s.zoneAt_eq, ⟨rfl, rfl, rfl⟩,
    fun h q a cl s hh hm ha hc hgood htakes => ?_,
    fun h q a cl cur s hh hm ha hc hgood hb hcur hle => exec_startCue_refused h hh hm ha hc hgood hb hcur hle⟩
  obtain ⟨-, -, hstop, hcaption, hlead⟩ := (startFieldsGood_iff q).1 hgood
  obtain ⟨t, u, hstep, hsame, hberths, hchannels, hzone, htaken⟩ := exec_startCue_taken h hh hm ha hc hgood htakes
  obtain ⟨hcls, hseq, hlast, hstall, hcounts, hcap, hover, hring, hreach⟩ := htaken.begun
  obtain ⟨-, hkept, hemptied⟩ := u.yielding_own a
  have hrel := htaken.released
  rw [← hberths, ← hchannels, ← hzone]
  intro zone matched woken
  have hmatched : ∀ b, StopMatched cl zone (stopOf q.stop) b u.berths[b] ↔ matched b := fun b =>
    and_congr_right fun _ => and_congr_right fun _ => stopOf_matches hstop _
  have hwoken : ∀ b, Wakes cl zone (stopOf q.stop) b u.berths[b] ↔ woken b := fun b =>
    and_congr_right fun _ => or_congr_right (hmatched b)
  refine ⟨t, hstep, hsame, hcls, hseq, hlast, hstall, hcounts, ?_, ?_, fun hi => hring.trans (hkept hi), fun hn i => ?_,
    fun b => ?_, fun b => ⟨fun k => (htaken.wakes b).1 ((hwoken b).2 k),
      fun k => (htaken.wakes b).2 (mt (hwoken b).1 k), fun k => (htaken.config b).1 ((hmatched b).2 k),
      fun k => (htaken.config b).2 (mt (hmatched b).1 k), htaken.berth_only b, htaken.governs, htaken.others,
      htaken.ducked b⟩,
    hrel.busy nofun, hrel.ducking_iff rfl, ?_, htaken.released_other⟩
  · rw [hcap, streamOf_map hcaption]
  · rw [hover, overrideOf_map hlead]
  · rw [hring]
    exact hemptied hn i
  · rw [hreach]
    refine (u.snapshot_iff cl zone (stopOf q.stop) b).trans (and_congr_right fun _ => ?_)
    exact or_congr_right (or_congr_right (or_congr_right (or_congr_left (hmatched b))))
  · rwa [htaken.record]
end
